-- ==== Sys2Proof/Word.lean ====
section
/-! DEFINITION. The word types of the control window and of the packets (R7, R8) and their plainest arithmetic. -/

namespace Sys2Proof

/-- One byte of a packet, descriptor or record (R8). -/
abbrev Byte := BitVec 8

/-- One 32-bit register of BAR0 or word of the report FIFO (R14, R140). -/
abbrev Word := BitVec 32

/-- One 16-bit field: a tag, a verb, an object handle, a free-running ring counter (R88, R113). -/
abbrev Half := BitVec 16

/-- One 10-bit code group, bit a highest (R218). -/
abbrev CodeGroup := BitVec 10

/-- A `Nat` as a 32-bit word, modulo 2^32. -/
abbrev w32 (n : Nat) : Word := BitVec.ofNat 32 n

/-- A `Nat` as a 16-bit field, modulo 2^16. -/
abbrev h16 (n : Nat) : Half := BitVec.ofNat 16 n

/-- A `Nat` as a byte, modulo 2^8. -/
abbrev b8 (n : Nat) : Byte := BitVec.ofNat 8 n

/-- One bit time of the lamp link (10 R490): the levels of its two halves, true for high. -/
abbrev BitTime := Bool × Bool

end Sys2Proof
end

