-- ==== Sys2Proof/Syntax.lean ====
section
/-! DEFINITION. The commands the block takes: one constructor per row of the table of operations and events, with the
row's operands. A verb's row carries the command packet's fields; an event's row carries the facts the outside world
fixes when it happens (a pin's history, a conversion's code, a packet's bytes). -/

namespace Sys2Proof

/-- The channel a verb came on (R95, R119, R699). -/
inductive Chan where
  /-- The command ring. -/
  | ring
  /-- The firmware urgent slot. -/
  | urgent
  /-- A relayed command, from the node with this ID (R700). -/
  | relay (origin : Nat)
  deriving DecidableEq, Repr, Inhabited

/-- What one posted host-to-device descriptor is: the half of it that the host has written (R406, bytes 0x00 to 0x0F), the
LENGTH bytes that lie at its ADDR, and whether the reads of the two succeed (R138, R166). -/
structure UpDesc where
  host : List Byte
  data : List Byte
  ok : Bool
  deriving DecidableEq, Repr, Inhabited

/-- A verb as firmware takes it (R88): the header's fields, the payload, the channel; and what lies outside the packet:
the contents of the upload descriptors posted, in order, and whether an action on an outside part (erase, program and
read back the flash) succeeds. -/
structure Req where
  tag : Half
  obj : Half
  mods : Half
  payload : List Byte
  chan : Chan
  upload : List UpDesc
  partOk : Bool
  deriving DecidableEq, Repr, Inhabited

/-- The half of a device-to-host descriptor that the host has written: its bytes 0x00 to 0x0F (R406). -/
structure Desc where
  host : List Byte
  deriving DecidableEq, Repr, Inhabited

/-- What one data lane of a segment port receives from a `SOP` on: the code-group slot of its first code group at the device's
pins, the receiver's running disparity before it (true: positive), and the code groups (R218, R245, R246). -/
structure LaneRx where
  slot : Nat
  pos : Bool
  groups : List CodeGroup
  deriving DecidableEq, Repr, Inhabited

/-- What a lane carrying PRBS-7 receives in one window of 1,024 code groups: the checker's register before it, latest bit lowest,
and the bits (R239). -/
structure PrbsRx where
  reg : BitVec 7
  bits : List Bool
  deriving DecidableEq, Repr, Inhabited

/-- What one data lane received over the last window of 1,024 code groups, as its role reads it (R267): code groups from a
running disparity on, the code groups since the last IDLE or SOP, and PRBS-7 bits. -/
structure LaneWatch where
  pos : Bool
  groups : List CodeGroup
  silent : Nat
  prbs : PrbsRx
  deriving DecidableEq, Repr, Inhabited

/-- What a Prism port receives: the running disparity before the first code group (true: positive), and the code groups: of a message
from its SOM to its EOM, of a NAK sequence, or of the stream that code errors are counted in (R664, R670). -/
structure PrismRx where
  pos : Bool
  groups : List CodeGroup
  deriving DecidableEq, Repr, Inhabited

/-- How a lane compares with its COPY: the packets and the code groups compared so far, the code groups that differed, and the code
errors on the COPY (R268, R270). -/
structure CopyCompare where
  packets : Nat
  groups : Nat
  differ : Nat
  errors : Nat
  deriving DecidableEq, Repr, Inhabited

/-- The bits that one device lane of a port has received of the PRBS-7 sequence (R239). -/
structure LaneBits where
  ln : Nat
  bits : List Bool
  deriving DecidableEq, Repr, Inhabited

/-- The code-group slot in which the first SOP arrived on each device lane of a port since the roles last changed (R244). -/
structure Sops where
  port : Nat
  slots : List (Option Nat)
  deriving DecidableEq, Repr, Inhabited

/-- How long RESET_N has been low, in ns, and whether it has been released since (R42). -/
structure PinLow where
  ns : Nat
  released : Bool
  deriving DecidableEq, Repr, Inhabited

/-- What a measurement window gives: the filter's output, and since the slot's start the spans in which BLANK was high, in ns of
local time (R581, R587). -/
structure TfeWindow where
  x : Int
  blank : List (Nat × Nat)
  deriving DecidableEq, Repr, Inhabited

/-- What a host's write of 32 bits addresses: the control window, the MSI-X table and pending bits (R78), or the function's
configuration space (R78, R80). -/
inductive Window where
  | bar0 | bar2 | config
  deriving DecidableEq, Repr, Inhabited

/-- An address a host can write to: a window, and the offset in it (R78). -/
structure HostAddr where
  win : Window
  offset : Nat
  deriving DecidableEq, Repr, Inhabited

/-- What the average-current monitor of a string measured over one interval of constant n in the line that a line mark
ends (R486, R487): the lamps lit, the switching periods, the sum of the sense codes over them, and the mean of STRn_VS in
mV. -/
structure Mon where
  str : Nat
  lit : Nat
  periods : Nat
  codeSum : Nat
  mv : Nat
  deriving DecidableEq, Repr, Inhabited

/-- The commands of the block: one constructor for each row of the table of operations and events. -/
inductive Instr where
  /-- POWER_ON (R35). VAON rises through its power-on threshold and a system reset takes hold. -/
  | powerOn
  /-- RESET_N_LOW (R35). RESET_N held low for at least 1 µs causes a system reset and sets RESET_PIN. -/
  | resetNLow (low : PinLow)
  /-- PERST_N_FALL (R827). A falling edge of PERST_N while the core is powered and out of reset causes a core reset that includes the PCIe link. -/
  | perstNFall
  /-- PERST_N_RISE (R60). Release of PERST_N lets the enabled PCIe endpoint begin link training. -/
  | perstNRise
  /-- SOFT_RESET_CORE (R44). A keyed write of SOFT_RESET with CORE set requests a core reset, optionally with BOOT_FROM_HOST for
  the following boot. -/
  | softResetCore (v : Word)
  /-- SOFT_RESET_CONTROL (R44). A keyed write of SOFT_RESET with CONTROL alone requests a control reset. -/
  | softResetControl (v : Word)
  /-- THERMAL_SHUTDOWN (R41). The junction reaches 160 °C and the always-on comparator holds the core in reset and sets THERMAL. -/
  | thermalShutdown
  /-- THERMAL_SHUTDOWN_RELEASE (R41). The junction has read below 140 °C for 100 ms and the core leaves thermal reset. -/
  | thermalShutdownRelease
  /-- WATCHDOG_EXPIRY (R69). Firmware has not kicked the watchdog for WDOG_MS, so a control reset occurs and WDOG_COUNT increments. -/
  | watchdogExpiry
  /-- DEBUG_RESET_REQUEST (R35). A debugger with full-debug unlock requests a control reset, which sets RESET_CAUSE DEBUG. -/
  | debugResetRequest
  /-- DEBUG_CHALLENGE_RESPONSE (R73). A debugger response to the challenge is verified, and the debug port either unlocks or counts
  a failed attempt. -/
  | debugChallengeResponse (scope : Byte) (key : List Byte) (signature : List Byte)
  /-- DEBUG_HALT (R76). A debugger halts the control processor, and the hardware first freezes capture, makes the lamps safe and halts motion. -/
  | debugHalt
  /-- TAP_RESET (R42). A JTAG TAP reset resets only the TAP and the debug port. -/
  | tapReset
  /-- CLOCK_FAULT (R34). The 25 MHz reference stops for 400 ns or the root PLL loses lock, so the hardware applies the stop
  effects, moves the processor to the RC oscillator and asserts FAULT_N. -/
  | clockFault (refLost : Bool)
  /-- ROOT_PLL_LOCK (R32). The root PLL reports lock, and firmware raises VDD_CORE, holds it and switches the processor to CPU_CLK. -/
  | rootPllLock
  /-- PLL_FAIL (R62). The root PLL has failed to lock after three attempts, so firmware sets REASON PLL_FAIL and STATE FAILED. -/
  | pllFail
  /-- BOOT_ROM_START (R55). Once reset is released, the boot ROM starts on the RC oscillator, enables the endpoint and selects
  image sources by boot policy. -/
  | bootRomStart
  /-- FLASH_IMAGE_LOADED (R57). The flash body has been read and hashed, and the boot ROM verifies it and falls back to another
  slot or source on failure. -/
  | flashImageLoaded
  /-- HOST_IMAGE_RECEIVED (R58). IMAGE_SIZE bytes have arrived on data ring 0 in WAIT_HOST, and the boot ROM verifies the image. -/
  | hostImageReceived (descs : List UpDesc)
  /-- FW_RUNNING (R62). Firmware sets RUNNING and serves the command ring up to the tail then held. -/
  | fwRunning
  /-- URG_DOORBELL (R97). A write of URG_DOORBELL latches the urgent window, checks it, and executes a hardware verb, refuses the
  packet or places it in the firmware slot. -/
  | urgDoorbell (v : Word)
  /-- FIRMWARE_URGENT_COMMAND (R101). Firmware serves the command in the urgent slot ahead of the ring, writes URG_FW_REPLY and releases the slot. -/
  | firmwareUrgentCommand (up : List UpDesc) (partOk : Bool)
  /-- NRM_DOORBELL_CMD (R117). A write of NRM_DOORBELL with CMD set asks the device to read commands up to the CMD_RING_TAIL then held. -/
  | nrmDoorbellCmd (v : Word)
  /-- NRM_DOORBELL_RINGS (R829). A write of NRM_DOORBELL with ring bits set makes descriptors up to each ring's current RING_TAIL
  available for service. -/
  | nrmDoorbellRings (v : Word)
  /-- COMMAND_TAKEN (R119). Firmware reserves a reply slot, takes the next command from the ring, advances CMD_RING_HEAD and executes it. -/
  | commandTaken (packet : List Byte) (up : List UpDesc) (partOk : Bool)
  /-- COMMAND_FETCH_ERROR (R124). A read of the command ring ends in an error or a timeout, so FETCH_ERR is set and reading stops. -/
  | commandFetchError
  /-- RING_SIZE_WRITE (R115). A write to CMD_RING_SIZE or REPLY_RING_SIZE enables, disables or is refused for that ring and resets its counters. -/
  | ringSizeWrite (reply : Bool) (v : Word)
  /-- REPLY_RING_HEAD_WRITE (R122). The host advances REPLY_RING_HEAD, which frees the consumed reply slots for reservation. -/
  | replyRingHeadWrite (v : Word)
  /-- CMD_STATUS_CLEAR (R125). The host clears FETCH_ERR or OVERRUN, so command reading can resume at the next doorbell. -/
  | cmdStatusClear (v : Word)
  /-- REPORT_DATA_READ (R144). A read of REPORT_DATA pops the oldest committed word of the report FIFO. -/
  | reportDataRead
  /-- RING_TAIL_WRITE (R405). A write of a data ring's RING_TAIL is checked against the outstanding-descriptor limits and is stored
  or refused with POST_REJECT. -/
  | ringTailWrite (k : Nat) (v : Word)
  /-- DATA_RING_SIZE_WRITE (R136). A write of a data ring's RING_SIZE is accepted only for a valid power of two while the ring is disabled. -/
  | dataRingSizeWrite (k : Nat) (v : Word)
  /-- RING_CTRL_ENABLE (R403). A write to RING_CTRL that sets ENABLE is checked for size, stream and direction, and on acceptance
  resets the ring counters. -/
  | ringCtrlEnable (k : Nat) (v : Word)
  /-- RING_CTRL_DISABLE (R412). Clearing ENABLE completes the descriptor in progress, leaves the others outstanding and holds back
  line delivery on that ring. -/
  | ringCtrlDisable (k : Nat) (v : Word)
  /-- RING_STATUS_CLEAR (R139). The host clears a data ring's FETCH_ERR, so the ring can retry its failed descriptor at the next doorbell. -/
  | ringStatusClear (k : Nat) (v : Word)
  /-- DESCRIPTOR_FETCH_ERROR (R138). A descriptor or host-to-device data read fails, so the ring stops and FETCH_ERR is set. -/
  | descriptorFetchError (k : Nat)
  /-- INT_MASK_WRITE (R154). A write of INT_MASK that unmasks a set source sends its pending MSI-X message. -/
  | intMaskWrite (v : Word)
  /-- REGISTER_WRITE (R11). A write to a BAR0 register with no row of its own acts as its access code states. -/
  | registerWrite (addr : HostAddr) (v : Word)
  /-- D3HOT_ENTRY (R84). The host moves the function to D3hot, so the hardware applies the stop effects and BAR0 and BAR2 return
  Unsupported Request. -/
  | d3hotEntry
  /-- BAR_ACCESS_IN_D3HOT (R84). A memory request to BAR0 or BAR2 in D3hot is completed as Unsupported Request and has no effect. -/
  | barAccessInD3hot
  /-- D0_RETURN (R84). The function returns to D0, and the stop effects remain until their ending verbs. -/
  | d0Return
  /-- LINK_TRAINED (R79). The PCIe link settles at a speed and width, and HOST_LINK is updated. -/
  | linkTrained (speed : Nat) (width : Nat)
  /-- LINK_DOWN (R769). The PCIe link leaves L0 and L1 by a path other than the L2 handshake, and the stop effects apply. -/
  | linkDown
  /-- LINK_RETURN_L0 (R769). The PCIe link returns to L0 and is no longer counted as down. -/
  | linkReturnL0
  /-- HALT_MOTION (R106). A hardware urgent verb that stops all step pulses, empties the queues and sets references to standstill. -/
  | haltMotion (tag : Half) (obj : Half) (mods : Half) (len : Nat)
  /-- LAMPS_SAFE (R106). A hardware urgent verb that turns every lamp-string stage off with both gates low. -/
  | lampsSafe (tag : Half) (obj : Half) (mods : Half) (len : Nat)
  /-- CAPTURE_FREEZE (R106). A hardware urgent verb after which no further line trigger is admitted. -/
  | captureFreeze (tag : Half) (obj : Half) (mods : Half) (len : Nat)
  /-- CONTROL_RESET (R37). A hardware urgent verb that replies, applies the stop effects, discards unread commands and resets the
  control processor. -/
  | controlReset (tag : Half) (obj : Half) (mods : Half) (len : Nat)
  /-- SYS_PING (R172). A command that echoes its payload. -/
  | sysPing (r : Req)
  /-- SYS_INFO (R172). A command that returns the identity, digests, epoch, line state and protocol minor. -/
  | sysInfo (r : Req)
  /-- SYS_TIME (R172). A command that steps system time, or begins a bounded slew toward TIME_NS. -/
  | sysTime (r : Req)
  /-- FW_FLASH (R173). A command that checks an uploaded image and writes it to a flash slot. -/
  | fwFlash (r : Req)
  /-- FW_COMMIT (R54). A command that commits the running image and raises the anti-rollback counter. -/
  | fwCommit (r : Req)
  /-- FW_STATUS (R172). A command that returns the counter, revocations, boot policy and the flash slot headers. -/
  | fwStatus (r : Req)
  /-- FW_POLICY (R55). A command that writes the boot policy word to the persistent store. -/
  | fwPolicy (r : Req)
  /-- DECLARE_BOARD (R210). A command that validates a board declaration and, unless CHECK_ONLY is set, accepts it and starts bring-up. -/
  | declareBoard (r : Req)
  /-- DECLARE_QUERY (R172). A command that returns the accepted record covering an object. -/
  | declareQuery (r : Req)
  /-- LINE_ARM (R214). A command that makes the arming checks and enters ARMED, locally or for a system run. -/
  | lineArm (r : Req)
  /-- LINE_START (R175). A command that sets the start point of the grid and, in scan mode, starts the feed axis. -/
  | lineStart (r : Req)
  /-- LINE_STOP (R176). A command that ends a run, stops it through a seam, or ends a calibration, at once or deferred to a line. -/
  | lineStop (r : Req)
  /-- LINE_CONFIG (R179). A command that applies parameter entries together at one line boundary, at once or deferred. -/
  | lineConfig (r : Req)
  /-- LINE_RECONFIGURE (R180). A command that replaces geometry, colour and segment records, at once or by its change policy. -/
  | lineReconfigure (r : Req)
  /-- LINE_MIRROR (R385). A command that selects the mirror point, its scope and its decimation. -/
  | lineMirror (r : Req)
  /-- LINE_STATUS (R174). A command that returns line state, speed, last admitted and delivered lines, epoch and counts. -/
  | lineStatus (r : Req)
  /-- CAL_DARK (R335). A command that runs a dark calibration and writes the dark tables to the loaded bank. -/
  | calDark (r : Req)
  /-- CAL_WHITE (R339). A command that runs a white calibration and writes the shading and defect tables. -/
  | calWhite (r : Req)
  /-- CAL_LOAD (R324). A command that writes one uploaded table into the loaded bank. -/
  | calLoad (r : Req)
  /-- CAL_SWAP (R327). A command that swaps the active and loaded banks, at once or at a named line. -/
  | calSwap (r : Req)
  /-- CAL_LANES (R273). A command that reports, recalibrates, freezes or releases a port's lane settings. -/
  | calLanes (r : Req)
  /-- CAL_PLACE (R363). A command that reads, freezes, releases or sets a segment's across-bar shift. -/
  | calPlace (r : Req)
  /-- LAMP_SET (R488). A command that sets string levels, starting or stepping strings under grants. -/
  | lampSet (r : Req)
  /-- LAMP_OFF (R187). A command that turns the addressed string stages off. -/
  | lampOff (r : Req)
  /-- LAMP_DUTY (R489). A command that sets flattening duties, applied at the next line mark. -/
  | lampDuty (r : Req)
  /-- LAMP_TEST (R517). A command that measures a string's V-I points with bypass open. -/
  | lampTest (r : Req)
  /-- LAMP_RECOVER (R518). A command that puts a string into recovery current or, with LEAVE, returns it to its set level. -/
  | lampRecover (r : Req)
  /-- LAMP_STATUS (R187). A command that returns each string's state, faults, current, voltage and ceiling. -/
  | lampStatus (r : Req)
  /-- AXIS_MOVE (R546). A command that queues or replaces a move of one axis. -/
  | axisMove (r : Req)
  /-- AXIS_GROUP_MOVE (R561). A command that queues an interpolated move of a group. -/
  | axisGroupMove (r : Req)
  /-- AXIS_STOP (R555). A command that empties the queue and decelerates, normally or at D_EMERG. -/
  | axisStop (r : Req)
  /-- AXIS_SET_POS (R557). A command that sets the step position, and optionally the encoder count, at standstill. -/
  | axisSetPos (r : Req)
  /-- AXIS_ENABLE (R538). A command that enables an axis, clearing faults and taking a stall reference, or disables it. -/
  | axisEnable (r : Req)
  /-- AXIS_STATUS (R576). A command that returns each axis's state, queue depth, position, count and speed. -/
  | axisStatus (r : Req)
  /-- TEMP_READ (R190). A command that returns sensor readings, threshold states and the die temperature. -/
  | tempRead (r : Req)
  /-- TEMP_THRESHOLD (R596). A command that sets a sensor's thresholds and dwell from its next reading. -/
  | tempThreshold (r : Req)
  /-- HK_SEQUENCE (R602). A command that sets the housekeeping sequence, applied at the next sequence start. -/
  | hkSequence (r : Req)
  /-- HK_READ (R604). A command that returns the latest result of each sequence entry. -/
  | hkRead (r : Req)
  /-- CAM_CONFIG (R630). A command that replaces sections of a camera context that is not running. -/
  | camConfig (r : Req)
  /-- CAM_START (R656). A command that arms a camera receiver with a context, or sets a context switch on a running one. -/
  | camStart (r : Req)
  /-- CAM_STOP (R658). A command that ends a receiver's acceptance of frames. -/
  | camStop (r : Req)
  /-- CAM_SENSOR (R648). A command that schedules a sensor exposure or gain write to take effect at a named frame. -/
  | camSensor (r : Req)
  /-- LOUPE_STRIPE (R454). A command that sets stripe length, numbering, column binning and zones. -/
  | loupeStripe (r : Req)
  /-- LOUPE_BANDS (R462). A command that sets the banding bin frequencies. -/
  | loupeBands (r : Req)
  /-- LOUPE_ANOMALY (R465). A command that configures the column anomaly detector. -/
  | loupeAnomaly (r : Req)
  /-- LOUPE_ALARM (R477). A command that sets the Loupe alarm entries. -/
  | loupeAlarm (r : Req)
  /-- PRISM_JOIN (R674). A command that enables Prism ports and joins the tree, or forms it as root. -/
  | prismJoin (r : Req)
  /-- PRISM_LEAVE (R678). A command that sends LEAVE, disables every port and empties the sets. -/
  | prismLeave (r : Req)
  /-- PRISM_SCHEDULE (R696). A command that schedules a system LINE_STOP or TIME_MARK event at a system time. -/
  | prismSchedule (r : Req)
  /-- PRISM_RELAY (R699). A command that routes a command packet to another node and returns its reply. -/
  | prismRelay (r : Req)
  /-- PRISM_SWAP (R704). A command that moves the root role across a link. -/
  | prismSwap (r : Req)
  /-- PRISM_STATUS (R692). A command that returns node ID, depth, role, time offset and agreement flags. -/
  | prismStatus (r : Req)
  /-- POWER_GRANTS (R751). A command that returns the claims, load, active grants and refusals of each budget. -/
  | powerGrants (r : Req)
  /-- POWER_WAKE (R731). A command that writes the wake configuration to the always-on domain. -/
  | powerWake (r : Req)
  /-- STORE_READ (R752). A command that reads bytes from a persistent store area. -/
  | storeRead (r : Req)
  /-- STORE_LOG (R757). A command that returns valid fault-log entries from FIRST. -/
  | storeLog (r : Req)
  /-- LINE_STOP_COMPLETE (R157). Admitted lines have drained and, in scan mode, the feed is at standstill, so a LINE.STOP completes
  and the line state becomes READY. -/
  | lineStopComplete
  /-- RUN_COUNT_END (R178). The last counted output line is formed or gapped and captures have drained, so the run ends as LINE.STOP with END. -/
  | runCountEnd
  /-- DRAM_TRAINING_END (R212). DRAM training ends, RPT.DRAM_READY is committed and the Segment link bring-up begins. -/
  | dramTrainingEnd (code : Nat) (mib : Nat)
  /-- LINE_TRIGGER (R572). The feed count reaches the pending compare position, the trigger fires and admission is decided. -/
  | lineTrigger (mon : List Mon)
  /-- ENCODER_POSITION_LATCH (R237). The feed encoder position is latched at the integration centre of a line. -/
  | encoderPositionLatch
  /-- CALIBRATION_LINE_TIMER (R331). The calibration line period expires and a calibration line is issued on the ports addressed. -/
  | calibrationLineTimer (mon : List Mon)
  /-- DATA_PACKET_RECEIVED (R245). A striped data packet arrives whole on a port and is checked and passed to the image path: per
  device lane, the slot of its SOP, the running disparity before it, and the code groups. -/
  | dataPacketReceived (port : Nat) (slots : List Nat) (pos : List Bool) (groups : List (List CodeGroup))
  /-- REGISTER_REPLY_RECEIVED (R251). A digitizer register-reply packet arrives and completes an outstanding register access. -/
  | registerReplyReceived (port : Nat) (lanes : List LaneRx)
  /-- REGISTER_SEQUENCE_TIMEOUT (R281). No register reply has come within 100 µs, so the sequence is resent or the access fails. -/
  | registerSequenceTimeout (port : Nat)
  /-- READOUT_DEADLINE (R256). A readout's deadline passes and the readout is classified. -/
  | readoutDeadline
  /-- INTEGRITY_WINDOW_END (R261). A window of 1,024 admitted lines ends and RPT.LINE_INTEGRITY is committed when any count is non-zero. -/
  | integrityWindowEnd
  /-- PHASE_TRACK_WINDOW (R263). A window of 1,024 code groups ends and a lane's TAP may move one step: the early and the late transitions counted. -/
  | phaseTrackWindow (port : Nat) (ln : Nat) (early : Nat) (late : Nat)
  /-- LANE_LOST (R267). A lane's error or silence count crosses its limit and the lane is lost. -/
  | laneLost (port : Nat) (lanes : List LaneWatch)
  /-- TRAINING_WINDOW (R265). A training window ends, the lane's settings move, and at its end training passes or fails. -/
  | trainingWindow (port : Nat) (ln : Nat) (rx : PrbsRx)
  /-- ROTATE_INTERVAL (R268). ROTATE_INTERVAL_MS has passed, and the spare is set to COPY of the lane with the oldest training. -/
  | rotateInterval (port : Nat)
  /-- COPY_COMPARE_END (R268). The copy comparison over 64 packets ends, and the stripe moves to the copy lane or the copy returns
  to TRAINING: the packets and the code groups compared so far, those that differed, and the code errors on the copy. -/
  | copyCompareEnd (port : Nat) (got : CopyCompare)
  /-- PRBS_LOCK (R268). The PRBS-7 checker locks on a lane and its training begins: the bits received. -/
  | prbsLock (port : Nat) (rx : LaneBits)
  /-- SOP_ALIGNED (R244). The first aligned SOPs arrive on new data lanes and the lanes are taken as carrying their stripes: per
  lane, the code-group slot in which its SOP arrived. -/
  | sopAligned (sops : Sops)
  /-- DIGITIZER_RUN_SETTLE (R275). 10 ms after RUN the digitizer grant is returned and the port becomes UP or DEGRADED. -/
  | digitizerRunSettle (port : Nat)
  /-- CALIBRATION_TABLES_WRITTEN (R335). Firmware finishes computing the calibration tables, writes the loaded bank, swaps if asked and replies. -/
  | calibrationTablesWritten
  /-- BANK_RELEASE (R329). The last line of the old bank leaves stage 7, the old bank becomes the loaded bank and the copy grant is requested. -/
  | bankRelease
  /-- BANK_COPY_END (R329). The copy of the active bank into the loaded bank completes and table writes may proceed. -/
  | bankCopyEnd
  /-- ACHROMAT_FORM_LINE (R369). Every capture an output line needs is present or missing, and the Achromat forms the line or fixes it as a gap. -/
  | achromatFormLine
  /-- LINE_DELIVERY (R410). A finished line or record and a posted descriptor are both present, and the device writes the buffer
  and completes the descriptor. -/
  | lineDelivery (k : Nat) (d : Desc)
  /-- GAP_RECORD_FLUSH (R418). DELIVER_FLUSH_MS expires, the open gap record closes and gap or Loupe buffers are completed. -/
  | gapRecordFlush
  /-- PACE_WINDOW_END (R421). A pace window ends, the drain estimate updates and the speed index may step. -/
  | paceWindowEnd
  /-- HOST_STALL_TIMEOUT (R445). A ring has held data for HOST_STALL_MS with no descriptor, and RPT.HOST_STALL is committed. -/
  | hostStallTimeout
  /-- SEAM_STANDSTILL (R432). The feed reaches standstill and captures have drained, so n_r is fixed and the backup target is computed. -/
  | seamStandstill
  /-- SEAM_DWELL_END (R432). A seam direction dwell ends and the backup move or the host wait begins. -/
  | seamDwellEnd
  /-- SEAM_BACKUP_REACHED (R432). The feed axis stands at X_back. -/
  | seamBackupReached
  /-- SEAM_HOST_WAIT_END (R432). Occupancy falls to SEAM_RESUME_PM and the feed accelerates forward toward the resume. -/
  | seamHostWaitEnd
  /-- SEAM_JOIN_CHECK (R437). Line n_r − 1 has been compared, the join check completes and RPT.SEAM_JOIN is committed. -/
  | seamJoinCheck
  /-- STRIPE_FINALISE (R457). A stripe finalises or ends early, and hardware writes its profiles, histograms and bands. -/
  | stripeFinalise
  /-- LOUPE_FIRMWARE_RESULTS (R457). Firmware completes the anomaly list and overlap estimates, feeds the placement loop and evaluates alarms. -/
  | loupeFirmwareResults
  /-- IDLE_MARK (R493). 1 ms passes without a line mark, so an idle mark is made and MARK is sent. -/
  | idleMark (mon : List Mon)
  /-- SWITCHING_PERIOD (R482). A 480-cycle switching period begins, the high side is set and the peak comparator or the 432-cycle
  limit ends the on-time: whether the comparator trips, and in which cycle. -/
  | switchingPeriod (str : Nat) (trips : Bool) (cycle : Nat)
  /-- OVERCURRENT_FAULT (R519). Sense above C_oc for 4 consecutive periods stops the stage and the string goes to FAULT. -/
  | overcurrentFault (str : Nat)
  /-- OVERVOLTAGE_FAULT (R519). STRn_VS above V_MAX_MV for 2 periods stops the stage, with cause LAMP_OPEN if a bypass device reports an open lamp. -/
  | overvoltageFault (str : Nat) (opens : List Nat)
  /-- OUTPUT_SHORT_FAULT (R519). String voltage below a tenth of expected for 8 periods stops the stage. -/
  | outputShortFault (str : Nat)
  /-- LAMP_SHORT_FAULT (R519). String voltage below its window for 8 periods drops the string to recovery current. -/
  | lampShortFault (str : Nat) (shorts : List Nat)
  /-- REGULATION_FAULT (R519). Mean current below 90 % of C_set for 1 ms stops the stage. -/
  | regulationFault (str : Nat)
  /-- LAMP_FRAME_RETURN (R498). A lamp-link frame returns around the ring and is checked, resent or acknowledged. -/
  | lampFrameReturn (bytes : List Byte)
  /-- POLL_TIMER (R505). An eighth mark passes, or 1 ms passes since the last POLL, and a POLL is sent. -/
  | pollTimer
  /-- LAMP_LINK_ENUM_WAIT (R502). 200 µs after the link starts, firmware sends ENUM to number the bypass devices. -/
  | lampLinkEnumWait
  /-- LAMP_LINK_RETRY (R503). While the lamp link is LOST, bring-up is repeated every 1 s. -/
  | lampLinkRetry
  /-- LAMP_TEST_POINT (R517). A V-I test point's hold and averaging time ends, and the next point or the end of the test follows. -/
  | lampTestPoint (str : Nat) (ma : Nat) (mv : Nat)
  /-- ENCODER_EDGE (R532). An accepted change of an encoder input moves the count. -/
  | encoderEdge (enc : Nat) (a : Bool) (b : Bool)
  /-- ENCODER_ERROR_REPORT (R535). While errors continue, ENCODER_ERROR is reported at most once per second. -/
  | encoderErrorReport (enc : Nat)
  /-- INDEX_LATCH (R536). A rising edge of the filtered index latches the count. -/
  | indexLatch (enc : Nat)
  /-- RAMP_UPDATE (R540). Every 1 µs the ramp generator updates speed, joints, stall and limit checks. -/
  | rampUpdate
  /-- STALL (R560). Deviation beyond DEVIATION for 8 updates latches a stall and the axis or group stops. -/
  | stall (axis : Nat)
  /-- STEP_PULSE (R540). The step phase wraps and a step pulse is issued, moving the position by one. -/
  | stepPulse (drive : Nat)
  /-- DIRECTION_DWELL_END (R550). DIR_DWELL_US at a direction change ends and the next move starts at V_START. -/
  | directionDwellEnd (drive : Nat)
  /-- IREF_RAISE_DWELL_END (R543). 50 µs after the reference is raised to I_RUN, the first step of a move is taken. -/
  | irefRaiseDwellEnd (drive : Nat)
  /-- HOLD_DELAY_END (R543). HOLD_DELAY_MS at standstill passes, the reference drops to I_HOLD and the acceleration grant is released. -/
  | holdDelayEnd (drive : Nat)
  /-- TFE_SLOT_START (R585). The thermal front end begins the slot of the earliest-due sensor with discharge and excitation. -/
  | tfeSlotStart
  /-- TFE_WINDOW_END (R581). A measurement window reaches N_w bits, a sample completes, and a reading and threshold update follow:
  the filter's output, and since the slot's start the spans in which BLANK was high, in ns of local time. -/
  | tfeWindowEnd (win : TfeWindow)
  /-- TFE_WINDOW_ABANDON (R589). A window not ended within 4 × N_w bit times is abandoned: the spans in which BLANK was high. -/
  | tfeWindowAbandon (blank : List (Nat × Nat) := [])
  /-- SENSOR_STALE (R590). A sensor gives no reading for 4 / RATE_SPS and becomes stale. -/
  | sensorStale (n : Nat)
  /-- SENSOR_FAULT (R593). DWELL faulted readings or 1 s stale set FAULT and level OVER. -/
  | sensorFault (n : Nat)
  /-- SAFETY_OUTPUT_PERIOD (R599). A safety output's period boundary takes the latest reading. -/
  | safetyOutputPeriod (k : Nat)
  /-- HK_CONVERSION_END (R603). A housekeeping conversion ends and the sequencer averages and advances entries. -/
  | hkConversionEnd (k : Nat) (code : Nat)
  /-- SUPERVISOR_CYCLE (R606). Every 250 µs the supervisor converts the die and core rails on HK1. -/
  | supervisorCycle (c24 : Nat) (c25 : Nat) (c26 : Nat) (c27 : Nat)
  /-- URGENT_CONVERSION_END (R607). An urgent supervisor conversion of an out-of-window channel completes. -/
  | urgentConversionEnd (k : Nat) (code : Nat)
  /-- FRAME_START (R616). A Frame Start on VC[0] opens a frame and drives sensor writes and context switches. -/
  | frameStart (rx : Nat) (vc : Nat) (ecc : Nat)
  /-- FRAME_END (R617). A Frame End closes an exposure of the frame. -/
  | frameEnd (rx : Nat) (vc : Nat) (ecc : Nat)
  /-- CAMERA_ROW (R618). A long packet on an exposure channel is taken as a row and checked. -/
  | cameraRow (rx : Nat) (vc : Nat) (dt : Nat) (wc : Nat) (samples : List Nat) (crcOk : Bool) (ecc : Nat)
  /-- FRAME_TIMEOUT (R617). FRAME_TIMEOUT_MS expires and the frame's open exposures end. -/
  | frameTimeout (rx : Nat)
  /-- INPUT_FIFO_OVERFLOW (R624). The receiver input FIFO overflows and the frame is dropped. -/
  | inputFifoOverflow (rx : Nat)
  /-- CSI_DESKEW (R613). A D-PHY deskew sequence is received and acted on. -/
  | csiDeskew (rx : Nat)
  /-- CSI_ULPS (R613). The lanes enter or leave the ultra-low-power state. -/
  | csiUlps (rx : Nat) (enter : Bool)
  /-- PIPELINE_UNIT_END (R627). The camera pipeline ends a unit and begins a ready unit of the less recently served receiver. -/
  | pipelineUnitEnd
  /-- CAMERA_CHUNK_DELIVERY (R655). A camera chunk is written to a posted descriptor on its stream. -/
  | cameraChunkDelivery (rx : Nat) (d : Desc)
  /-- SENSOR_WRITE_END (R647). A sensor I2C transaction completes, or is retried after a NACK or an over-long stretch. -/
  | sensorWriteEnd (ok : Bool)
  /-- NOP (R669). A Prism NOP message is received and acknowledged. -/
  | nop (port : Nat) (rx : PrismRx)
  /-- NAK (R669). A NAK sequence is received and retransmission begins from its SEQ. -/
  | nak (port : Nat) (rx : PrismRx)
  /-- HELLO (R672). A HELLO message is received and the port becomes LINKED or FOREIGN. -/
  | hello (port : Nat) (rx : PrismRx)
  /-- JOIN_REQ (R675). A JOIN_REQ is forwarded up, or at the root admitted or refused. -/
  | joinReq (port : Nat) (rx : PrismRx)
  /-- JOIN_ANS (R674). A JOIN_ANS is applied on the way down and completes a join at the node. -/
  | joinAns (port : Nat) (rx : PrismRx)
  /-- DELAY_REQ (R679). A DELAY_REQ is stamped and answered with DELAY_RESP. -/
  | delayReq (port : Nat) (rx : PrismRx)
  /-- DELAY_RESP (R679). A DELAY_RESP gives a new hop-delay measurement. -/
  | delayResp (port : Nat) (rx : PrismRx)
  /-- TIME (R681). A TIME message updates the offset, rate and slew, possibly steps time, and is forwarded down. -/
  | time (port : Nat) (rx : PrismRx)
  /-- STATE (R689). A child's STATE message updates the aggregate sent up. -/
  | state (port : Nat) (rx : PrismRx)
  /-- AGREE (R687). An AGREE message updates DIGEST_OK, VERSION_OK and SYSTEM_MINOR. -/
  | agree (port : Nat) (rx : PrismRx)
  /-- EVENT (R698). A scheduled EVENT message arrives and is armed, or handled as late. -/
  | event (port : Nat) (rx : PrismRx)
  /-- ARM (R693). An ARM message makes a node check and arm itself for a system run. -/
  | arm (port : Nat) (rx : PrismRx)
  /-- ARM_ANS (R693). An ARM_ANS is combined up the tree, and at the root completes or fails the system arm. -/
  | armAns (port : Nat) (rx : PrismRx)
  /-- UNARM (R694). An UNARM returns each node of the run to its previous line state. -/
  | unarm (port : Nat) (rx : PrismRx)
  /-- STOP (R695). A STOP message makes a node act as the root's LINE.STOP. -/
  | stop (port : Nat) (rx : PrismRx)
  /-- FREEZE (R695). A FREEZE message applies the effects of CAPTURE.FREEZE on the node. -/
  | freeze (port : Nat) (rx : PrismRx)
  /-- RELAY (R699). A RELAY fragment is forwarded by route, or reassembled at its target or originator. -/
  | relay (port : Nat) (rx : PrismRx)
  /-- RELAY_EXECUTE (R700). The target executes a reassembled relayed command in ring order and returns its reply. -/
  | relayExecute (upload : List UpDesc) (partOk : Bool)
  /-- SWAP_REQ (R705). A SWAP_REQ is answered, with crossed requests resolved by node ID. -/
  | swapReq (port : Nat) (rx : PrismRx)
  /-- SWAP_ANS (R705). A SWAP_ANS lets both ends change roles at the next TIME. -/
  | swapAns (port : Nat) (rx : PrismRx)
  /-- LEAVE (R677). A LEAVE removes a node ID from the port sets on its way to the root. -/
  | leave (port : Nat) (rx : PrismRx)
  /-- RETRANSMIT_TIMEOUT (R669). The oldest unacknowledged message has waited 1 µs and all pending messages are resent. -/
  | retransmitTimeout (port : Nat)
  /-- NOP_TIMER (R669). A port with nothing to send for 10 µs sends NOP. -/
  | nopTimer (port : Nat)
  /-- HELLO_TIMER (R673). A port not yet joined sends HELLO every 100 µs. -/
  | helloTimer (port : Nat)
  /-- PORT_DOWN (R670). Silence, repeated sends or code errors take a port DOWN, orphaning or losing a subtree. -/
  | portDown (port : Nat) (rx : PrismRx)
  /-- DELAY_REQ_TIMER (R679). Every 1 ms each link end sends DELAY_REQ. -/
  | delayReqTimer (port : Nat)
  /-- TIME_TIMER (R680). Every 1 ms of system time the root sends TIME on its joined ports. -/
  | timeTimer
  /-- STATE_TIMER (R689). At least every 100 µs a node sends STATE up. -/
  | stateTimer
  /-- ARM_TIMEOUT (R694). System-arm answers are not all in within 100 ms, so the root sends UNARM and fails the arm. -/
  | armTimeout
  /-- JOIN_TIMEOUT (R676). PRISM.JOIN has not completed within 60 s and replies ST_BUSY. -/
  | joinTimeout
  /-- SCHEDULED_EVENT (R697). System time reaches an event's TIME_NS and the node acts on it. -/
  | scheduledEvent
  /-- POWER_REQUEST_RUN (R722). A write of POWER_STATE REQUEST Run returns the device to Run. -/
  | powerRequestRun (v : Word)
  /-- POWER_REQUEST_IDLE (R725). A write of REQUEST Idle checks R725 and enters Idle or is refused. -/
  | powerRequestIdle (v : Word)
  /-- POWER_REQUEST_DOZE (R726). A write of REQUEST Doze checks R725 and runs the Doze entry sequence. -/
  | powerRequestDoze (v : Word)
  /-- POWER_REQUEST_DEEP_STANDBY (R726). A write of REQUEST Deep standby checks R725 and runs the entry sequence up to the handshake. -/
  | powerRequestDeepStandby (v : Word)
  /-- DOZE_DRAM_IDLE (R726). The DRAM controller is idle, DRAM enters self-refresh and Doze entry completes. -/
  | dozeDramIdle
  /-- DEEP_STANDBY_HANDSHAKE (R726). D3hot and the PME_Turn_Off handshake are complete, so PWR_EN_CORE and then PWR_EN_IO are deasserted. -/
  | deepStandbyHandshake
  /-- AUTO_IDLE_TIMER (R728). After 1 s with Idle permitted and AUTO_IDLE set, firmware enters Idle by itself. -/
  | autoIdleTimer
  /-- AUTO_DOZE_TIMER (R728). After 60 s with Doze permitted in automatic Idle and AUTO_DOZE set, firmware enters Doze. -/
  | autoDozeTimer
  /-- WAKE_INPUT (R732). An enabled WAKE_INn holds its active level for 4 µs and wakes the device. -/
  | wakeInput (n : Nat) (high : Bool) (heldNs : Nat)
  /-- I2C_ADDRESS_MATCH (R732). The I2C target matches its address in Doze or Deep standby and the device wakes. -/
  | i2cAddressMatch (addr : Nat)
  /-- WAKE_BRINGUP_END (R736). Every declared port has settled after a wake, PRESENT becomes Run or Idle and WOKE is reported. -/
  | wakeBringupEnd
  /-- CORE_RAILS_IN_RANGE (R791). The core rails come into range on a Deep standby wake, the core is released and the boot ROM
  starts with WAKE_N asserted. -/
  | coreRailsInRange
  /-- I2C_POINTER_WRITE (R733). A write to the I2C target sets its register pointer. -/
  | i2cPointerWrite (p : Byte)
  /-- I2C_TARGET_READ (R733). An I2C read returns the byte of the read-only window at the pointer and advances the pointer. -/
  | i2cTargetRead
  /-- I2C_SCL_TIMEOUT (R776). I2CT_SCL is held low for 25 ms, so the target releases SDA and waits for START. -/
  | i2cSclTimeout
  /-- ADAPTIVE_LOOP_TICK (R719). Every 50 µs the voltage loop reads the path monitors and adjusts bias or AVS duty. -/
  | adaptiveLoopTick (slacks : List Int)
  /-- GRANT_EXPIRY (R748). A grant reaches the end of its duration without renewal and its holder reacts. -/
  | grantExpiry
  /-- GRANT_GUARD_TIMER (R747). A holder refused for 1 s takes the budget guard, or a guard holder idle for 2 s releases it. -/
  | grantGuardTimer
  /-- GRANT_RETRY (R749). A refused operation's retry interval expires and it asks for its grant again. -/
  | grantRetry
  /-- STORE_UPDATE_TIMER (R755). Every 60 s firmware writes the lamp ageing records and lifetime counters. -/
  | storeUpdateTimer
  /-- LIMIT_WRITE_CLAMP (R763). A firmware write above a limit entry is clamped, counted, reported and logged. -/
  | limitWriteClamp (cls : Nat) (idx : Nat) (value : Int)
  /-- DRAM_ECC_ERROR (R770). An ECC error is detected in DRAM and is handled by its area. -/
  | dramEccError (area : Nat) (chan : Nat) (number : Nat) (bad : Bool)
  /-- ECC_REPORT_TIMER (R771). While corrected errors occur, RPT.DRAM_ECC is committed at most once per second. -/
  | eccReportTimer
  /-- PWR_EN_SEQUENCE_TIMER (R788). The always-on domain drives PWR_EN_IO high 1.0 ms after VAON passes its threshold, and
  PWR_EN_CORE high 2.0 ms after PWR_EN_IO. -/
  | pwrEnSequenceTimer
  /-- REFERENCE_RETURN (R34). The 25 MHz reference returns after a clock fault, after which firmware may re-enable the root PLL. -/
  | referenceReturn
  /-- IRQ_TIMEOUT (R137). A completion has waited IRQ_TIMEOUT units of 10 µs without signalling, and the ring's interrupt source is set. -/
  | irqTimeout (k : Nat)
  /-- DEBUG_HALT_RELEASE (R76). The debugger releases the halt of the control processor, the watchdog resumes, and FAULT_N no
  longer stays low for the halt. -/
  | debugHaltRelease
  /-- GRANT_RENEWAL (R747). A holder renews an unexpired grant, such as the 100 ms axis acceleration grant, before it ends, and the
  renewal is judged under R744. -/
  | grantRenewal
  /-- SUPPLY_LOSS (R790). The supplies fall at power-down or on a loss of input power, and the device loses every domain. -/
  | supplyLoss
  deriving DecidableEq, Repr

end Sys2Proof
end

