-- ==== Sys2Proof/Config.lean ====
section
/-! DEFINITION. What an implementation fixes and the spec leaves open: opaque constants that no proof can see into. -/

namespace Sys2Proof.Config

/-- A free value: a number nothing constrains, one for each reading of the counter (log 1). -/
opaque freeNat : Nat → Nat

/-- R229: where the code-group boundaries of the timing lanes lie within the nanoseconds of the local clock (log 94). -/
opaque slotPhase : Nat

/-- Whether an ECDSA P-256 signature (r, s) verifies over a SHA-256 digest under a public key (X, Y): R50, R73 (log 2). -/
opaque ecdsaVerify : (key digest signature : List Byte) → Bool

/-- The SHA-256 digest that the boot ROM holds for a key slot (R52) (log 2). -/
opaque romKeyDigest : (slot : Nat) → List Byte

/-- The 8-byte device unique identifier (R73, R80) (log 2). -/
opaque uniqueId : List Byte

/-- R609: the die temperature in 1/16 °C of a supervisor code of channel 24, by the device's factory calibration
(log 14). -/
opaque dieTemp : Nat → Int

/-- R464: the argument of 0, in turns, which the rule leaves open (log 21). -/
opaque argZero : Rat

/-- The ceiling that an image's limit section gives to a place of the limit block, the places counted in the order of R760
(R61, R63): the section's own layout is not in the spec (log 22). -/
opaque limitCeiling : (limits : List Byte) → (place : Nat) → Int

end Sys2Proof.Config
end

