-- ==== Sys2Proof/Machine/Bits.lean ====
section
/-! DEFINITION. Bit-field, byte-order, checksum, digest and rounding helpers the meanings share: R7 to R10, R90 (CRC-32),
R213 (SHA-256), the fixed-point roundings of R10, and IEEE binary64 rounding for the places the spec computes in it. -/

namespace Sys2Proof.Machine

/-! ### Bit fields (R7) -/

/-- Bits `[lo + width - 1 : lo]` of a number. -/
def bits (n lo width : Nat) : Nat := (n / 2 ^ lo) % 2 ^ width

/-- Bit `b` of a number, as a Bool. -/
def bit (n b : Nat) : Bool := (n / 2 ^ b) % 2 == 1

/-- A value placed at bits `[lo + width - 1 : lo]`, cut to its width. -/
def fld (v lo width : Nat) : Nat := (v % 2 ^ width) * 2 ^ lo

/-- A Bool as the bit at place `b`. -/
def flag (c : Bool) (b : Nat) : Nat := if c then 2 ^ b else 0

/-- A two's complement number of `width` bits read as an integer. -/
def signed (width n : Nat) : Int :=
  let m := n % 2 ^ width
  if m < 2 ^ (width - 1) then (m : Int) else (m : Int) - (2 ^ width : Nat)

/-- An integer as a two's complement number of `width` bits. -/
def unsignedOf (width : Nat) (z : Int) : Nat := (z % ((2 ^ width : Nat) : Int)).toNat

/-! ### Vectors read and written by a plain index -/

/-- Element `i`, or the default outside the bounds. -/
def vget {α : Type} [Inhabited α] {n : Nat} (v : Vector α n) (i : Nat) : α := (v[i]?).getD default

/-- Element `i` replaced; unchanged outside the bounds. -/
def vset {α : Type} {n : Nat} (v : Vector α n) (i : Nat) (a : α) : Vector α n := v.setIfInBounds i a

/-- Element `i` mapped; unchanged outside the bounds. -/
def vmod {α : Type} {n : Nat} (v : Vector α n) (i : Nat) (f : α → α) : Vector α n :=
  match v[i]? with
  | some a => v.setIfInBounds i (f a)
  | none => v

/-- Every element mapped. -/
def vmap {α β : Type} {n : Nat} (f : α → β) (v : Vector α n) : Vector β n := Vector.ofFn fun i => f v[i]

/-- Every element mapped with its index. -/
def vmapIdx {α β : Type} {n : Nat} (f : Nat → α → β) (v : Vector α n) : Vector β n := Vector.ofFn fun i => f i.val v[i]

/-- The elements as a list. -/
def vlist {α : Type} {n : Nat} (v : Vector α n) : List α := v.toList

/-! ### Bytes, little-endian (R8) -/

/-- `n` bytes of a number, least significant first. -/
def leBytes : Nat → Nat → List Byte
  | 0, _ => []
  | n + 1, v => b8 v :: leBytes n (v / 256)

/-- The number a little-endian byte list holds. -/
def leNat : List Byte → Nat
  | [] => 0
  | b :: bs => b.toNat + 256 * leNat bs

/-- `n` bytes from offset `o`; bytes past the end read as 0. -/
def bytesAt (bs : List Byte) (o n : Nat) : List Byte :=
  let t := (bs.drop o).take n
  t ++ List.replicate (n - t.length) 0

/-- The `n`-byte unsigned field at offset `o`. -/
def uAt (bs : List Byte) (o n : Nat) : Nat := leNat (bytesAt bs o n)

/-- The `n`-byte signed field at offset `o`. -/
def sAt (bs : List Byte) (o n : Nat) : Int := signed (8 * n) (uAt bs o n)

/-- The `n` little-endian bytes of a signed field. -/
def leInt (n : Nat) (z : Int) : List Byte := leBytes n (unsignedOf (8 * n) z)

/-- The four bytes of a word, least significant first. -/
def wordBytes (w : Word) : List Byte := leBytes 4 w.toNat

/-- The byte list as 32-bit words, least significant byte first, the last one padded with zeros. -/
def bytesWordsAux : Nat → List Byte → List Word
  | 0, _ => []
  | n + 1, bs => if bs.isEmpty then [] else w32 (leNat (bs.take 4)) :: bytesWordsAux n (bs.drop 4)

def bytesWords (bs : List Byte) : List Word := bytesWordsAux (bs.length / 4 + 1) bs

/-- Bytes overwritten from offset `o`. -/
def putBytes (bs : List Byte) (o : Nat) (new : List Byte) : List Byte :=
  bytesAt bs 0 o ++ new ++ bs.drop (o + new.length)

/-! ### Checksums -/

/-- One bit of the reflected CRC-32 register (R90): polynomial 0x04C1_1DB7 reflected. -/
def crc32Bit (c : BitVec 32) : BitVec 32 :=
  if c.getLsbD 0 then (c >>> 1) ^^^ 0xEDB88320#32 else c >>> 1

/-- One byte through the CRC-32 register. -/
def crc32Byte (c : BitVec 32) (b : Byte) : BitVec 32 :=
  let x := c ^^^ b.setWidth 32
  crc32Bit (crc32Bit (crc32Bit (crc32Bit (crc32Bit (crc32Bit (crc32Bit (crc32Bit x)))))))

/-- R90: the CRC-32 of IEEE 802.3 over a byte list. -/
def crc32 (bs : List Byte) : Word := (bs.foldl crc32Byte 0xFFFFFFFF#32) ^^^ 0xFFFFFFFF#32

/-- One bit of the CRC-16 register (R227): polynomial 0x1021, not reflected. -/
def crc16Bit (c : BitVec 16) : BitVec 16 := if c.getLsbD 15 then (c <<< 1) ^^^ 0x1021#16 else c <<< 1

/-- One byte through the CRC-16 register. -/
def crc16Byte (c : BitVec 16) (b : Byte) : BitVec 16 :=
  let x := c ^^^ (b.setWidth 16 <<< 8)
  crc16Bit (crc16Bit (crc16Bit (crc16Bit (crc16Bit (crc16Bit (crc16Bit (crc16Bit x)))))))

/-- R227: CRC-16, initial value 0xFFFF, no final exclusive-or. -/
def crc16 (bs : List Byte) : Nat := (bs.foldl crc16Byte 0xFFFF#16).toNat

/-- One bit of the CRC-8 register (R226): polynomial 0x07, not reflected. -/
def crc8Bit (c : BitVec 8) : BitVec 8 := if c.getLsbD 7 then (c <<< 1) ^^^ 0x07#8 else c <<< 1

def crc8Byte (c : BitVec 8) (b : Byte) : BitVec 8 :=
  crc8Bit (crc8Bit (crc8Bit (crc8Bit (crc8Bit (crc8Bit (crc8Bit (crc8Bit (c ^^^ b))))))))

/-- R226: CRC-8, initial value 0, no final exclusive-or. -/
def crc8 (bs : List Byte) : Byte := bs.foldl crc8Byte 0#8

/-! ### SHA-256 (FIPS 180-4), named by R50, R51, R73, R213 -/

/-- The 64 round constants. -/
def shaK : List Word :=
  [0x428a2f98#32, 0x71374491#32, 0xb5c0fbcf#32, 0xe9b5dba5#32, 0x3956c25b#32, 0x59f111f1#32, 0x923f82a4#32, 0xab1c5ed5#32,
   0xd807aa98#32, 0x12835b01#32, 0x243185be#32, 0x550c7dc3#32, 0x72be5d74#32, 0x80deb1fe#32, 0x9bdc06a7#32, 0xc19bf174#32,
   0xe49b69c1#32, 0xefbe4786#32, 0x0fc19dc6#32, 0x240ca1cc#32, 0x2de92c6f#32, 0x4a7484aa#32, 0x5cb0a9dc#32, 0x76f988da#32] ++
  [0x983e5152#32, 0xa831c66d#32, 0xb00327c8#32, 0xbf597fc7#32, 0xc6e00bf3#32, 0xd5a79147#32, 0x06ca6351#32, 0x14292967#32,
   0x27b70a85#32, 0x2e1b2138#32, 0x4d2c6dfc#32, 0x53380d13#32, 0x650a7354#32, 0x766a0abb#32, 0x81c2c92e#32, 0x92722c85#32,
   0xa2bfe8a1#32, 0xa81a664b#32, 0xc24b8b70#32, 0xc76c51a3#32, 0xd192e819#32, 0xd6990624#32, 0xf40e3585#32, 0x106aa070#32] ++
  [0x19a4c116#32, 0x1e376c08#32, 0x2748774c#32, 0x34b0bcb5#32, 0x391c0cb3#32, 0x4ed8aa4a#32, 0x5b9cca4f#32, 0x682e6ff3#32,
   0x748f82ee#32, 0x78a5636f#32, 0x84c87814#32, 0x8cc70208#32, 0x90befffa#32, 0xa4506ceb#32, 0xbef9a3f7#32, 0xc67178f2#32]

/-- The initial hash value. -/
def shaInit : List Word :=
  [0x6a09e667#32, 0xbb67ae85#32, 0x3c6ef372#32, 0xa54ff53a#32, 0x510e527f#32, 0x9b05688c#32, 0x1f83d9ab#32, 0x5be0cd19#32]

def shaPad (bs : List Byte) : List Byte :=
  let n := bs.length
  bs ++ [0x80#8] ++ List.replicate ((119 - n % 64) % 64) 0#8 ++ (leBytes 8 (8 * n)).reverse

def beWord (bs : List Byte) : Word := w32 (leNat bs.reverse)

/-- The message schedule, newest word first, extended by `k` words. -/
def shaSchedule : Nat → List Word → List Word
  | 0, ws => ws
  | k + 1, ws =>
    let a := ws.getD 14 0#32
    let b := ws.getD 1 0#32
    let s0 := a.rotateRight 7 ^^^ a.rotateRight 18 ^^^ (a >>> 3)
    let s1 := b.rotateRight 17 ^^^ b.rotateRight 19 ^^^ (b >>> 10)
    shaSchedule k ((ws.getD 15 0#32 + s0 + ws.getD 6 0#32 + s1) :: ws)

def shaRound (h : List Word) (kw : Word × Word) : List Word :=
  match h with
  | [a, b, c, d, e, f, g, hh] =>
    let s1 := e.rotateRight 6 ^^^ e.rotateRight 11 ^^^ e.rotateRight 25
    let t1 := hh + s1 + ((e &&& f) ^^^ (~~~e &&& g)) + kw.1 + kw.2
    let s0 := a.rotateRight 2 ^^^ a.rotateRight 13 ^^^ a.rotateRight 22
    let t2 := s0 + ((a &&& b) ^^^ (a &&& c) ^^^ (b &&& c))
    [t1 + t2, a, b, c, d + t1, e, f, g]
  | x => x

def shaBlock (h : List Word) (blk : List Byte) : List Word :=
  let w16 := (List.range 16).map fun i => beWord (bytesAt blk (4 * i) 4)
  let ws := (shaSchedule 48 w16.reverse).reverse
  let h' := (shaK.zip ws).foldl shaRound h
  List.zipWith (· + ·) h h'

def shaBlocks : Nat → List Word → List Byte → List Word
  | 0, h, _ => h
  | n + 1, h, bs => if bs.isEmpty then h else shaBlocks n (shaBlock h (bs.take 64)) (bs.drop 64)

/-- The 32-byte SHA-256 digest of a byte list. -/
def sha256 (bs : List Byte) : List Byte :=
  let p := shaPad bs
  (shaBlocks (p.length / 64 + 1) shaInit p).flatMap fun w => (wordBytes w).reverse

/-! ### Rounding (R10) -/

/-- Truncation toward negative infinity of `n / d`. -/
def floorDiv (n : Int) (d : Nat) : Int := n / (d : Int)

/-- Round half up of `n / d`: the floor of the quotient plus one half. -/
def roundHalfUp (n : Int) (d : Nat) : Int := (2 * n + d) / (2 * (d : Int))

/-- Round half to even of `n / d`. -/
def roundHalfEven (n : Int) (d : Nat) : Int :=
  let q := n / (d : Int)
  let r := n % (d : Int)
  if 2 * r < d then q else if 2 * r > d then q + 1 else if q % 2 = 0 then q else q + 1

/-- The ceiling of `n / d` for naturals. -/
def ceilDiv (n d : Nat) : Nat := (n + d - 1) / d

/-- Clamp of an integer to a closed range. -/
def clampI (lo hi x : Int) : Int := if x < lo then lo else if hi < x then hi else x

/-- Saturation of an integer to an unsigned number of `width` bits (R10). -/
def satU (width : Nat) (x : Int) : Nat := if x < 0 then 0 else if x.toNat < 2 ^ width then x.toNat else 2 ^ width - 1

/-! ### IEEE 754 binary64, as the rational it denotes -/

/-- The power of two `2^e` as a rational, for any integer exponent. -/
def pow2 (e : Int) : Rat := if e < 0 then 1 / ((2 ^ e.natAbs : Nat) : Rat) else ((2 ^ e.natAbs : Nat) : Rat)

/-- `⌊log2 |q|⌋` of a non-zero rational. -/
def ilog2 (q : Rat) : Int :=
  let g : Int := (Nat.log2 q.num.natAbs : Int) - (Nat.log2 q.den : Int)
  let a : Rat := if q < 0 then -q else q
  if a < pow2 g then g - 1 else g

/-- A rational rounded to the nearest binary64 value, ties to even (normal range). -/
def r64 (q : Rat) : Rat :=
  if q = 0 then 0 else
    let e := ilog2 q - 52
    let m := q / pow2 e
    ((roundHalfEven m.num m.den : Int) : Rat) * pow2 e

/-- The binary64 square root of a non-negative rational: the nearest binary64 value below-or-at the exact root to
one part in 2^60, then rounded. -/
def sqrt64 (q : Rat) : Rat :=
  if q ≤ 0 then 0 else
    let e : Int := ilog2 q
    let k : Int := 124 - e + e % 2
    let n : Nat := (q * pow2 k).floor.toNat
    let r := Nat.sqrt n
    let sticky : Nat := if (r * r : Nat) = q * pow2 k then 0 else 1
    r64 (((2 * r + sticky : Nat) : Rat) * pow2 (-(k / 2) - 1))

/-! ### Elementary functions, rounded once to binary64 (R382, R463, R464, R583)

Each is reckoned in units of 2^-160 by a power series whose error lies far below half a unit of the last place (DEDUCED, log
21: what the rules write is the real function; binary64 rounds it). -/

def fixOne : Int := 2 ^ 160

/-- π in units of 2^-160. -/
def fixPi : Int :=
  31415926535897932384626433832795028841971693993751058209749445923078164062862089986280348253421170680 * fixOne / 10 ^ 100

def toFix (q : Rat) : Int := (q * (fixOne : Rat)).floor
def ofFix (v : Int) : Rat := mkRat v (2 ^ 160)

/-- y (1 - y²/(2·3) (1 - y²/(4·5) (…))): the sine of `y`. -/
def fixSin (y : Int) : Int :=
  let y2 := y * y / fixOne
  let acc := (List.range 25).foldl (fun (a : Int) i =>
    let k : Int := ((25 - i : Nat) : Int)
    fixOne - y2 * a / fixOne / ((2 * k) * (2 * k + 1))) fixOne
  y * acc / fixOne

/-- sin(2π x) of an angle in turns. -/
def sinTurn (x : Rat) : Rat :=
  let t := x - ((x + 1 / 2).floor : Rat)
  let u := if 1 / 4 < t then 1 / 2 - t else if t < -1 / 4 then -1 / 2 - t else t
  r64 (ofFix (fixSin (toFix u * (2 * fixPi) / fixOne)))

/-- cos(2π x) of an angle in turns. -/
def cosTurn (x : Rat) : Rat := sinTurn (x + 1 / 4)

/-- The arctangent of `z` from 0 to 1, by its series on an argument of at most √2 - 1. -/
def fixAtan (z : Int) : Int :=
  let series (w : Int) : Int :=
    let w2 := w * w / fixOne
    w * ((List.range 64).foldl (fun (a : Int) i => fixOne / ((2 * (63 - i) + 1 : Nat) : Int) - w2 * a / fixOne) 0) / fixOne
  if 5 * z ≤ 2 * fixOne then series z else fixPi / 4 - series ((fixOne - z) * fixOne / (fixOne + z))

/-- arg(re + i im) in turns, from 0 up to 1, of a number other than 0. -/
def argTurn (re im : Rat) : Rat :=
  let a := if re < 0 then -re else re
  let b := if im < 0 then -im else im
  let v := if b ≤ a then fixAtan (toFix (b / a)) else fixPi / 2 - fixAtan (toFix (a / b))
  let turn := v * fixOne / (2 * fixPi)
  let q := if re < 0 then fixOne / 2 - turn else turn
  r64 (ofFix (if im < 0 ∧ q ≠ 0 then fixOne - q else q))

/-- 2 artanh(z), for z from -1/3 to 1/3. -/
def fixArtanh2 (z : Int) : Int :=
  let z2 := z * z / fixOne
  2 * (z * ((List.range 56).foldl (fun (a : Int) i => fixOne / ((2 * (55 - i) + 1 : Nat) : Int) + z2 * a / fixOne) 0) / fixOne)

/-- The natural logarithm of a positive number. -/
def ln64 (x : Rat) : Rat :=
  let e := ilog2 x
  let m := x / pow2 e
  r64 (ofFix (e * fixArtanh2 (fixOne / 3) + fixArtanh2 (toFix ((m - 1) / (m + 1)))))

end Sys2Proof.Machine

namespace Sys2Proof

open Sys2Proof.Machine

/-! ### The host's half of a descriptor (R406) -/

/-- R406: ADDR. -/
def Desc.addr (d : Desc) : Nat := uAt d.host 0 8

/-- R406: LENGTH. -/
def Desc.len (d : Desc) : Nat := uAt d.host 8 4

/-- R406: IRQ_NOW. -/
def Desc.irqNow (d : Desc) : Bool := bit (uAt d.host 0x0C 2) 0

/-- R406: IRQ_NOW of a host-to-device descriptor. -/
def UpDesc.irqNow (d : UpDesc) : Bool := bit (uAt d.host 0x0C 2) 0

/-- R406: LENGTH of a host-to-device descriptor. -/
def UpDesc.len (d : UpDesc) : Nat := uAt d.host 8 4

end Sys2Proof
end

