-- ==== Sys2Proof/Machine/Coding.lean ====
section
/-! DEFINITION. The 8b/10b code of the Segment link (R218 to R220) and the Prism link (R664): the coder and the decoder of IEEE
802.3 clause 36 with its running disparity, written out from that clause, which R218 takes over; and the PRBS-7 sequence and its
checker (R239). -/

namespace Sys2Proof.Machine

/-- R218: a symbol to be coded: a data byte D.x.y or a control symbol K.x.y, as the byte 32y + x. -/
structure Sym where
  k : Bool
  byte : Byte
  deriving DecidableEq, Repr, Inhabited

/-! ### The symbols of R219 -/

def symData (b : Byte) : Sym := { k := false, byte := b }
/-- K28.5. -/
def symIdle : Sym := { k := true, byte := 0xBC#8 }
/-- K28.1. -/
def symLs : Sym := { k := true, byte := 0x3C#8 }
/-- K28.2. -/
def symReg : Sym := { k := true, byte := 0x5C#8 }
/-- K28.6. -/
def symLane : Sym := { k := true, byte := 0xDC#8 }
/-- K29.7. -/
def symEnd : Sym := { k := true, byte := 0xFD#8 }
/-- K27.7. -/
def symSop : Sym := { k := true, byte := 0xFB#8 }
/-- K28.0. -/
def symAbort : Sym := { k := true, byte := 0x1C#8 }

/-- R219: the control symbols of a data lane. -/
def dataLaneSyms : List Sym := [symIdle, symEnd, symSop, symAbort]

/-! ### The symbols of R664; IDLE is K28.5 there too -/

/-- K27.7. -/
def symSom : Sym := symSop
/-- K29.7. -/
def symEom : Sym := symEnd
/-- K28.6. -/
def symNak : Sym := symLane

def prismSyms : List Sym := [symIdle, symSom, symEom, symNak]

/-! ### Running disparity -/

def onesOf {w : Nat} (v : BitVec w) : Nat := ((List.range w).map fun i => (v.getLsbD i).toNat).sum

/-- The running disparity (true: positive) after a code group, by its two sub-blocks. -/
def rdAfter (pos : Bool) (g : CodeGroup) : Bool :=
  let six := g.extractLsb' 4 6
  let four := g.extractLsb' 0 4
  let mid := if 3 < onesOf six || six == 0b000111#6 then true else if onesOf six < 3 || six == 0b111000#6 then false else pos
  if 2 < onesOf four || four == 0b0011#4 then true else if onesOf four < 2 || four == 0b1100#4 then false else mid

/-! ### The coder -/

/-- abcdei of D.x at negative running disparity. -/
def sixNeg (x : Nat) : BitVec 6 :=
  [0b100111#6, 0b011101#6, 0b101101#6, 0b110001#6, 0b110101#6, 0b101001#6, 0b011001#6, 0b111000#6,
   0b111001#6, 0b100101#6, 0b010101#6, 0b110100#6, 0b001101#6, 0b101100#6, 0b011100#6, 0b010111#6,
   0b011011#6, 0b100011#6, 0b010011#6, 0b110010#6, 0b001011#6, 0b101010#6, 0b011010#6, 0b111010#6,
   0b110011#6, 0b100110#6, 0b010110#6, 0b110110#6, 0b001110#6, 0b101110#6, 0b011110#6, 0b101011#6].getD x 0#6

/-- abcdei of D.x. -/
def sixOf (pos : Bool) (x : Nat) : BitVec 6 :=
  let v := sixNeg x
  if pos && (onesOf v != 3 || x == 7) then ~~~v else v

/-- D.x.A7 replaces D.x.P7. -/
def alternate7 (mid : Bool) (x : Nat) : Bool := if mid then [11, 13, 14].contains x else [17, 18, 20].contains x

/-- fghj of D.x.y; `mid` is the running disparity after abcdei. -/
def fourOf (mid : Bool) (x y : Nat) : BitVec 4 :=
  let v : BitVec 4 := if y = 7 && alternate7 mid x then 0b0111#4
    else [0b1011#4, 0b1001#4, 0b0101#4, 0b1100#4, 0b1101#4, 0b1010#4, 0b0110#4, 0b1110#4].getD y 0#4
  if mid && (onesOf v != 2 || y == 3) then ~~~v else v

/-- A control symbol's code group at negative running disparity; the other is its complement. -/
def controlNeg (b : Byte) : CodeGroup :=
  if b = 0x1C#8 then 0b0011110100#10 else if b = 0x3C#8 then 0b0011111001#10 else if b = 0x5C#8 then 0b0011110101#10
  else if b = 0xBC#8 then 0b0011111010#10 else if b = 0xDC#8 then 0b0011110110#10
  else if b = 0xFB#8 then 0b1101101000#10 else 0b1011101000#10

/-- R218: the code group of a symbol at a running disparity, bit a first (the highest bit). -/
def codeOf (pos : Bool) (y : Sym) : CodeGroup :=
  if y.k then (if pos then ~~~controlNeg y.byte else controlNeg y.byte)
  else
    let x := y.byte.toNat % 32
    let six := sixOf pos x
    let mid := if onesOf six = 3 then pos else !pos
    six ++ fourOf mid x (y.byte.toNat / 32)

/-- The ten line bits of a code group in the order sent. -/
def lineBits (g : CodeGroup) : List Bool := (List.range 10).map fun i => g.getLsbD (9 - i)

/-! ### The decoder -/

/-- R220: the symbol that a code group is in the present running disparity: none is a code error. `ks` are the control
symbols of the lane. -/
def symOf (ks : List Sym) (pos : Bool) (g : CodeGroup) : Option Sym :=
  match ks.find? fun y => codeOf pos y == g with
  | some y => some y
  | none =>
    let six := g.extractLsb' 4 6
    match (List.range 32).find? fun x => sixOf pos x == six with
    | none => none
    | some x =>
      let mid := if onesOf six = 3 then pos else !pos
      ((List.range 8).find? fun y => fourOf mid x y == g.extractLsb' 0 4).map fun y => symData (b8 (32 * y + x))

/-- The symbols of a run of code groups received from a running disparity on. -/
def symsOf (ks : List Sym) (pos : Bool) : List CodeGroup → List (Option Sym)
  | [] => []
  | g :: gs => symOf ks pos g :: symsOf ks (rdAfter pos g) gs

/-- R220: the code errors counted over code groups of a lane that has the control symbols `ks`. -/
def codeErrors (ks : List Sym) (pos : Bool) (gs : List CodeGroup) : Nat := ((symsOf ks pos gs).filter Option.isNone).length

/-! ### Prism messages (R664) -/

/-- A NAK sequence may stand between any two code groups of a message; the receiver removes it. -/
def dropNaks : List Sym → List Sym
  | a :: b :: c :: r => if a == symNak then dropNaks r else a :: dropNaks (b :: c :: r)
  | r => r

/-- A message is SOM, its bytes and EOM. -/
def somToEom (bytes : List Byte) : List Sym := symSom :: bytes.map symData ++ [symEom]

/-- The 32 bytes of a message received; none where it is not SOM, 32 data bytes and EOM without a code error. -/
def prismMessage (rx : PrismRx) : Option (List Byte) :=
  match (symsOf prismSyms rx.pos rx.groups).mapM id with
  | none => none
  | some l =>
    let b := ((dropNaks l).drop 1).take 32 |>.map Sym.byte
    if b.length = 32 && dropNaks l == somToEom b then some b else none

/-- The SEQ of a NAK sequence received: K28.6 and two data bytes. -/
def nakSeq (rx : PrismRx) : Option Nat :=
  match symsOf prismSyms rx.pos rx.groups with
  | [some k, some a, some b] => if k == symNak && !a.k && !b.k then some (a.byte.toNat + 256 * b.byte.toNat) else none
  | _ => none

/-- The NAK sequence of a SEQ. -/
def nakSymbols (seq : Nat) : List Sym := [symNak, symData (b8 seq), symData (b8 (seq / 256))]

/-! ### PRBS-7 (R239) -/

/-- The next bit of x^7 + x^6 + 1 after the last seven, the latest in bit 0. -/
def prbsBit (r : BitVec 7) : Bool := r.getLsbD 6 ^^ r.getLsbD 5

def prbsStep (r : BitVec 7) : BitVec 7 := (r <<< 1) ||| (if prbsBit r then 1#7 else 0#7)

/-- The first `n` bits of the sequence after a register. -/
def prbsBits (r : BitVec 7) : Nat → List Bool
  | 0 => []
  | n + 1 => prbsBit r :: prbsBits (prbsStep r) n

/-- The checker's bit errors over received bits, its register running on by itself. -/
def prbsErrors (r : BitVec 7) : List Bool → Nat
  | [] => 0
  | b :: bs => (if b == prbsBit r then 0 else 1) + prbsErrors (prbsStep r) bs

/-- The register that the first seven received bits give. -/
def prbsSeed (bits : List Bool) : BitVec 7 := (bits.take 7).foldl (fun r b => (r <<< 1) ||| (if b then 1#7 else 0#7)) 0#7

/-- The checker locks: the bits after the first seven follow the sequence that these seven give. -/
def prbsLocks (bits : List Bool) : Bool :=
  decide (7 < bits.length) && prbsSeed bits != 0#7 && prbsErrors (prbsSeed bits) (bits.drop 7) == 0

/-! ### The lamp link's symbols (R490, R491, R494) -/

/-- R490: a data bit in Manchester code: a 1 is low then high, a 0 high then low. -/
def lampBit (b : Bool) : BitTime := (!b, b)

/-- R491: the violation symbols. -/
def lampSof : List BitTime := [(true, true), (false, false)]
def lampEof : List BitTime := [(false, false), (true, true)]
def lampMark : List BitTime := [(false, false), (false, false)]

/-- R490: a byte, least significant bit first. -/
def lampByte (b : Byte) : List BitTime := (List.range 8).map fun i => lampBit (b.getLsbD i)

/-- R494: a frame's bytes between SOF and EOF, after the 4 idle bits that part it from the frame before. -/
def lampSymbols (bytes : List Byte) : List BitTime :=
  List.replicate 4 (lampBit true) ++ lampSof ++ bytes.flatMap lampByte ++ lampEof

end Sys2Proof.Machine
end

