-- ==== Sys2Proof/Machine/State.lean ====
section
/-! DEFINITION. The state of the LS-2472 as plain data: every register, FIFO, buffer, counter, mode and pin the spec
names, one structure per unit, each field with its width, the rule that names it and its value at reset (the default
value of the field), the reasons a step can stop, and State.reset. -/

namespace Sys2Proof.Machine

/-- Why a step stops with a fault. -/
inductive Fault where
  /-- A BAR0 access that is not a naturally aligned 32-bit access (R14): the host has broken an obligation for which no
  chapter states a detection, so the behaviour is undefined (R5). Raised by REGISTER_WRITE. Safe: the model stops. -/
  | unalignedAccess (offset : Nat)
  deriving DecidableEq, Repr

/-- Why the model has no meaning for a command. -/
inductive Refusal where
  /-- The command's meaning is not modelled. Raised by the dispatcher alone. Safe: the model stops. -/
  | notModelled (mnemonic : String)
  deriving DecidableEq, Repr

/-! ### Reset, pins, clocks (02, 15, 17) -/

/-- R36: the scopes of reset. -/
inductive Scope where
  | control | core | system
  deriving DecidableEq, Repr, Inhabited

/-- Pins and always-on outputs. -/
structure Pins where
  /-- 1 bit; 02 R827; reset DESIGN CHOICE low (log 3). Level of PERST_N, true = high. -/
  perstHigh : Bool := false
  /-- 1 bit; 02 R35, R42; reset DESIGN CHOICE high (log 3). RESET_N has been low for 1 µs and still is. -/
  resetLow : Bool := false
  /-- 1 bit; 15 R714, 17 R788; reset low. Output PWR_EN_IO. -/
  pwrEnIo : Bool := false
  /-- 1 bit; 15 R714, 17 R788; reset low. Output PWR_EN_CORE. -/
  pwrEnCore : Bool := false
  /-- 1 bit; 15 R738; reset deasserted. WAKE_N asserted. -/
  wakeAsserted : Bool := false
  /-- 4 bits; 15 R732; reset DESIGN CHOICE all low (log 3). Levels last seen on WAKE_IN0 to WAKE_IN3. -/
  wakeIn : Nat := 0
  /-- 1 bit; 02 R40, 16 R767; reset low. FAULT_N as last driven, true = low. -/
  faultLow : Bool := true
  deriving DecidableEq, Repr, Inhabited

/-- Reset control and the always-on reset state. -/
structure ResetU where
  /-- Scope of the reset in effect; 02 R36, R40, R42; reset: a system reset is in effect (the power-on reset). -/
  inEffect : Option Scope := some .system
  /-- 1 bit; 02 R42; reset 0. The reset in effect is RESET_N's own. -/
  byPin : Bool := false
  /-- 1 bit; 02 R41; reset 0. The thermal comparator holds the core in reset. -/
  thermalHold : Bool := false
  /-- 1 bit; 15 R756 code 1; reset 0. Flag in the always-on domain: a thermal shutdown to be logged at the next boot. -/
  thermalFlag : Bool := false
  /-- 10 bits; 02 R45; reset 0x001 (POR). RESET_CAUSE. -/
  cause : Word := 1#32
  /-- 1 bit; 02 R55; reset 0. One-shot: the boot that follows acts as HOST_ONLY. -/
  bootFromHost : Bool := false
  /-- 1 bit; 02 R84, 16 R767; reset 0. The function is in D3hot. -/
  d3hot : Bool := false
  deriving DecidableEq, Repr, Inhabited

/-- The clock tree (R28 to R34). -/
structure ClockU where
  /-- 1 bit; 02 R34; reset 1. The 25 MHz reference runs. -/
  refRunning : Bool := true
  /-- 1 bit; 02 R32; reset 0. The root PLL reports lock. -/
  pllLocked : Bool := false
  /-- 1 bit; 02 R31, R48 (PLL_ACTIVE); reset 0. The control processor is on CPU_CLK (else on the RC oscillator). -/
  pllActive : Bool := false
  /-- Count; 02 R62; reset 0. Failed attempts to lock the root PLL. -/
  pllTries : Nat := 0
  /-- 1 bit; 02 R34, 16 R767; reset 0. A clock fault lasts. -/
  clockFault : Bool := false
  /-- 32 bits; 16 R772; reset 0. Clock faults since the last core or system reset. -/
  faultCount : Nat := 0
  /-- 8 bits; 16 R772; reset 0. Line state before the last clock fault. -/
  stateBefore : Nat := 0
  /-- 16 R772; reset none. Words 4 to 7 of RPT.CLOCK_FAULT reports that wait until firmware executes. -/
  due : List (List Nat) := []
  deriving DecidableEq, Repr, Inhabited

/-! ### Boot and firmware (02) -/

/-- R48: FW_STATE.STATE. -/
inductive FwStage where
  | reset | romBoot | waitHost | loading | starting | running | failed
  deriving DecidableEq, Repr, Inhabited

/-- The header fields of an image the model keeps for the running image (R49). -/
structure ImageInfo where
  /-- 32 bits; 02 R49; reset 0. IMAGE_SIZE. -/
  imageSize : Nat := 0
  /-- 8 bits; 02 R47, R49; reset 0. PROTO_MAJOR. -/
  protoMajor : Nat := 0
  /-- 8 bits; 02 R47, R49; reset 0. PROTO_MINOR. -/
  protoMinor : Nat := 0
  /-- 16 bits; 02 R49; reset 0. FLAGS. -/
  flags : Nat := 0
  /-- 32 bits; 02 R49; reset 0. FW_RELEASE. -/
  release : Nat := 0
  /-- 32 bits; 02 R49, R53; reset 0. ROLLBACK. -/
  rollback : Nat := 0
  /-- 2 bits; 02 R49, R52; reset 0. KEY_SLOT. -/
  keySlot : Nat := 0
  /-- 16 bits; 02 R49, R69; reset 0. WDOG_MS. -/
  wdogMs : Nat := 0
  /-- 32 bytes; 15 R734, R740; reset empty. SHA-256 digest of the signed bytes. -/
  signedDigest : List Byte := []
  deriving DecidableEq, Repr, Inhabited

/-- Boot ROM and firmware state. -/
structure BootU where
  /-- 4 bits; 02 R48; reset 0 RESET. FW_STATE.STATE. -/
  stage : FwStage := .reset
  /-- 4 bits; 02 R48; reset 0. FW_STATE.SOURCE. -/
  source : Nat := 0
  /-- 4 bits; 02 R48; reset 0. FW_STATE.REASON. -/
  reason : Nat := 0
  /-- 4 bits; 02 R48; reset 0. FW_STATE.WDOG_COUNT, saturating at 15. -/
  wdogCount : Nat := 0
  /-- 32 bits; 02 R47; reset 0. FW_VERSION. -/
  fwVersion : Word := 0#32
  /-- 02 R49, R61; reset none. The running image's header fields. -/
  image : Option ImageInfo := none
  /-- 02 R57; reset none. Flash slot the boot ROM is reading (its body not yet verified). -/
  flashTry : Option Nat := none
  /-- 02 R57, R828; reset none. Reason for which the flash slot verified last failed. -/
  flashFailed : List (Nat × Nat) := []
  /-- 1 bit; 02 R60; reset 0. The PCIe endpoint is enabled. -/
  endpointOn : Bool := false
  /-- 1 bit; 02 R69; reset 0. The watchdog counts. -/
  wdogRunning : Bool := false
  /-- 1 bit; 02 R76; reset 0. The watchdog is paused by a debugger halt. -/
  wdogPaused : Bool := false
  /-- ns; 02 R61, R69, R76; reset 0. What the watchdog has counted on the reference since it was started. -/
  wdogNs : Nat := 0
  /-- Bytes; 02 R58; reset empty. What the boot ROM has of the host's image from descriptors already completed. -/
  loaded : List Byte := []
  /-- Count; 02 R70; reset 0. Watchdog expiries since firmware last held RUNNING for 10 s. -/
  loopCount : Nat := 0
  /-- ns; 02 R70; reset none. Local time at which firmware entered RUNNING. -/
  runningSince : Option Nat := none
  /-- Count; 02 R38, 16 R773; reset 0. Normal commands discarded by the last control reset. -/
  discarded : Nat := 0
  /-- 1 bit; 02 R38; reset 0. A control reset has happened and its RPT.FW_RESTART is due. -/
  restartDue : Bool := false
  /-- 1 bit; 15 R738; reset 0. The boot follows a wake from Deep standby. -/
  wokeFromDeep : Bool := false
  deriving DecidableEq, Repr, Inhabited

/-- What one slot of the QSPI NOR flash holds (R55): its raw bytes. -/
structure FlashU where
  /-- Bytes; 02 R55, R173; reset DESIGN CHOICE empty (erased; log 4). Slot 0, at flash offset 0x00_0000. -/
  slot0 : List Byte := []
  /-- Bytes; 02 R55, R173; reset DESIGN CHOICE empty (erased; log 4). Slot 1, at flash offset 0x10_0000. -/
  slot1 : List Byte := []
  deriving DecidableEq, Repr, Inhabited

/-- R71: the TAP's instructions. -/
inductive TapInstr where
  | bypass | idcode | samplePreload | extest
  deriving DecidableEq, Repr, Inhabited

/-- The debug port (R71 to R76). -/
structure DebugU where
  /-- 02 R48 (DEBUG_OPEN), R73, R75; reset locked. Scope of the unlock: 0 read-only, 1 full. -/
  openScope : Option Nat := none
  /-- Count; 02 R74; reset 0. Failed attempts since the last core or system reset. -/
  failures : Nat := 0
  /-- 16 bytes; 02 R73, R74; reset none. The nonce outstanding. -/
  nonce : Option (List Byte) := none
  /-- 1 bit; 02 R76; reset 0. The debugger holds the control processor halted. -/
  halted : Bool := false
  /-- Name; 02 R71; reset PRESUMED IDCODE (IEEE 1149.1's; log 5). The instruction in the TAP. -/
  tapInstruction : TapInstr := .idcode
  /-- As many bits as the selected data register; 02 R71; reset PRESUMED the IDCODE (IEEE 1149.1's; log 5). What the TAP's
  data register holds. -/
  tapData : Nat := 0x12472A3F
  deriving DecidableEq, Repr, Inhabited

/-! ### Host link, mailboxes, rings, reports, interrupts (03) -/

/-- What the device has sent out: the model's own record of the effects that leave the device, newest last. It is no
register of the spec. -/
inductive Out where
  /-- A write to host memory: its address and bytes. A reply packet (R113, R121), a buffer's data or the second half of a
  descriptor (R406, R407). -/
  | hostWrite (addr : Nat) (bytes : List Byte)
  /-- A read of a command's slot in host memory: its address (R113). -/
  | hostRead (addr : Nat)
  /-- An MSI-X message on a vector, with the address and the data its table entry holds (R78, R154). -/
  | msix (vector : Nat) (addr : Nat) (data : Word)
  /-- A read of the QSPI flash: command, address, bytes, data lines, dummy cycles and clock in MHz (R56). -/
  | flashRead (command : Byte) (addr : Nat) (bytes : Nat) (lines : Nat) (dummy : Nat) (mhz : Nat)
  /-- The 32 bytes of a debug challenge (R73). -/
  | challenge (bytes : List Byte)
  /-- The word a read of REPORT_DATA returned (R144). -/
  | readData (w : Word)
  /-- A byte the I2C target returned (R733). -/
  | i2cByte (b : Byte)
  /-- The I2C target acknowledges a byte (R732, R733). -/
  | i2cAck
  /-- A memory request completed as Unsupported Request (R84). -/
  | unsupportedRequest
  /-- One code group on the timing lane of a segment port, bit a first (R218, R221). -/
  | timing (port : Nat) (group : CodeGroup)
  /-- R490, R491. One bit time of the lamp link: the levels of its two halves. -/
  | lampBit (first second : Bool)
  /-- A code group put on a Prism port's lane (R664), in its slot of 4.167 ns. -/
  | prismGroup (port : Nat) (group : CodeGroup)
  /-- A camera-sensor I2C transaction (R647): receiver, and the bytes after START. -/
  | sensorWrite (rx : Nat) (bytes : List Byte)
  /-- A step pulse on an axis in a direction (true: positive). -/
  | stepPulse (axis : Nat) (up : Bool)
  deriving DecidableEq, Repr

/-- The command or the reply ring (R86, R113 to R116). -/
structure PacketRing where
  /-- 32 bits; 03 R86; reset 0. _BASE_LO. -/
  baseLo : Word := 0#32
  /-- 32 bits; 03 R86; reset 0. _BASE_HI. -/
  baseHi : Word := 0#32
  /-- 0 or 8 to 256; 03 R86; reset 0. _SIZE. -/
  size : Nat := 0
  /-- 16 bits; 03 R86; reset 0. _TAIL. -/
  tail : Half := 0#16
  /-- 16 bits; 03 R86; reset 0. _HEAD. -/
  head : Half := 0#16
  /-- 16 bits; 03 R117, R119; reset 0. Command ring: the tail up to which commands are served. -/
  served : Half := 0#16
  /-- 1 bit; 03 R125; reset 0. Command ring: FETCH_ERR or OVERRUN has stopped the reading of commands until the NRM_DOORBELL
  with CMD set that follows their clearing. -/
  stopped : Bool := false
  deriving DecidableEq, Repr, Inhabited

/-- One data ring block (R135 to R138, R829). -/
structure DataRing where
  /-- 32 bits; 03 R135; reset 0. RING_BASE_LO. -/
  baseLo : Word := 0#32
  /-- 32 bits; 03 R135; reset 0. RING_BASE_HI. -/
  baseHi : Word := 0#32
  /-- 0 or 8 to 16,384; 03 R135, R136; reset 0. RING_SIZE. -/
  size : Nat := 0
  /-- 16 bits; 03 R135; reset 0. RING_TAIL. -/
  tail : Half := 0#16
  /-- 16 bits; 03 R135; reset 0. RING_HEAD. -/
  head : Half := 0#16
  /-- 32 bits; 03 R137; reset 0. RING_CTRL. -/
  ctrl : Word := 0#32
  /-- 16 bits; 03 R829; reset 0. The RING_TAIL held at the ring's latest doorbell. -/
  posted : Half := 0#16
  /-- 1 bit; 03 R138; reset 0. FETCH_ERR. -/
  fetchErr : Bool := false
  /-- 1 bit; 03 R139; reset 0. Stopped by FETCH_ERR until the doorbell that follows its clearing. -/
  stopped : Bool := false
  /-- 1 bit; 03 R138; reset 0. POST_REJECT. -/
  postReject : Bool := false
  /-- 1 bit; 03 R138; reset 0. SETUP_REJECT. -/
  setupReject : Bool := false
  /-- Count; 03 R137; reset 0. Completions not yet signalled. -/
  unsignalled : Nat := 0
  /-- ns; 03 R137; reset none. Local time of the oldest completion not yet signalled. -/
  waitSince : Option Nat := none
  /-- ns; 08 R445; reset none. Since when the ring has held data with no descriptor. -/
  stallSince : Option Nat := none
  /-- 1 bit; 08 R445; reset 0. The present stall has been reported. -/
  stallReported : Bool := false
  deriving DecidableEq, Repr, Inhabited

/-- One packet in the report FIFO: its words still to be read, and the reserved slot it uses (R140, R146). -/
structure ReportPacket where
  words : List Word
  /-- 03 R146. 0: no reserved slot; 1: RPT.REPORT_LOST's; 2: RPT.HOST_STALL's. -/
  slot : Nat
  deriving DecidableEq, Repr, Inhabited

structure ReportU where
  /-- 4,096 words; 03 R140, R141; reset empty. The FIFO, oldest packet first. -/
  fifo : List ReportPacket := []
  /-- 32 bits; 03 R142; reset 0. SEQ of the next report. -/
  seq : Word := 0#32
  /-- 32 bits; 03 R86, R148; reset 0. REPORT_LOST. -/
  lost : Word := 0#32
  deriving DecidableEq, Repr, Inhabited

/-- One entry of the MSI-X table (R78, R154). -/
structure MsixEntry where
  /-- 64 bits; 03 R78; reset PRESUMED 0 (log 64). Message Address. -/
  addr : Nat := 0
  /-- 32 bits; 03 R78; reset PRESUMED 0 (log 64). Message Data. -/
  data : Word := 0#32
  /-- 1 bit; 03 R154; reset PRESUMED 1 (PCI Express; log 64). The vector is masked. -/
  masked : Bool := true
  deriving DecidableEq, Repr, Inhabited

structure IntU where
  /-- 32 bits; 03 R151; reset 0. INT_STATUS. -/
  status : Word := 0#32
  /-- 32 bits; 03 R152; reset 0xFFFFFFFF. INT_MASK. -/
  mask : Word := 0xFFFFFFFF#32
  /-- 32 bits; 03 R154; reset 0. Sources set while masked whose message is still due. -/
  due : Word := 0#32
  /-- 8 x 32 bits; 03 R153; reset 0. MSIX_MAP0 to MSIX_MAP7. -/
  map : Vector Word 8 := Vector.replicate 8 0#32
  /-- 1 bit; 03 R78, R80; reset PRESUMED 0 (PCI Express; log 64). MSI-X Enable. -/
  msixOn : Bool := false
  /-- 1 bit; 03 R78, R80; reset PRESUMED 0 (PCI Express; log 64). MSI-X Function Mask. -/
  msixMasked : Bool := false
  /-- 64 entries of 16 bytes at BAR2 0x0000; 03 R78, R154; reset as each field says. The MSI-X table. -/
  table : Vector MsixEntry 64 := Vector.replicate 64 {}
  /-- 64 bits at BAR2 0x1000; 03 R78, R154; reset PRESUMED 0 (PCI Express; log 64). The pending-bit array. -/
  pba : BitVec 64 := 0#64
  deriving DecidableEq, Repr, Inhabited

/-- R83: the states of the PCIe link; `detect`: not trained. -/
inductive LinkState where
  | detect | l0 | l1 | l11 | l12 | l2
  deriving DecidableEq, Repr, Inhabited

/-- The function's configuration space: the registers of its header and capabilities that hold something (R78, R80, R81). The
power state is in `rst.d3hot`, MSI-X in `int`. -/
structure PciU where
  /-- 16 bits; 03 R78; reset PRESUMED 0 (PCI Express; log 64). Command. -/
  command : Nat := 0
  /-- 64 bits, [15:0] read 0; 03 R78; reset PRESUMED 0 (PCI Express; log 64). BAR0 and BAR1. -/
  bar0 : Nat := 0
  /-- 64 bits, [12:0] read 0; 03 R78; reset PRESUMED 0 (PCI Express; log 64). BAR2 and BAR3. -/
  bar2 : Nat := 0
  /-- 16 bits; 03 R80, R81; reset PRESUMED 0x2810 (PCI Express: 128-byte payloads, 512-byte reads; log 64). Device Control. -/
  deviceCtl : Nat := 0x2810
  /-- 16 bits; 03 R80, R83; reset PRESUMED 0 (PCI Express; log 64). Link Control, with the ASPM field. -/
  linkCtl : Nat := 0
  /-- 16 bits; 03 R80; reset PRESUMED 0 (PCI Express; log 64). Device Control 2, with LTR Enable. -/
  deviceCtl2 : Nat := 0
  /-- 32 bits, write 1 to clear; 03 R80; reset PRESUMED 0 (PCI Express; log 64). AER: Uncorrectable Error Status. -/
  aerUncor : Word := 0#32
  /-- 32 bits; 03 R80; reset PRESUMED 0 (PCI Express; log 64). AER: Uncorrectable Error Mask. -/
  aerUncorMask : Word := 0#32
  /-- 32 bits; 03 R80; reset PRESUMED 0x00462030 (PCI Express; log 64). AER: Uncorrectable Error Severity. -/
  aerUncorSev : Word := 0x00462030#32
  /-- 32 bits, write 1 to clear; 03 R80; reset PRESUMED 0 (PCI Express; log 64). AER: Correctable Error Status. -/
  aerCor : Word := 0#32
  /-- 32 bits; 03 R80; reset PRESUMED 0x00002000 (PCI Express; log 64). AER: Correctable Error Mask. -/
  aerCorMask : Word := 0x00002000#32
  /-- 32 bits; 03 R80; reset PRESUMED 0 (PCI Express; log 64). Latency Tolerance Reporting: the two maximum latencies. -/
  ltrMax : Word := 0#32
  /-- 32 bits; 03 R80, R83; reset PRESUMED 0 (PCI Express; log 64). L1 PM Substates Control 1. -/
  l1Ctl : Word := 0#32
  deriving DecidableEq, Repr, Inhabited

structure UrgentU where
  /-- 256 bytes; 03 R86, R95; reset 0. URG_CMD window. -/
  cmd : List Byte := List.replicate 256 0#8
  /-- 128 bytes; 03 R86; reset 0. URG_FW_REPLY window. -/
  fwReply : List Byte := List.replicate 128 0#8
  /-- 128 bytes; 03 R86; reset 0. URG_HW_REPLY window. -/
  hwReply : List Byte := List.replicate 128 0#8
  /-- 256 bytes; 03 R97; reset DESIGN CHOICE empty (log 8). The internal latch: the window as last submitted. -/
  latch : List Byte := []
  /-- 256 bytes; 03 R100; reset none. The firmware slot; some = FW_BUSY. -/
  slot : Option (List Byte) := none
  /-- 8 bits; 03 R103; reset 0. FW_REPLY_COUNT. -/
  fwCount : Nat := 0
  /-- 8 bits; 03 R103; reset 0. HW_REPLY_COUNT. -/
  hwCount : Nat := 0
  deriving DecidableEq, Repr, Inhabited

structure HostU where
  /-- 4 bits; 03 R87; reset 0. HOST_LINK.SPEED. -/
  linkSpeed : Nat := 0
  /-- 6 bits; 03 R87; reset 0. HOST_LINK.WIDTH. -/
  linkWidth : Nat := 0
  /-- 1 bit; 16 R769; reset 0. The PCIe link counts as down. -/
  linkDown : Bool := false
  /-- Name; 03 R83, 15 R713; reset not trained. State of the PCIe link. -/
  link : LinkState := .detect
  /-- 03 R78, R80; reset as each field says. Configuration space. -/
  pci : PciU := {}
  /-- 03 R86; reset all 0. Command ring registers. -/
  cmd : PacketRing := {}
  /-- 03 R86; reset all 0. Reply ring registers. -/
  rep : PacketRing := {}
  /-- 3 bits; 03 R124; reset 0. CMD_STATUS: SETUP_REJECT 0, OVERRUN 1, FETCH_ERR 2. -/
  cmdStatus : Word := 0#32
  /-- 16 blocks; 03 R135; reset 0. Data rings. -/
  rings : Vector DataRing 16 := Vector.replicate 16 {}
  deriving DecidableEq, Repr, Inhabited

/-- A tag-history entry (R128): the seven command fields, and the stored reply. -/
structure HistEntry where
  tag : Half
  verb : Half
  obj : Half
  mods : Half
  len : Nat
  cls : Nat
  crc : Word
  /-- STATUS of the stored reply. -/
  status : Nat
  /-- DETAIL of the stored reply. -/
  detail : Nat
  /-- TRUNC of the stored reply. -/
  trunc : Bool
  /-- The whole length of the stored payload. -/
  fullLen : Nat
  /-- At most the first 48 bytes of the payload. -/
  payload : List Byte
  deriving DecidableEq, Repr, Inhabited

/-! ### The board declaration (04 R195 to R213): the accepted records -/

/-- R199. -/
structure DSystem where
  scan : Bool
  feedEncoder : Nat
  feedAxis : Nat
  bubblePolicy : Nat
  joinLines : Nat
  changeAllow : Nat
  nativeDpi : Nat
  calPeriodNs : Nat
  deriving DecidableEq, Repr, Inhabited

/-- R200. -/
structure DGeometry where
  capPitch : Nat
  outPitch : Nat
  outFirst : Nat
  outWidth : Nat
  outDpi : Nat
  dual : Bool
  nativeOnly : Bool
  cubic : Bool
  format : Nat
  deriving DecidableEq, Repr, Inhabited

/-- R201. -/
structure DSegment where
  row : Nat
  clkDiv : Nat
  pixels : Nat
  overhead : Nat
  overlapNext : Nat
  feedOffsetNm : Int
  shift : Int
  laneMap : Nat
  laneInvert : Nat
  budget : Nat
  digId : Nat
  digMw : Nat
  deriving DecidableEq, Repr, Inhabited

/-- R205: one lamp. -/
structure DLamp where
  device : Nat
  sw : Nat
  pdDevice : Nat
  pdInput : Nat
  firstCol : Nat
  lastCol : Nat
  deriving DecidableEq, Repr, Inhabited

/-- R204, with the string's LAMP_MAP entries. -/
structure DString where
  lamps : Nat
  sensor : Nat
  derate : Bool
  budget : Nat
  iNom : Nat
  iRecover : Nat
  vMax : Nat
  senseUohm : Nat
  softMs : Nat
  kneeC16 : Int
  slope : Nat
  map : List DLamp
  deriving DecidableEq, Repr, Inhabited

/-- R206. -/
structure DThermal where
  kind : Nat
  wires : Nat
  pins : List Nat
  gainLog2 : Nat
  exciteUa : Nat
  rateSps : Nat
  nominal : Nat
  beta : Nat
  rise : Int
  fall : Int
  dwell : Nat
  role : Nat
  deriving DecidableEq, Repr, Inhabited

/-- R207. -/
structure DAxis where
  encoder : Nat
  group : Nat
  budget : Nat
  countsPerStep : Nat
  vStart : Nat
  vStop : Nat
  vBreak : Nat
  vMax : Nat
  a1 : Nat
  a2 : Nat
  d2 : Nat
  d1 : Nat
  dEmerg : Nat
  limMin : Int
  limMax : Int
  dirDwellUs : Nat
  iRun : Nat
  iHold : Nat
  iMax : Nat
  holdMs : Nat
  deviation : Nat
  deriving DecidableEq, Repr, Inhabited

/-- R208. -/
structure DEncoder where
  countsPerIn : Nat
  invert : Bool
  useIndex : Bool
  filterNs : Nat
  deriving DecidableEq, Repr, Inhabited

/-- R208. -/
structure DBudget where
  cont : Nat
  peak : Nat
  peakMs : Nat
  deriving DecidableEq, Repr, Inhabited

/-- R208. -/
structure DDram where
  sizeGib : Nat
  ecc : Bool
  rateMt : Nat
  budget : Nat
  deriving DecidableEq, Repr, Inhabited

/-- R208. -/
structure DPrism where
  nodeId : Nat
  root : Bool
  ports : Nat
  expect : Nat
  systemId : Nat
  deriving DecidableEq, Repr, Inhabited

/-- R208. -/
structure DCamera where
  lanes : Nat
  bits : Nat
  i2cAddr : Nat
  expLatency : Nat
  gainLatency : Nat
  laneMbps : Nat
  width : Nat
  height : Nat
  deriving DecidableEq, Repr, Inhabited

/-- R208. -/
structure DWake where
  enable : Nat
  polarity : Nat
  i2cAddr : Nat
  deriving DecidableEq, Repr, Inhabited

/-- One record as it stands in the declaration (R196). -/
structure RawRec where
  type : Nat
  inst : Nat
  body : List Byte
  deriving DecidableEq, Repr, Inhabited

/-- The accepted declaration, typed; instances beside the records that need not be contiguous. -/
structure Decl where
  system : DSystem
  geometry : DGeometry
  segments : List DSegment
  /-- RED_NM. -/
  redNm : Int
  /-- BLUE_NM. -/
  blueNm : Int
  strings : List (Nat × DString)
  thermals : List (Nat × DThermal)
  axes : List (Nat × DAxis)
  encoders : List (Nat × DEncoder)
  /-- R208 SPEEDS: the first COUNT entries. -/
  speeds : List Nat
  budgets : List (Nat × DBudget)
  dram : DDram
  prism : Option DPrism
  cameras : List (Nat × DCamera)
  wake : Option DWake
  /-- R208 SAFETY_OUT: (SENSOR, MODE) of TFE_OUT0 and TFE_OUT1. -/
  safety : List (Nat × Nat)
  /-- MIN_PROTO_MINOR. -/
  minMinor : Nat
  /-- DECL_ID. -/
  declId : Nat
  /-- Every record, for DECLARE.QUERY and the digests. -/
  records : List RawRec
  deriving DecidableEq, Repr, Inhabited

/-- R156: the line states. -/
inductive LineState where
  | booted | declared | ready | calibrating | armed | capturing | seam | frozen
  deriving DecidableEq, Repr, Inhabited

/-! ### Firmware, line state, deferred commands (03 R127 to R134, 04 R156 to R194) -/

/-- R174: LINE.STOP's modes. -/
inductive StopMode where
  | endRun | seam
  deriving DecidableEq, Repr, Inhabited

/-- R180: how a deferred LINE.RECONFIGURE waits. -/
inductive ReconfWait where
  /-- DEFER: the next seam's resume in scan mode; the next LINE.START in follower mode. -/
  | defer
  /-- FORCE_SEAM: the resume of the seam it starts. -/
  | forceSeam
  /-- FORCE_AT_LINE: from this output number. -/
  | atLine (line : Nat)
  deriving DecidableEq, Repr, Inhabited

/-- What a deferred command will do (R167). -/
inductive DeferAct where
  | stop (mode : StopMode) (line : Nat)
  | config (line : Nat) (entries : List (Nat × Nat × Nat))
  | swap (line : Nat)
  | reconf (wait : ReconfWait) (records : List RawRec)
  | camSensor (rx : Nat) (frame : Nat) (gain : Bool) (value : Nat)
  | schedule (mark : Bool) (timeNs : Nat) (line : Nat)
  deriving DecidableEq, Repr, Inhabited

structure Deferred where
  tag : Half
  verb : Half
  obj : Half
  act : DeferAct
  /-- 04 R185. CAL.SWAP AT_LINE: the swap has taken effect at this line; the copy is awaited. -/
  acted : Option Nat
  deriving DecidableEq, Repr, Inhabited

/-- The long action of a verb whose reply is still to come (R120). -/
inductive Busy where
  /-- LAMP.SET: the strings addressed. -/
  | lampSet (strings : List Nat)
  /-- LAMP.DUTY: the string. -/
  | lampDuty (str : Nat)
  | lampTest (str : Nat)
  | lampRecover (str : Nat) (leave : Bool)
  /-- CAL.DARK or CAL.WHITE in progress. -/
  | cal
  /-- CAL.SWAP whose copy has not ended, or whose swap waits for a line boundary. -/
  | swap
  /-- CAL.LOAD whose loaded bank is not yet open to writes (R329): TABLE, SEGMENT and the data. -/
  | load (table seg : Nat) (data : List Byte)
  /-- CAL.LANES RECAL on a port. -/
  | lanes (port : Nat)
  /-- LINE.ARM with SYSTEM, awaiting nodes. -/
  | systemArm
  /-- LINE.CONFIG to be applied at the next line boundary. -/
  | config (entries : List (Nat × Nat × Nat))
  /-- LINE.MIRROR to be applied at the next line boundary. -/
  | mirror
  /-- LINE.STOP awaiting the end of a calibration's accumulation. -/
  | stopCal
  /-- LINE.STOP with SEAM awaiting step 2 of the seam. -/
  | stopSeam
  /-- LINE.ARM awaiting the end of an earlier run's captures. -/
  | arm
  | threshold (sensor : Nat)
  | hkSequence
  | camStop (rx : Nat)
  | loupe
  | prismJoin
  | prismRelay (node : Nat) (route : Option Nat)
  | prismSwap
  /-- A verb that needs DP_CLK waits for the wake of an automatic Doze (R728). -/
  | waking
  deriving DecidableEq, Repr, Inhabited

/-- A verb as it is executed: its code and the command's fields (R88). -/
structure Cmd where
  verb : Half
  req : Req
  deriving DecidableEq, Repr, Inhabited

structure FwU where
  /-- 256 entries; 03 R127, R134; reset empty. History of the command ring, newest first. -/
  histRing : List HistEntry := []
  /-- 256 entries; 03 R127, R134; reset empty. History of the firmware urgent slot, newest first. -/
  histUrg : List HistEntry := []
  /-- 16 bits; 02 R38; reset none. Tag of the last normal command replied to. -/
  lastTag : Option Half := none
  /-- 03 R120; reset none. The normal verb in progress. -/
  busy : Option (Cmd × Busy) := none
  /-- 14 R699; reset none. The PRISM.RELAY in progress: target node, and the port its route takes. -/
  relaying : Option (Cmd × Nat × Option Nat) := none
  /-- 03 R105; reset none. The urgent verb in progress. -/
  urgBusy : Option (Cmd × Busy) := none
  /-- 16; 04 R167; reset empty. Deferred commands pending, oldest first. -/
  deferred : List Deferred := []
  deriving DecidableEq, Repr, Inhabited

/-- R175: a start point set and not yet reached. -/
inductive StartAt where
  | now
  | position (p : Int)
  | time (ns : Nat)
  deriving DecidableEq, Repr, Inhabited

/-- Why admission has ended while captures drain (R157, R176, R178). -/
inductive Drain where
  | none
  /-- LINE.STOP with END. -/
  | stopEnd (verb : Half)
  /-- LINE.STOP with SEAM: the resume point is kept. -/
  | stopSeam (verb : Half)
  /-- The run's LINE_COUNT (R178). -/
  | counted
  /-- The feed axis's limit (R568). -/
  | limitEnd
  deriving DecidableEq, Repr, Inhabited

structure LineU where
  /-- 3 bits; 04 R156; reset BOOTED. Line state. -/
  st : LineState := .booted
  /-- 32 bits; 04 R169; reset DESIGN CHOICE 0 (log 11). Configuration epoch. -/
  epoch : Word := 0#32
  /-- 04 R157; reset none. Result of the DRAM training since the declaration was accepted: the code of R750. -/
  dram : Option Nat := none
  /-- ns; 15 R749, R750; reset none. Local time since which the grant of DRAM training has been asked for. -/
  dramAsk : Option Nat := none
  /-- 1 bit; 15 R749; reset 0. DRAM training runs. -/
  dramRun : Bool := false
  /-- 04 R212; reset empty. Segment ports whose bring-up waits for the end of DRAM training. -/
  bringDue : List Nat := []
  /-- MiB; 04 R160; reset 0. Trained capacity. -/
  dramMib : Nat := 0
  /-- 1 bit; 05 R277; reset 0. A bring-up has begun whose RPT.LINK_READY is still due. -/
  linkDue : Bool := false
  /-- 05 R261; reset 0. Lines admitted in the integrity window, its first line, and its trigger overruns. -/
  winLines : Nat := 0
  winFirst : Nat := 0
  overruns : Nat := 0
  /-- 04 R157, R277; reset none. Whether the latest RPT.LINK_READY was committed with success. -/
  linkReady : Option Bool := none
  /-- 32 bits; 04 R174; reset DESIGN CHOICE 0 (log 11). FIRST_LINE of the run. -/
  firstLine : Nat := 0
  /-- 32 bits; 04 R174; reset DESIGN CHOICE 0 (log 11). LINE_COUNT of the run. -/
  lineCount : Nat := 0
  /-- 8 bits; 04 R174, 08; reset DESIGN CHOICE 0 (log 11). Speed index. -/
  speed : Nat := 0
  /-- 1 bit; 03 R106; reset 0. CAPTURE.FREEZE holds until LINE.ARM is accepted. -/
  frozen : Bool := false
  /-- 1 bit; 14 R690; reset 0. FROZEN by a fault rather than by a verb. -/
  frozenFault : Bool := false
  /-- 04 R175; reset none. A start point set and not yet reached. -/
  start : Option StartAt := none
  /-- 1 bit; 04 R174; reset 0. LINE.START has been accepted in this run: triggers are admitted. -/
  admitting : Bool := false
  /-- 04 R157, R176, R178; reset none. -/
  drain : Drain := .none
  /-- 32 bits; 04 R825; reset none. Capture line number last admitted. -/
  lastAdmitted : Option Nat := none
  /-- 32 bits; 04 R825; reset none. Output number last delivered. -/
  lastDelivered : Option Nat := none
  /-- 32 bits; 04 R174; reset DESIGN CHOICE 0 (log 11). Seams of the run. -/
  seams : Nat := 0
  /-- 32 bits; 04 R174; reset DESIGN CHOICE 0 (log 11). Gap numbers of the run. -/
  gaps : Nat := 0
  /-- Grid index; 04 R176, 08 R441; reset none. Resume point held. -/
  resume : Option Nat := none
  /-- 1 bit; 04 R168, 07 R374; reset 0. A run has ended and its last lines are still being formed or fixed as gaps. -/
  settling : Bool := false
  /-- 1 bit; 04 R174; reset 0. The run was armed with SYSTEM. -/
  system : Bool := false
  /-- 1 bit; 04 R174; reset 0. The run was armed with RESUME and has not admitted a line yet. -/
  resuming : Bool := false
  /-- 1 bit; 14 R694; reset 0. Armed with SYSTEM: what an arm without RESUME discards is kept until the start, for UNARM. -/
  fresh : Bool := false
  /-- 14 R695, R696; reset empty. Stops at a named line that the root of a system run has ordered. -/
  treeStops : List (StopMode × Nat) := []
  deriving DecidableEq, Repr, Inhabited

/-! ### The Segment link (05) -/

/-- R274: the states of a segment port. -/
inductive PortSt where
  | off | linking | up | degraded | failed
  deriving DecidableEq, Repr, Inhabited

/-- R238: the roles of a lane. -/
inductive LaneRole where
  | data | spare | copy | training
  deriving DecidableEq, Repr, Inhabited

/-- R265: where the training of a lane stands. -/
inductive TrainStep where
  /-- Waiting for the PRBS-7 checker to lock; windows waited. -/
  | lock (waited : Nat)
  /-- Phase sweep, before (false) or after (true) the boost walk: the results of the taps visited, oldest first. -/
  | sweep (final : Bool) (start : Nat) (good : List Bool)
  /-- Boost walk: centre, best boost, its width, direction, settings measured in this direction; the tap offset being
  walked on this side, side (true: later), and taps found good on the first side. -/
  | boost (centre best width : Nat) (dirUp : Bool) (tried : Nat) (offset : Nat) (second : Bool) (first : Nat)
  /-- Slicer walk: going up, or down after having found the upper bound. -/
  | slicerUp (origin : Int) (at_ : Int)
  | slicerDown (origin hi : Int) (at_ : Int)
  /-- The slicer goes to its midpoint, and training ends there. -/
  | settle
  deriving DecidableEq, Repr, Inhabited

/-- The three settings of a lane (R262). -/
structure LaneSet where
  tap : Nat := 0
  boost : Nat := 0
  slicer : Int := 0
  deriving DecidableEq, Repr, Inhabited

/-- A device lane (R262 to R271). -/
structure Lane where
  /-- 6 bits; 05 R262; reset DESIGN CHOICE 0 (log 17). TAP. -/
  tap : Nat := 0
  /-- 4 bits; 05 R262; reset DESIGN CHOICE 0 (log 17). BOOST. -/
  boost : Nat := 0
  /-- -31 to 31; 05 R262; reset DESIGN CHOICE 0 (log 17). SLICER. -/
  slicer : Int := 0
  /-- 2 bits; 05 R238; reset TRAINING. Role. -/
  role : LaneRole := .training
  /-- 2 bits; 05 R238; reset DESIGN CHOICE 0 (log 17). Stripe of a lane in DATA or COPY. -/
  stripe : Nat := 0
  /-- Taps; 05 R265; reset 0. Eye width of the last training. -/
  eye : Nat := 0
  /-- Steps; 05 R265; reset 0. Vertical margin of the last training. -/
  margin : Nat := 0
  /-- 05 R268; reset 0. When the lane was last trained, counted in trainings of the port. -/
  trainedAt : Nat := 0
  /-- 05 R265; reset none. Training in progress, and windows spent. -/
  train : Option TrainStep := none
  windows : Nat := 0
  /-- 05 R262, R265; reset 0. In training: the settings to be reached, one step a window, before the next measurement. -/
  goal : LaneSet := {}
  /-- 1 bit; 05 R244; reset 0. In DATA or COPY: taken as carrying its stripe. -/
  aligned : Bool := false
  /-- 1 bit; 05 R271; reset 0. The last training window showed no error. -/
  clean : Bool := false
  /-- 1 bit; 05 R266; reset 0. The last training passed. -/
  passed : Bool := false
  deriving DecidableEq, Repr, Inhabited

/-- R275: the step at which a bring-up waits. -/
inductive Bring where
  | none
  /-- Step 3. -/
  | train
  /-- Step 4 done: waiting for the first SOPs aligned. -/
  | align
  /-- Step 5: reads not yet answered. -/
  | identify
  /-- Step 6: writes not yet answered. -/
  | setup
  /-- Step 7: waiting for the grant. -/
  | grant
  /-- Step 8: RUN was written at this local time. -/
  | settle (since : Nat)
  deriving DecidableEq, Repr, Inhabited

/-- What a register access is for. -/
inductive RegUse where
  | bring | run | config | poll | clear
  /-- The registers that a LINE.RECONFIGURE changes. -/
  | shape
  deriving DecidableEq, Repr, Inhabited

/-- R281: a register access: write or read, address, data. -/
structure RegAcc where
  write : Bool
  addr : Nat
  data : Nat
  use : RegUse
  /-- R288: TAG + 1 of the LINE.CONFIG that asks for it; 0 otherwise. -/
  own : Nat := 0
  deriving DecidableEq, Repr, Inhabited

/-- R281: an access outstanding: TAG, times sent, local time last sent. -/
structure RegOut where
  acc : RegAcc
  tag : Nat
  tries : Nat
  sentAt : Nat
  deriving DecidableEq, Repr, Inhabited

/-- R268: a rotation step. -/
inductive Rot where
  | idle
  /-- Step 3: lane S copies lane X. -/
  | comparing (sLane xLane : Nat)
  /-- Step 6: lane X trains. -/
  | training (xLane : Nat)
  deriving DecidableEq, Repr, Inhabited

/-- R261: the counts of a window of 1,024 admitted lines. -/
structure SegCounts where
  short : Nat := 0
  long : Nat := 0
  missing : Nat := 0
  bubble : Nat := 0
  stale : Nat := 0
  findings : Nat := 0
  deriving DecidableEq, Repr, Inhabited

/-- The transmitter of a timing lane (R218, R221, R224, R225). -/
structure TxLane where
  /-- 1 bit; 05 R221, R274; reset 0. The lane runs: a code group leaves in every slot. -/
  on : Bool := false
  /-- 1 bit; 05 R218; reset negative. Running disparity (true: positive). -/
  pos : Bool := false
  /-- 05 R225, R229; reset empty. Line starts: the slot in which `LS` leaves, and the symbols still to be sent. -/
  starts : List (Nat × List Sym) := []
  /-- 05 R224; reset empty. Register and lane-control sequences: what is still to be sent of each. -/
  seqs : List (List Sym) := []
  deriving DecidableEq, Repr, Inhabited

/-- A segment port (R216 to R289). -/
structure PortU where
  /-- 3 bits; 05 R274; reset OFF. -/
  st : PortSt := .off
  /-- 05 R275; reset none. Bring-up. -/
  bring : Bring := .none
  /-- 4; 05 R262. Device lanes. -/
  lanes : Vector Lane 4 := Vector.replicate 4 {}
  /-- 05 R221. The timing lane's transmitter. -/
  tx : TxLane := {}
  /-- 4 bits; 05 R240; reset DESIGN CHOICE 0 (log 17). SEQ of the last lane-control sequence. -/
  laneSeq : Nat := 0
  /-- Count; 05 R268; reset 0. Trainings of the port. -/
  trainings : Nat := 0
  /-- 05 R268; reset idle. Rotation step. -/
  rot : Rot := .idle
  /-- ns; 05 R268; reset 0. Local time at which the last rotation step ended. -/
  rotEnded : Nat := 0
  /-- 1 bit; 05 R273; reset 0. CAL.LANES FREEZE. -/
  frozen : Bool := false
  /-- Count; 05 R273; reset 0. Steps of CAL.LANES RECAL still to run. -/
  recal : Nat := 0
  /-- 05 R281; reset empty. Register accesses waiting. -/
  regQ : List RegAcc := []
  /-- 4; 05 R281; reset empty. Accesses outstanding. -/
  regOut : List RegOut := []
  /-- 8 bits; 05 R281; reset DESIGN CHOICE 0 (log 17). TAG of the next access. -/
  tag : Nat := 0
  /-- 32 bits; 05 R289; reset 0. DIG_ID last read. -/
  digId : Nat := 0
  /-- 32 bits; 05 R275; reset 0. DIG_VERSION last read. -/
  digVersion : Nat := 0
  /-- 32 bits; 05 R275; reset 0. DIG_CAPS last read. -/
  digCaps : Nat := 0
  /-- 32 bits; 05 R286, R289; reset 0. DIG_STATUS last read. -/
  digStatus : Nat := 0
  /-- 16 bits; 05 R287; reset 0x8000. DIG_ADDR. -/
  digAddr : Nat := 0x8000
  /-- 1 bit; 05 R287; reset 1. PHASE_TRACK. -/
  track : Bool := true
  /-- 16 bits; 05 R248; reset none. SEQ expected of the next packet. -/
  rxSeq : Option Nat := none
  /-- ns; 05 R233; reset 0. Local time before which no line start may follow. -/
  lsFree : Nat := 0
  /-- 1 bit; 05 R288; reset 0. PLAN.APPLY is due on the next line start. -/
  apply : Bool := false
  /-- Pixel clocks; 05 R235, R282, R284; reset 80 and 10. E_L and E_S in force in the digitizer, by the device's own writes. -/
  expForce : Nat × Nat := (0x50, 0x0A)
  /-- Pixel clocks; 05 R284; reset 80 and 10. E_L and E_S last written and replied to. -/
  expNext : Nat × Nat := (0x50, 0x0A)
  /-- 1 bit; 05 R283, R284; reset 0. DIG_CTRL.RUN, by the device's own writes. -/
  digRun : Bool := false
  /-- 1 bit; 05 R278; reset 0. The bring-up without host action has been run. -/
  retried : Bool := false
  /-- 05 R261; reset 0. Counts of the window. -/
  counts : SegCounts := {}
  deriving DecidableEq, Repr, Inhabited

/-! ### Line parameters, captures, the coefficient store and calibration (05, 06) -/

/-- The parameters of one segment that lines carry (R287, R313); none: the default. -/
structure SegPar where
  /-- Pixel clocks; 05 R287; reset default N_RD. EXP_LONG_CLK. -/
  expLong : Option Nat := none
  /-- Pixel clocks; 05 R287; reset default N_RD / 8. EXP_SHORT_CLK. -/
  expShort : Option Nat := none
  /-- 1 bit; 06 R313; reset 0. LIN_BYPASS. -/
  linBypass : Bool := false
  /-- 1 bit; 06 R313; reset 1. DARK_ENABLE. -/
  darkEnable : Bool := true
  /-- u16.8; 06 R313; reset 0. MERGE_RATIO. -/
  mergeRatio : Nat := 0
  /-- LSB; 06 R313; reset 49,152. MERGE_KNEE. -/
  mergeKnee : Nat := 49152
  /-- 06 R313; reset 13. MERGE_BLEND_LOG2. -/
  blendLog2 : Nat := 13
  /-- LSB; 06 R313; reset 65,280. LONG_SAT. -/
  longSat : Nat := 65280
  /-- 1 bit; 06 R313; reset 1. SHADING_ENABLE. -/
  shadingEnable : Bool := true
  /-- 1 bit; 06 R313; reset 1. DEFECT_ENABLE. -/
  defectEnable : Bool := true
  deriving DecidableEq, Repr, Inhabited

/-- The parameters that lines carry (R179): a line keeps those in force at its admission. -/
structure LinePar where
  /-- 24; 05 R287, 06 R313. -/
  segs : Vector SegPar 24 := Vector.replicate 24 {}
  /-- 06 R313; reset 3. MERGE_SHIFT. -/
  mergeShift : Nat := 3
  /-- 06 R313; reset 0. MERGE_MODE. -/
  mergeMode : Nat := 0
  /-- 06 R313; reset 0. CLIP_LOW. -/
  clipLow : Nat := 0
  /-- 06 R313; reset 65,535. CLIP_HIGH. -/
  clipHigh : Nat := 65535
  deriving DecidableEq, Repr, Inhabited

/-- Parameters that steer calibration and the link (R287, R313). -/
structure CalPar where
  /-- ms; 05 R287; reset 250. ROTATE_INTERVAL_MS. -/
  rotateMs : Nat := 250
  /-- LSB; 06 R313; reset 512. DARK_HOT_LSB. -/
  darkHot : Nat := 512
  /-- Per mille; 06 R313; reset 500. WHITE_LOW_PM. -/
  whiteLow : Nat := 500
  /-- Per mille; 06 R313; reset 1,500. WHITE_HIGH_PM. -/
  whiteHigh : Nat := 1500
  deriving DecidableEq, Repr, Inhabited

/-- R257: the classes of a readout. -/
inductive RClass where
  | missing | bubble | short | long | valid
  deriving DecidableEq, Repr, Inhabited

/-- One expected readout (R256 to R258): the samples as they came, three colours a pixel. -/
structure Readout where
  /-- EXP: short. -/
  short : Bool
  /-- ns of local time. -/
  deadline : Nat
  px : List (Nat × Nat × Nat)
  /-- PACKET_INDEX expected next. -/
  next : Nat
  any : Bool
  bad : Bool
  /-- A packet was whole and correct by its COPY lane only (R270). -/
  onCopy : Bool
  closed : Bool
  /-- Pixels at or beyond PIXELS have come. -/
  overs : Bool
  cls : Option RClass
  deriving DecidableEq, Repr, Inhabited

/-- One segment's part of a capture. -/
structure SegLine where
  seg : Nat
  readouts : List Readout
  /-- Stage 8's output, once formed: red, green, blue (R346). -/
  planes : Option (List (List Nat))
  /-- HDR_PARTIAL. -/
  partialMerge : Bool
  deriving DecidableEq, Repr, Inhabited

/-- A mirror point chosen by LINE.MIRROR (R385); point 0: off. -/
structure MirrorSel where
  point : Nat
  /-- none: the device object. -/
  seg : Option Nat
  decimate : Nat
  deriving DecidableEq, Repr, Inhabited

/-- A line started: a capture of a run, or a calibration line. -/
structure Capture where
  /-- 1 bit. Calibration line. -/
  cal : Bool
  /-- Grid index (R364), or the calibration line counter. -/
  index : Nat
  /-- LINE of the line start (R228). -/
  line : Nat
  /-- EXP_SET. -/
  expSet : Nat
  /-- ns. Issue time (R229), in system time and on the local clock. -/
  issueNs : Nat
  issueLocal : Nat
  /-- R389. The mirror point in force at its line boundary. -/
  mirror : MirrorSel
  /-- s48. Recorded encoder position (R237), once latched, and the local time of the latch. -/
  pos : Option Int
  latchAt : Nat
  /-- The bank that corrects it (R327). -/
  bank : Nat
  par : LinePar
  epoch : Nat
  /-- Speed index, and R414 conditions fixed at issue. -/
  speed : Nat
  timeSlew : Bool
  /-- ns. Local time at which its last integration ends (R525); the strings it carries in FAULT_STRINGS. -/
  intEnd : Nat
  faultStrings : Nat
  /-- R349, R350. The shift in force of each segment, at admission. -/
  shifts : List Int
  /-- R230: PLAN.APPLY was set. -/
  apply : Bool
  segs : List SegLine
  /-- The capture is missing with this gap cause (R260, R418): 0 none. -/
  gap : Nat
  /-- Every readout has been classified and disposed of. -/
  done : Bool
  deriving DecidableEq, Repr, Inhabited

/-- One segment's tables in a bank; none: neutral contents (R320). -/
structure SegTables where
  /-- 32-bit words, 3 for each pixel; 06 R316, R317; reset neutral. -/
  main : Option (List Nat) := none
  /-- s12.4, 3 for each pixel; 06 R318; reset neutral. -/
  short : Option (List Int) := none
  /-- 3 x 4,096 u16; 06 R293; reset neutral (identity). -/
  lin : Option (List (List Nat)) := none
  /-- 3 x up to 3,072 words; 06 R319; reset neutral (empty). -/
  defects : Option (List (List Nat)) := none
  deriving DecidableEq, Repr, Inhabited

/-- A bank of the coefficient store (R315, R320). -/
structure Bank where
  /-- 1 bit; 06 R320, R321; reset EMPTY. LOADED. -/
  loaded : Bool := false
  /-- 24; 06 R315; reset neutral. -/
  segs : Vector SegTables 24 := Vector.replicate 24 {}
  /-- 98,304 bytes as u16; 06 R315, 07; reset neutral. Overlap weights. -/
  weights : Option (List Nat) := none
  deriving DecidableEq, Repr, Inhabited

/-- R329: what follows a swap. -/
inductive BankCopy where
  | idle
  /-- Lines of the old bank are still in the stages. -/
  | release
  /-- The bank-copy grant is asked for. -/
  | grant
  /-- The copy runs since this local time. -/
  | copying (since : Nat)
  deriving DecidableEq, Repr, Inhabited

/-- R335: where a calibration stands. -/
inductive CalStep where
  /-- Step 2: the sweep grant (or step 3: the loaded bank) is waited for. -/
  | start
  /-- Step 4. -/
  | lines
  /-- Steps 5 to 7. -/
  | compute
  deriving DecidableEq, Repr, Inhabited

/-- Sums of one segment and exposure: 3 for each pixel (R333). -/
structure CalSums where
  seg : Nat
  short : Bool
  sums : List Int
  deriving DecidableEq, Repr, Inhabited

/-- A CAL.DARK or CAL.WHITE in progress (R331 to R336). -/
structure CalRun where
  white : Bool
  swap : Bool
  keep : Bool
  lines : Nat
  target : Nat
  /-- R313: the parameters in force when the verb was taken. -/
  par : LinePar
  /-- EXP_SET of its lines. -/
  expSet : Nat
  /-- Ports addressed, and those lines are issued to. -/
  asked : List Nat
  segs : List Nat
  step : CalStep
  issued : Nat
  counted : Nat
  nextAt : Nat
  sums : List CalSums
  /-- Step 4 is in progress. -/
  accumulating : Bool
  /-- The calibration line counter of its first line. -/
  first : Nat
  deriving DecidableEq, Repr, Inhabited

structure CalU where
  /-- 2; 06 R315. -/
  banks : Vector Bank 2 := Vector.replicate 2 {}
  /-- 1 bit; 06 R315; reset DESIGN CHOICE 0 (log 18). The active bank. -/
  active : Nat := 0
  /-- 1 bit; 04 R186, 06 R329; reset 0. A table has been written to the loaded bank since the last swap. -/
  written : Bool := false
  /-- 06 R329; reset idle. -/
  copy : BankCopy := .idle
  /-- 06 R331; reset none. Calibration in progress. -/
  run : Option CalRun := none
  /-- 32 bits; 05 R228; reset DESIGN CHOICE 0 (log 18). Calibration line counter. -/
  counter : Nat := 0
  /-- 06 R338; reset none. Hot marks: segment, short, and 3 for each pixel. -/
  hot : List (Nat × Bool × List Bool) := []
  /-- 06 R313, 05 R287. -/
  par : CalPar := {}
  /-- 06 R322; reset empty. PIXELS of each segment of the declaration accepted last. -/
  shape : List Nat := []
  /-- 1 bit; 04 R186; reset 0. A CAL.SWAP taken waits for the next line boundary. -/
  swapping : Bool := false
  deriving DecidableEq, Repr, Inhabited

/-! ### Stitching, the Achromat, resampling and mirrors (07) -/

/-- A segment in the placement loop (R349 to R363). -/
structure Place where
  /-- s8 in 1/64 px; 07 R351; reset DESIGN CHOICE 0 (log 19). The shift in force. -/
  shift : Int := 0
  /-- 1 bit; 07 R351, R363; reset 0 (released). Frozen. -/
  frozen : Bool := false
  /-- 07 R360; reset none: no demand yet. D_s. -/
  demand : Option Int := none
  /-- 1 bit; 07 R362; reset 0. The segment's previous demand was clamped. -/
  clamped : Bool := false
  /-- Lines; 07 R361; reset none. Lines admitted since the segment's previous move. -/
  since : Option Nat := none
  /-- s8 in 1/64 px; 04 R185; reset none. The SHIFT of a CAL.PLACE SET that applies at the next line boundary. -/
  pending : Option Int := none
  deriving DecidableEq, Repr, Inhabited

/-- The parameters of R391. -/
structure AchrPar where
  /-- 07 R391; reset 4. PLACE_AVG. -/
  placeAvg : Nat := 4
  /-- 07 R391; reset 64. PLACE_MIN_CONF. -/
  placeConf : Nat := 64
  /-- 07 R391; reset 256. PLACE_RATE_LINES. -/
  placeRate : Nat := 256
  /-- 07 R391; reset 2. BRIDGE_MAX. -/
  bridgeMax : Nat := 2
  deriving DecidableEq, Repr, Inhabited

/-- A mirror record in the mirror buffer (R387): its prefix fields but DROPPED, and its samples. -/
structure MirrorRec where
  point : Nat
  seg : Nat
  exp : Nat
  flags : Nat
  line : Nat
  pixels : Nat
  position : Int
  timeNs : Nat
  samples : List Byte
  deriving DecidableEq, Repr, Inhabited

structure MirrorU where
  /-- 3 bits and scope; 07 R385; reset DESIGN CHOICE off (log 19). In force. -/
  sel : MirrorSel := { point := 0, seg := none, decimate := 1 }
  /-- 07 R389; reset none. A change waiting for the next line boundary. -/
  next : Option MirrorSel := none
  /-- 64 MiB; 07 R377, R390; reset empty. Mirror buffer, oldest record first. -/
  buf : List MirrorRec := []
  /-- 32 bits; 07 R387, R390; reset 0. Records dropped since the last one delivered. -/
  dropped : Nat := 0
  deriving DecidableEq, Repr, Inhabited

/-- R393: the counts of a window of 1,024 output numbers. -/
structure AchrCounts where
  bridged : Nat := 0
  unformed : Nat := 0
  discards : Nat := 0
  stretches : Nat := 0
  deriving DecidableEq, Repr, Inhabited

/-- The Achromat's place in a run, and what steers stages 8 to 10. Output lines are counted from 0 (R366: output number
FIRST_LINE + n). -/
structure AchrU where
  /-- 24; 07. -/
  place : Vector Place 24 := Vector.replicate 24 {}
  /-- 24 joins; 07 R359; reset empty. Estimates of enough confidence, newest first. -/
  hist : Vector (List Int) 24 := Vector.replicate 24 []
  /-- 07 R391. -/
  par : AchrPar := {}
  /-- 512 x s16, those written; 07 R383, R391; reset empty: an entry not written holds the derived set's value.
  Staging table of RS_COEF. -/
  staging : List (Nat × Int) := []
  /-- 512 x s16; 07 R383; reset none: the derived set is in force. -/
  custom : Option (List Int) := none
  /-- 07 R375; reset none: Y_0 of R366. Position of an output line after a change of pitch: (n, Y_n). -/
  base : Option (Nat × Int) := none
  /-- 07 R366, R369; reset 0. The next output line to be formed. -/
  next : Nat := 0
  /-- Grid index; 07 R373; reset 0. First index of the captures now held in the delay line. -/
  first : Nat := 0
  /-- Grid index; 07 R372; reset 0. Captures below it have been checked and stored. -/
  stored : Nat := 0
  /-- s48; 07 R372; reset none. Recorded position of the last present capture stored. -/
  lastPos : Option Int := none
  /-- 07 R393; reset 0. The window's first output line, its output number, and its counts. -/
  winFirst : Nat := 0
  winNum : Nat := 0
  counts : AchrCounts := {}
  /-- 07 R183, 04 R183; reset none. Output lines that carry TRANSITION: first, and the one after the last. -/
  transition : Option (Nat × Nat) := none
  /-- 04 R169; reset none. The line from which a FORCE_AT_LINE change applies, the epoch it gave, and the number of captures
  whose trigger had fired then. -/
  epochFrom : Option (Nat × Nat × Nat) := none
  mirror : MirrorU := {}
  deriving DecidableEq, Repr, Inhabited

/-! ### Delivery, pacing and seams (08) -/

/-- A line formed and written to the seam ring (R395, R413): header fields, and the three planes of M pixels as 16-bit
values. -/
structure OutLine where
  epoch : Nat
  timeNs : Nat
  position : Int
  flags : Nat
  stripe : Nat
  expL : Nat
  expS : Nat
  expSet : Nat
  speed : Nat
  format : Nat
  seamCount : Nat
  faultStrings : Nat
  firstCol : Nat
  lastCol : Nat
  planes : List (List Nat)
  deriving DecidableEq, Repr, Inhabited

/-- R396: the states of a line slot that is not free. -/
inductive SlotSt where
  | claimed | filled | retained
  deriving DecidableEq, Repr, Inhabited

/-- A line slot of the seam ring that is not free. -/
structure Slot where
  /-- Output line, counted from 0, and its output number. -/
  n : Nat
  num : Nat
  st : SlotSt
  line : Option OutLine
  /-- Line-data streams on which the line is still to be delivered (R396). -/
  owed : List Nat
  /-- Lines formed after it (R396). -/
  later : Nat
  deriving DecidableEq, Repr, Inhabited

/-- R416: a gap record. -/
structure GapRec where
  first : Nat
  count : Nat
  cause : Nat
  span : Bool
  epoch : Nat
  timeNs : Nat
  position : Int
  deriving DecidableEq, Repr, Inhabited

/-- A buffer of whole records being filled (R410): ring, descriptor, bytes placed, records, and when the first was placed. -/
structure FillBuf where
  ring : Nat
  desc : Desc
  bytes : List Byte
  count : Nat
  since : Nat
  deriving DecidableEq, Repr, Inhabited

/-- R446. -/
structure DelivPar where
  /-- 08 R446; reset 50. PACE_WINDOW_MS. -/
  windowMs : Nat := 50
  /-- 08 R446; reset 900. PACE_MARGIN_PM. -/
  marginPm : Nat := 900
  /-- 08 R446; reset 750. PACE_HIGH_PM. -/
  highPm : Nat := 750
  /-- 08 R446; reset 250. PACE_LOW_PM. -/
  lowPm : Nat := 250
  /-- 1 bit; 08 R446; reset 0. PACE_FIXED. -/
  fixed : Bool := false
  /-- 08 R446; reset 500. SEAM_RESUME_PM. -/
  resumePm : Nat := 500
  /-- 08 R446; reset 16. SEAM_SETTLE_LINES. -/
  settle : Nat := 16
  /-- 08 R446; reset 32. JOIN_TOL. -/
  joinTol : Nat := 32
  /-- 08 R446; reset 64. JOIN_MIN_SD. -/
  joinMinSd : Nat := 64
  /-- 08 R446; reset 100. HOST_STALL_MS. -/
  stallMs : Nat := 100
  /-- 08 R446; reset 100. DELIVER_FLUSH_MS. -/
  flushMs : Nat := 100
  deriving DecidableEq, Repr, Inhabited

/-- R432: where a seam stands. -/
inductive SeamPhase where
  | off
  /-- Steps 1 and 2. -/
  | ramp
  /-- Step 4: the dwell before the backup, since a local time. -/
  | dwellBack (since : Nat)
  /-- Step 4: the grant is asked for again at each pace window. -/
  | askBack
  | back
  /-- Step 5. -/
  | dwellFwd (since : Nat)
  /-- Step 6. -/
  | wait
  /-- Step 7: the grant is asked for again at each pace window. -/
  | askFwd
  /-- Steps 7 and 8: running up, no line admitted yet. -/
  | fwd
  /-- Steps 9 and 10. -/
  | join
  deriving DecidableEq, Repr, Inhabited

structure SeamU where
  /-- 08 R432; reset off. -/
  phase : SeamPhase := .off
  /-- ns; 08 R448; reset 0. Local time of the seam's start. -/
  startNs : Nat := 0
  /-- Output line; 08 R431; reset 0. n_r. -/
  nr : Nat := 0
  /-- 8 bits; 08 R432; reset 0. J′. -/
  j : Nat := 0
  /-- s32; 08 R433; reset 0. X_back in steps of the feed axis. -/
  xBack : Int := 0
  /-- Steps; 08 R448; reset 0. Backup travel. -/
  travel : Nat := 0
  /-- Count; 08 R435; reset 0. Returns to step 1. -/
  returns : Nat := 0
  /-- 1 bit; 08 R435, R449; reset 0. The seam's RPT.SEAM_JOIN has been committed. -/
  reported : Bool := false
  /-- 1 bit; 08 R438; reset 0. The seam has applied a LINE.RECONFIGURE. -/
  reconf : Bool := false
  /-- 08 R432, R437; reset empty. Green samples of the lines re-formed so far, in order. -/
  copies : List (List Nat) := []
  /-- 1 bit; 08 R438, R414; reset 0. The join check ended with OFFSET. -/
  offset : Bool := false
  /-- 1 bit; 08 R414; reset 0. The next line formed carries SEAM. -/
  mark : Bool := false
  deriving DecidableEq, Repr, Inhabited

structure DelivU where
  /-- R slots; 08 R395, R396; reset empty. The slots not free, ascending. -/
  slots : List Slot := []
  /-- 08 R396; reset empty. Slots filled in earlier runs, still to be delivered, in order. -/
  old : List Slot := []
  /-- 08 R396; reset none. Line-data streams bound at LINE.ARM. -/
  streams : List Nat := []
  /-- Output line; 08 R397; reset 0. The next line to be claimed. -/
  claim : Nat := 0
  /-- 1 bit; 08 R399; reset 0. Triggers are refused until the occupancy has fallen. -/
  refusing : Bool := false
  /-- 65,536 records; 08 R418; reset empty. The gap log area, oldest record first. -/
  gapLog : List GapRec := []
  /-- ns; 08 R418; reset none. The last record of the gap log is open since this local time. -/
  gapOpen : Option Nat := none
  /-- 08 R410; reset none. Gap-log buffer being filled. -/
  gapBuf : Option FillBuf := none
  /-- 08 R410; reset none. Loupe buffer being filled. -/
  loupeBuf : Option FillBuf := none
  /-- 4 counts; 08 R421; reset 0. Descriptors posted in the window on LINE, LINE_RED, LINE_GREEN and LINE_BLUE. -/
  posted : List Nat := [0, 0, 0, 0]
  /-- ns; 08 R421; reset 0. Local time at which the pace window began. -/
  window : Nat := 0
  /-- Lines/s; 08 R421; reset 0. Drain estimate d. -/
  drain : Rat := 0
  /-- 1 bit; 08 R422; reset 0. F was below PACE_LOW_PM in the window before. -/
  lowBefore : Bool := false
  /-- Ring; 08 R443; reset DESIGN CHOICE 15 (log 20): ring 0 is served first. Ring that took the last turn. -/
  turn : Nat := 15
  /-- 08 R446. -/
  par : DelivPar := {}
  /-- 08 R447; reset 16. SEAM_SETTLE_LINES of the seam in progress. -/
  settleNow : Nat := 16
  seam : SeamU := {}
  deriving DecidableEq, Repr, Inhabited

/-! ### Loupe (09) -/

/-- LOUPE.ANOMALY's settings (R465). -/
structure LAnomaly where
  on : Bool := false
  frozen : Bool := false
  baseLog2 : Nat := 0
  window : Nat := 1
  colours : Nat := 0
  thresh : Nat := 1
  maxList : Nat := 0
  deriving DecidableEq, Repr, Inhabited

/-- An alarm entry (R477). -/
structure LAlarm where
  kind : Nat
  colour : Nat
  index : Nat
  level : Nat
  deriving DecidableEq, Repr, Inhabited

/-- A LOUPE verb's settings, pending until the open stripe ends (R826). -/
inductive LSetting where
  | stripe (lines first colBin zones : Nat)
  | bands (freq : List Nat)
  | anomaly (a : LAnomaly)
  | alarm (l : List LAlarm)
  deriving DecidableEq, Repr, Inhabited

/-- The overlap sums of one join and one d (R471): Σa, Σb, Σa², Σb², Σab and N. -/
structure CorrSums where
  a : Nat := 0
  b : Nat := 0
  aa : Nat := 0
  bb : Nat := 0
  ab : Nat := 0
  n : Nat := 0
  deriving DecidableEq, Repr, Inhabited

/-- A stripe in progress, or finalised and waiting for firmware (R454 to R472). Positions count from 0. -/
structure Stripe where
  number : Nat
  /-- Output number of its first line, and the run line it is. -/
  firstLine : Nat
  first : Nat
  /-- LINES in force. -/
  lines : Nat
  colBin : Nat
  /-- Zones used. -/
  zones : Nat
  freq : List Nat
  m : Nat
  /-- For each position so far: included, or the reason it is excluded (true: a gap number). -/
  positions : List (Option Bool)
  /-- 3 x M u32 column sums (R461). -/
  cols : List (List Nat)
  /-- 3 x 256 counts. -/
  hist : List (List Nat)
  /-- For each included position in order: zone sums, zone by zone, red, green, blue. -/
  rows : List (List Nat)
  /-- R463. The input of the position before its first, in the same zones; none on a run's first stripe. -/
  carry : Option (List Nat)
  /-- For each join, the sums of d = -1, 0 and 1. -/
  joins : List (List CorrSums)
  /-- For each join, usable columns. -/
  usable : List Nat
  /-- A line of the stripe carries SEAM. -/
  seam : Bool
  /-- Epoch of the first included line. -/
  epoch : Option Nat
  /-- R826. The anomaly detector and the alarm entries in force for it; R469: the baselines are reset before it. -/
  anomaly : LAnomaly
  alarms : List LAlarm
  baseReset : Bool
  isPartial : Bool
  /-- Amplitudes and phases of R464: for each zone, colour and bin; set when the stripe finalises. -/
  bands : List (Nat × Nat × Nat)
  deriving DecidableEq, Repr, Inhabited

/-- A packet in the Loupe area (R474, R475): its stripe, KIND, and its bytes with CRC, LOST_BEFORE and STRIPES_LOST still
to be filled in. -/
structure LPacket where
  stripe : Nat
  kind : Nat
  bytes : List Byte
  deriving DecidableEq, Repr, Inhabited

structure LoupeU where
  /-- 32 bits; 09 R458; reset 1,024. LINES. -/
  lines : Nat := 1024
  /-- 7 bits; 09 R458; reset 1. COL_BIN. -/
  colBin : Nat := 1
  /-- 7 bits; 09 R458; reset 16. ZONES. -/
  zones : Nat := 16
  /-- 32 x u0.32; 09 R458; reset none. FREQ of each banding bin. -/
  freq : List Nat := []
  /-- 09 R458; reset off. -/
  anomaly : LAnomaly := {}
  /-- 16 entries; 09 R458; reset none. -/
  alarms : List LAlarm := []
  /-- 32 bits; 09 R455, R458; reset 0. Number of the next stripe to begin. -/
  nextNumber : Nat := 0
  /-- 09 R454; reset none. The open stripe. -/
  cur : Option Stripe := none
  /-- 09 R463; reset none. Zone sums of the run's last position, with the zones and M they were taken over. -/
  lastInput : Option (Nat × Nat × List Nat) := none
  /-- 09 R457; reset empty. Stripes finalised by hardware that await firmware, oldest first. -/
  finalised : List Stripe := []
  /-- 09 R826; reset empty. Settings that wait for the open stripe's end, in the order taken. -/
  pendingSet : List LSetting := []
  /-- 3 x bins x u32 in 1/256 code; 09 R466, R469; reset none. Baselines U of red, green and blue; none: reset. -/
  baseline : List (Option (List Nat)) := [none, none, none]
  /-- 1 bit; 09 R469; reset 0. The baselines are reset before the next stripe that begins. -/
  baseReset : Bool := false
  /-- 09 R469: bin count and COL_BIN of the previous stripe; reset none. -/
  lastBins : Option (Nat × Nat) := none
  /-- 09 R474; reset empty. Packets not yet delivered, in order. -/
  packets : List LPacket := []
  /-- 32 bits; 09 R474; reset 0. Stripes discarded since the last summary delivered. -/
  lost : Nat := 0
  /-- 09 R475; reset none. Stripe of the summary last delivered, and its STRIPES_LOST. -/
  lostIn : Nat × Nat := (0, 0)
  /-- 16 bits; 09 R478; reset 0. Entries tripped on the previous stripe finalised. -/
  tripped : Nat := 0
  deriving DecidableEq, Repr, Inhabited

/-! ### Illumination (10) -/

/-- R512: the string states. -/
inductive StrState where
  | off | starting | on | recovery | safe | fault
  deriving DecidableEq, Repr, Inhabited

/-- One lamp of a string. -/
structure Lamp where
  /-- 12 bits; 10 R489; reset DESIGN CHOICE 0 (log 9). Flattening duty F_j. -/
  duty : Nat := 0
  /-- s8; 10 R489, R511; reset DESIGN CHOICE 0 (log 9). Loop trim t_j. -/
  trim : Int := 0
  /-- 12 bits; 10 R507; reset DESIGN CHOICE 0 (log 9). Duty D_j last sent. -/
  sent : Nat := 0
  /-- 12 bits; 10 R497, R501; reset DESIGN CHOICE 0 (log 9). Duty D_j in force in its bypass device. -/
  inForce : Nat := 0
  /-- 1 bit; 10 R500 (BYP_FORCE), R518, R520; reset 0. The lamp's switch is held closed (retired). -/
  retired : Bool := false
  /-- 1 bit; 10 R518; reset 0. Found shorted or open since the string last left ON. -/
  found : Bool := false
  /-- 1 bit; 10 R507; reset 0. SATURATED has been reported. -/
  saturated : Bool := false
  /-- 1 bit; 10 R511; reset 0. LOOP_LIMIT has been reported since the trim last moved. -/
  loopLimited : Bool := false
  deriving DecidableEq, Repr, Inhabited

/-- A V-I test in progress (R517). -/
structure LampTest where
  points : List Nat
  measured : List (Nat × Nat)
  /-- ns. Since when the point's current has been the target (R484); none before its line mark. -/
  since : Option Nat
  deriving DecidableEq, Repr, Inhabited

/-- One lamp string (R480 to R525). -/
structure LampStr where
  /-- 3 bits; 10 R512; reset OFF. -/
  st : StrState := .off
  /-- 0.01 %; 10 R488, R514; reset DESIGN CHOICE 0 (log 9). Set (or, in RECOVERY, stored) level. -/
  level : Nat := 0
  /-- 1 bit; 10 R510; reset 0. Intensity loop asked for. -/
  loop : Bool := false
  /-- 10 bits with fraction; 10 R485, R516; reset 0. Target code, moving in a straight line while STARTING. -/
  target : Rat := 0
  /-- 10 R516; reset 0. Local time of the target's last update, ns. -/
  updated : Nat := 0
  /-- 1 bit; 15 R748; reset 0. The grant expired: the rise holds. -/
  held : Bool := false
  /-- 1 bit; 10 R520; reset 0. STARTING entered under R520: ends in RECOVERY. -/
  restart : Bool := false
  /-- 1 bit; 10 R516; reset 0. Every lamp held lit: a start from OFF or SAFE. -/
  allLit : Bool := false
  /-- 1 bit; 10 R525; reset 0. The last LAMP.SET was made in ARMED, CAPTURING or SEAM. -/
  setInRun : Bool := false
  /-- 25 x s; 10 R485, R487; reset 0. FF[0] to FF[24]. -/
  ff : Vector Int 25 := Vector.replicate 25 0
  /-- 25 x mV; 10 R487; reset DESIGN CHOICE 0 (log 9). VX[0] to VX[24]. -/
  vx : Vector Nat 25 := Vector.replicate 25 0
  /-- 1 bit; 10 R487; reset 0. FF has been spread since the declaration was accepted. -/
  learned : Bool := false
  /-- mA; 10 R487; reset DESIGN CHOICE 0 (log 9). Mean current of the monitor. -/
  meanMa : Nat := 0
  /-- mV; 10 R487; reset DESIGN CHOICE 0 (log 9). Mean voltage of the monitor. -/
  meanMv : Nat := 0
  /-- 7 bits; 10 R527; reset 0. Fault flags 0 to 6. -/
  flags : Nat := 0
  /-- 1 bit; 10 R513, R519; reset 0. The fault's cause is LAMP_OPEN. -/
  causeOpen : Bool := false
  /-- mA; 10 R522, R523; reset: no derating (I_NOM_MA). The derating ceiling when lower than I_NOM_MA. -/
  derated : Option Nat := none
  /-- 1/16 degC; 10 R523; reset DESIGN CHOICE none (log 9). T_h. -/
  hotTemp : Option Int := none
  /-- Count; 10 R523; reset 0. Consecutive samples above T_h. -/
  hotUp : Nat := 0
  /-- Count; 10 R523; reset 0. Consecutive samples more than 32 below T_h. -/
  hotDown : Nat := 0
  /-- Count; 10 R522; reset 0. Consecutive samples at or above RISE_C16 + 256. -/
  overTemp : Nat := 0
  /-- 1 bit; 10 R525; reset 0. A lamp retired since the last CAL.WHITE or LAMP.DUTY. -/
  markRetired : Bool := false
  /-- 1 bit; 10 R521, R525; reset 0. Duties rebalanced since the last CAL.WHITE or LAMP.DUTY. -/
  markRebalanced : Bool := false
  /-- 1 bit; 10 R480, R482; reset low. STRn_GH. -/
  gh : Bool := false
  /-- 1 bit; 10 R480, R482; reset low. STRn_GL. -/
  gl : Bool := false
  /-- Code; 10 R485; reset 0. Threshold of the last switching period. -/
  periodThr : Int := 0
  /-- Cycles of PWM_CLK; 10 R482; reset 0. End of the on-time of the last switching period. -/
  periodOff : Nat := 0
  /-- Half ns; 10 R482, R483; reset none. Local time at which the period in progress began. -/
  periodAt : Option Nat := none
  /-- 10 R483; reset none. Number of the last period begun in the sequence of the present line mark. -/
  periodNo : Option Nat := none
  /-- 10 R517; reset none. V-I test. -/
  test : Option LampTest := none
  /-- 1 bit; 10 R524; reset 0. A current-step grant is asked for every 1 s. -/
  stepWanted : Bool := false
  /-- 10 R511; reset 0. The next POLL return after an eighth mark sets the loop's targets. -/
  loopArm : Bool := false
  /-- 24 lamps; 10 R489. -/
  lamps : Vector Lamp 24 := Vector.replicate 24 {}
  /-- 1 bit; 03 R106; reset 0. LAMPS.SAFE holds until a lamp verb for the string is accepted. -/
  safed : Bool := false
  deriving DecidableEq, Repr, Inhabited

/-- R502: the lamp link's states. -/
inductive LampLinkState where
  | off | linking | up | lost
  deriving DecidableEq, Repr, Inhabited

/-- Where bring-up stands (R502). -/
inductive LampBring where
  | idle | waitEnum | enum | reading | writing
  deriving DecidableEq, Repr, Inhabited

/-- A lamp-link frame to send (R494, R496), its SEQ and CRC added when it is sent. -/
structure LFrame where
  addr : Nat
  type : Nat
  body : List Byte
  deriving DecidableEq, Repr, Inhabited

/-- A photodiode and the loop's target for it (R511). -/
structure PdTarget where
  device : Nat
  input : Nat
  target : Nat
  deriving DecidableEq, Repr, Inhabited

/-- R508: windows and duties written for a LINE.CONFIG that changes exposures, their APPLY still to take effect. -/
structure LampStage where
  /-- The access number of the command. -/
  own : Nat
  /-- The windows and κ before it. -/
  oldWin : List Nat
  oldKappa : Rat
  /-- The APPLY has been sent. -/
  asked : Bool
  deriving DecidableEq, Repr, Inhabited

structure LampLinkU where
  /-- 2 bits; 10 R502; reset OFF. -/
  st : LampLinkState := .off
  /-- 10 R502; reset idle. Step of bring-up. -/
  bring : LampBring := .idle
  /-- ns; 10 R502, R503; reset 0. Local time of the step's start. -/
  since : Nat := 0
  /-- 8 bits; 10 R494; reset DESIGN CHOICE 0 (log 9). SEQ of the next frame. -/
  seq : Nat := 0
  /-- 10 R498; reset empty. Frames waiting, in order. -/
  queue : List LFrame := []
  /-- 10 R498; reset none. The frame in flight: frame, SEQ, failures. -/
  flight : Option (LFrame × Nat × Nat) := none
  /-- 10 R490 to R494; reset empty. Bit times of frames still to leave the pins. -/
  tx : List BitTime := []
  /-- 10 R493; reset none. The bit boundary at which MARK is to be sent, by its number. -/
  markSlot : Option Nat := none
  /-- 10 R497; reset none. Bit times still to leave before the EOF of an APPLY that no mark has followed yet. -/
  applyLeft : Option Nat := none
  /-- Count; 10 R505; reset 0. Marks since the last eighth mark. -/
  marks : Nat := 0
  /-- 1 bit; 10 R505; reset 0. A POLL is due at the next frame boundary. -/
  pollDue : Bool := false
  /-- 1 bit; 10 R505, R511; reset 0. The POLL in flight (or due) was sent after an eighth mark. -/
  pollEighth : Bool := false
  /-- ns; 10 R505; reset 0. Local time of the last POLL. -/
  lastPoll : Nat := 0
  /-- ns; 10 R483, R493; reset 0. Local time of the last line mark. -/
  lastMark : Nat := 0
  /-- ns; 10 R229, R483; reset none. The line mark of a line decided on, whose issue time is still to come. -/
  nextMark : Option Nat := none
  /-- 10 R501, R506; reset 0. BYP_WIN0_START, BYP_WIN0_LEN, BYP_WIN1_START, BYP_WIN1_LEN last sent, and those in force. -/
  win : List Nat := [0, 0, 0, 0]
  winIn : List Nat := [0, 0, 0, 0]
  /-- 10 R506; reset 1. kappa. -/
  kappa : Rat := 1
  /-- 32 x 12 bits; 10 R500; reset 0. BYP_FORCE last written to each device, and that in force. -/
  force : Vector Nat 32 := Vector.replicate 32 0
  forceIn : Vector Nat 32 := Vector.replicate 32 0
  /-- 10 R508; reset none. -/
  stage : Option LampStage := none
  /-- 10 R511; reset none. Targets P* of the photodiodes. -/
  targets : List PdTarget := []
  deriving DecidableEq, Repr, Inhabited

/-! ### Motion (11) -/

/-- R537: the axis states. -/
inductive AxState where
  | disabled | idle | moving | dwell | stopping | halted | fault
  deriving DecidableEq, Repr, Inhabited

/-- R545 to R548: one queued move, of one axis or of a group: its end point and displacement for each axis. -/
structure Move where
  /-- 4 x s32; 11 R546. End point of each axis. -/
  ends : List Int
  /-- 4 x s32; 11 R561. Displacement of each axis. -/
  delta : List Int
  /-- steps/s; 11 R539. The V_MAX argument, 0 for the declared one. -/
  vMax : Nat
  /-- 1 bit; 04 R188. NO_BLEND. -/
  noBlend : Bool
  /-- steps/s; 11 R541, R548. The exit speed toward which the fall at this move's end has begun; none while it has not. -/
  falling : Option Nat := none
  deriving DecidableEq, Repr, Inhabited

/-- How a drive is falling (R551 to R556). -/
inductive Fall where
  | none
  /-- Through D2 and D1 (AXIS.STOP, a stop ramp, a REPLACE that cannot reach its end point). -/
  | ramp
  /-- At D_EMERG (AXIS.STOP with EMERGENCY). -/
  | emergency
  /-- At a constant rate in steps/s² that halts at the limit (R552). -/
  | atRate (rate : Nat)
  /-- At D_EMERG toward a limit it cannot keep (R553). -/
  | toFault
  deriving DecidableEq, Repr, Inhabited

/-- Why a drive stands in DWELL (R537). -/
inductive Dwell where
  | none
  /-- The reference is being raised to I_RUN (50 µs, R543), until this local time in ns. -/
  | iref (until_ : Nat)
  /-- A direction change (R550), until this local time in ns. -/
  | direction (until_ : Nat)
  /-- Awaiting the first step of a move at the next ramp update. -/
  | first
  deriving DecidableEq, Repr, Inhabited

/-- A ramp generator: one for each axis (0 to 3) and one for each group (4 to 7). -/
structure Drive where
  /-- 64 entries; 11 R545; reset empty. The move queue, the move in progress first. -/
  queue : List Move := []
  /-- 11 R551, R555; reset none. The line along which the drive falls to standstill, the queue having been emptied or replaced. -/
  coast : Option Move := none
  /-- 1 bit; 11 R541; reset 0. The first move of the queue has begun. -/
  begun : Bool := false
  /-- Steps; 11 R563; reset 0. Steps of the move, feed or fall in progress the lead has taken. -/
  steps : Nat := 0
  /-- 4 x s32; 11 R563; reset 0. Position of each axis at the start of the move in progress. -/
  startPos : List Int := [0, 0, 0, 0]
  /-- u24.32; 11 R540; reset 0. Speed in steps/s, raw. -/
  speed : Nat := 0
  /-- 11 R540; reset 0. Phase of the step accumulator, in units of V per tick. -/
  phase : Nat := 0
  /-- 11 R551 to R556; reset none. -/
  fall : Fall := .none
  /-- 11 R550; reset none. -/
  dwell : Dwell := .none
  /-- steps/s; 11 R567; reset none. Feed axis without an end point: the speed of the index asked for. -/
  feed : Option Nat := none
  /-- 1 bit; 11 R555; reset 0. AXIS.STOP or a stop ramp is in progress. -/
  stopping : Bool := false
  /-- 15 R748; reset 0. The acceleration grant expired: the speed rises no further. -/
  noRise : Bool := false
  /-- ns; 11 R543; reset none. Local time since when the drive has been at standstill (while the grant is held). -/
  standSince : Option Nat := none
  deriving DecidableEq, Repr, Inhabited

structure Axis where
  /-- 3 bits; 11 R537; reset DISABLED. -/
  st : AxState := .disabled
  /-- 1 bit; 11 R528; reset low. AXn_EN. -/
  en : Bool := false
  /-- 1 bit; 11 R528; reset low. AXn_DIR, true: positive. -/
  dir : Bool := false
  /-- 1 bit; 11 R529; reset low. The level AXn_DIR takes 1 µs after the last rising edge of AXn_STEP. -/
  dirTo : Bool := false
  /-- 1 bit; 11 R528, R529; reset low. AXn_STEP; each rising edge is also recorded in the output log. -/
  step : Bool := false
  /-- ns; 11 R529; reset none. Local time of the last rising edge of AXn_STEP. -/
  stepAt : Option Nat := none
  /-- 10 bits; 11 R530; reset 0. AXn_IREF code. -/
  iref : Nat := 0
  /-- 10 bits; 11 R530, R543; reset 0. The code AXn_IREF takes at the next ramp update. -/
  irefTo : Nat := 0
  /-- s32; 11 R557; reset DESIGN CHOICE 0 (log 10). Step position. -/
  pos : Int := 0
  /-- s48; 11 R559; reset 0. c_ref. -/
  cRef : Int := 0
  /-- s32; 11 R559; reset 0. p_ref. -/
  pRef : Int := 0
  /-- Count; 11 R559; reset 0. Consecutive updates at which |e| exceeded DEVIATION. -/
  devCount : Nat := 0
  /-- 1 bit; 03 R106; reset 0. HALT.MOTION holds until a motion verb for the axis is accepted. -/
  halted : Bool := false
  deriving DecidableEq, Repr, Inhabited

structure Encoder where
  /-- s48; 11 R534; reset DESIGN CHOICE 0 (log 10). Count. -/
  count : Int := 0
  /-- 1 bit; 11 R532; reset DESIGN CHOICE 0 (log 10). Accepted level of A. -/
  a : Bool := false
  /-- 1 bit; 11 R532; reset DESIGN CHOICE 0 (log 10). Accepted level of B. -/
  b : Bool := false
  /-- 1 bit; 11 R536; reset DESIGN CHOICE 0 (log 10). Accepted level of the index. -/
  i : Bool := false
  /-- s48; 11 R536; reset DESIGN CHOICE 0 (log 10). Count latched by the index. -/
  latched : Int := 0
  /-- 1 bit; 11 R536; reset 0. The next index latch is reported. -/
  indexDue : Bool := false
  /-- Count; 11 R535; reset 0. Quadrature errors since the last report. -/
  errors : Nat := 0
  /-- ns; 11 R535; reset none. Local time of the last ENCODER_ERROR report. -/
  errReported : Option Nat := none
  deriving DecidableEq, Repr, Inhabited

/-- The position-compare unit (R570 to R573). -/
structure CompareU where
  /-- u32.32; 11 R570; reset 0. Π as last computed, in 2^-32 count. -/
  pitch : Nat := 0
  /-- u32.32; 11 R571, R573; reset 0. The pitch of the grid in force, taken from Π at a LINE.START without RESUME. -/
  gridPitch : Nat := 0
  /-- u16; 07 R364, 11 R573; reset 0. CAPTURE_PITCH of the grid in force. -/
  capPitch : Nat := 0
  /-- s48.32; 11 R571; reset none. Grid position of index 0, in 2^-32 count. -/
  g0 : Option Int := none
  /-- 32 bits; 11 R572; reset 0. Pending grid index. -/
  index : Nat := 0
  deriving DecidableEq, Repr, Inhabited

structure MotionU where
  /-- 4; 11. -/
  axes : Vector Axis 4 := Vector.replicate 4 {}
  /-- 4 axes then 4 groups; 11 R545. -/
  drives : Vector Drive 8 := Vector.replicate 8 {}
  /-- 4; 11. -/
  encs : Vector Encoder 4 := Vector.replicate 4 {}
  /-- 11 R570 to R573. -/
  cmp : CompareU := {}
  deriving DecidableEq, Repr, Inhabited

/-! ### Thermal front end, safety outputs, housekeeping ADC, supervisor (12) -/

/-- R595: LEVEL. -/
inductive TLevel where
  | clear | raised | overs
  deriving DecidableEq, Repr, Inhabited

structure Sensor where
  /-- 2 bits; 12 R591; reset CLEAR. LEVEL. -/
  level : TLevel := .clear
  /-- 1 bit; 12 R592; reset 0. LATCHED. -/
  latched : Bool := false
  /-- 1 bit; 12 R593; reset 0. FAULT. -/
  fault : Bool := false
  /-- 1 bit; 12 R590; reset 0. STALE. -/
  stale : Bool := false
  /-- ns; 12 R592; reset none. Crossing times, newest first, at most the last five. -/
  crossings : List Nat := []
  /-- Counts; 12 R591; reset 0. Consecutive readings meeting the condition upward, over, downward. -/
  cUp : Nat := 0
  cOver : Nat := 0
  cDown : Nat := 0
  /-- Counts; 12 R593; reset 0. Consecutive faulted and not faulted readings. -/
  cFault : Nat := 0
  cGood : Nat := 0
  /-- s24; 12 R582; reset none. The sample before. -/
  lastX : Option Int := none
  /-- 1 bit; 12 R579; reset 0. Orientation of the next sample. -/
  orient : Bool := false
  /-- s16; 12 R582, R584; reset none. Latest reading; 0x8000 as -32768 when faulted. -/
  reading : Option Int := none
  /-- ns; 12 R590; reset 0. Time (of ANA_CLK) of the latest reading, or of the start. -/
  readAt : Nat := 0
  /-- ns; 12 R585; reset none. Start time, and samples since: the due time of the next sample. -/
  start : Nat := 0
  due : Nat := 0
  /-- 16 bits; 12 R585; reset 0. LATE since the previous report. -/
  late : Nat := 0
  /-- 16 bits; 12 R589; reset 0. BLANK_ABANDON since the previous report. -/
  abandoned : Nat := 0
  /-- s16, s16, 7 bits; 12 R591, R596; reset: none until a declaration. RISE, FALL, DWELL in force when set by
  TEMP.THRESHOLD. -/
  thr : Option (Int × Int × Nat) := none
  /-- 12 R597; reset none. Thresholds that apply from the next reading. -/
  pendingThr : Option (Int × Int × Nat) := none
  deriving DecidableEq, Repr, Inhabited

/-- R598: a safety output's waveform. -/
structure SafetyOut where
  /-- µs (MODE 1) or cycles of ANA_CLK (MODE 2); 12 R598; reset 0 (low, no pulses). Period and high time in force. -/
  period : Nat := 0
  high : Nat := 0
  /-- ns; 12 R599; reset 0. Local time at which the period in force began. -/
  since : Nat := 0
  deriving DecidableEq, Repr, Inhabited

/-- R602. -/
structure HkEntry where
  channel : Nat
  subsel : Nat
  cycles : Nat
  gain : Nat
  avgLog2 : Nat
  conv : Nat
  deriving DecidableEq, Repr, Inhabited

/-- A converter's entry in progress: entry index, conversions done, sum of codes, and the local time in ns at which the conversion
in progress began; none while the entry waits at the supervisor's slot (R606). -/
structure HkRun where
  idx : Nat
  count : Nat
  sum : Nat
  since : Option Nat
  deriving DecidableEq, Repr, Inhabited

structure SupChan where
  /-- Count; 12 R608; reset 0. Consecutive results outside the window. -/
  out : Nat := 0
  /-- Count; 12 R608; reset 0. Consecutive results within it. -/
  inside : Nat := 0
  /-- 16 bits; 12 R606; reset DESIGN CHOICE 0 (log 13). Latest result. -/
  latest : Int := 0
  deriving DecidableEq, Repr, Inhabited

structure HkU where
  /-- 4 bits; 12 R608; reset 0. Channels 24 to 27 whose breach is confirmed and has not ended. -/
  breached : Nat := 0
  /-- 4; 12 R608. Supervisor channels 24 to 27. -/
  sup : Vector SupChan 4 := Vector.replicate 4 {}
  /-- 32 bits; 12 R607; reset 0. URGENT_DROPPED. -/
  dropped : Nat := 0
  /-- 2; 12 R607; reset none. Urgent conversion in progress on HK0 and HK1: the channel. -/
  urgent : Vector (Option Nat) 2 := Vector.replicate 2 none
  /-- 2 x ns; 12 R607; reset 0. Local time at which each converter's urgent conversion began. -/
  urgentAt : Vector Nat 2 := Vector.replicate 2 0
  /-- ns; 12 R606; reset 0. Local time at which the supervisor's slot in progress, or the next one, begins. -/
  slotAt : Nat := 0
  /-- 12 R604; reset none in force. The sequence in force. -/
  seq : List HkEntry := []
  /-- 12 R604; reset none. A new sequence, to replace the old one when it next begins. -/
  next : Option (List HkEntry) := none
  /-- u16 each; 12 R604; reset empty. Latest result of each entry. -/
  results : List Nat := []
  /-- 12 R603; reset 0. Next entry to begin. -/
  pos : Nat := 0
  /-- 2; 12 R603; reset none. HK0 and HK1. -/
  runs : Vector (Option HkRun) 2 := Vector.replicate 2 none
  deriving DecidableEq, Repr, Inhabited

structure ThermU where
  /-- 8; 12. Sensors. -/
  sensors : Vector Sensor 8 := Vector.replicate 8 {}
  /-- 12 R580; reset none. The sensor whose slot is in progress. -/
  slot : Option Nat := none
  /-- ns; 12 R589; reset 0. Start of the slot's window. -/
  window : Nat := 0
  /-- 2; 12 R598; reset low. TFE_OUT0, TFE_OUT1. -/
  outs : Vector SafetyOut 2 := Vector.replicate 2 {}
  /-- 1 bit; 12 R577; reset DESIGN CHOICE low (log 13). BLANK input, as last observed. -/
  blank : Bool := false
  /-- ns; 12 R587; reset empty. Local times of the point events of the slot's sensor since the slot began, newest first. -/
  points : List Nat := []
  /-- Count modulo 256; 12 R581, R588; reset DESIGN CHOICE 0 (log 13). Modulator bits fed since the chopper's last period began. -/
  chop : Nat := 0
  deriving DecidableEq, Repr, Inhabited

/-! ### Area camera pipeline (13) -/

/-- R630 to R632: a camera context; the default values are those of R632. -/
structure CamCtx where
  /-- 32 bits; 13 R630; reset 0. CONFIG_SEQ. -/
  seq : Nat := 0
  /-- 13 R631 INPUT: EXPOSURES, VC, CFA, FRAME_TIMEOUT_MS; reset R632. -/
  exposures : Nat := 1
  vc : List Nat := [0, 1, 2]
  cfa : Nat := 0
  timeoutMs : Nat := 1000
  /-- 13 R631 SENSOR_REGS; reset 0. -/
  regAddrBytes : Nat := 0
  expBytes : Nat := 0
  gainBytes : Nat := 0
  expReg : Nat := 0
  gainReg : Nat := 0
  /-- 33 x 32 bits; 13 R631 DECOMPAND; reset R632. -/
  dx : List Nat := (List.range 32).map (fun i => 2048 * i) ++ [65535]
  dy : List Nat := (List.range 32).map (fun i => 16 * (2048 * i)) ++ [1048560]
  /-- 13 R631 MERGE; reset R632. -/
  ped : List Nat := [0, 0, 0]
  ratio : List Nat := [256, 256, 256]
  knee : List Nat := [1048575, 1048575]
  blendLog2 : Nat := 8
  mergeShift : Nat := 0
  /-- 13 R631 BLACK: bands of (GAIN_MIN, BL[4]); reset 1 band, all zero. -/
  bands : List (Nat × List Nat) := [(0, [0, 0, 0, 0])]
  /-- 4 x 25 x 33 u4.12; 13 R631 SHADING; reset none: 4,096 everywhere. -/
  shading : Option (List Nat) := none
  /-- 20 bits; 13 R631 DEFECT; reset 0 (off). -/
  thresh : Nat := 0
  /-- 9 x s4.12; 13 R631 MATRIX; reset identity. -/
  matrix : List Int := [4096, 0, 0, 0, 4096, 0, 0, 0, 4096]
  /-- 3 x s32; 13 R631 MATRIX; reset 0. -/
  offset : List Int := [0, 0, 0]
  /-- 257 x u16; 13 R631 GAMMA; reset R632. -/
  gamma : List Nat := (List.range 257).map (fun i => min 65535 (256 * i))
  /-- 13 R631 OUTPUT; reset RGB16, no tap, no crop. -/
  format : Nat := 0
  tapPoint : Nat := 0
  tapDecimate : Nat := 1
  crop : List Nat := [0, 0, 0, 0]
  /-- 13 R631 STATS; reset AWB_SAT 1,048,575, every window off. -/
  awbSat : Nat := 1048575
  windows : List (List Nat) := List.replicate 16 [0, 0, 0, 0]
  deriving DecidableEq, Repr, Inhabited

/-- One exposure of a frame (R617 to R619). -/
structure CamExp where
  begun : Bool
  ended : Bool
  /-- Rows taken, in order: aligned 16-bit samples (R614). -/
  rows : List (List Nat)
  deriving DecidableEq, Repr, Inhabited

/-- A frame accepted into an input buffer (R616, R623, R626). -/
structure CamFrame where
  number : Nat
  issueNs : Nat
  openedAt : Nat
  ctx : Nat
  seq : Nat
  stripe : Option Nat
  line : Nat
  flags : Nat
  exps : List CamExp
  /-- The frame has been dropped: its packets are discarded (R623, R624). -/
  dropped : Bool
  /-- Units the pipeline has finished (R627). -/
  units : Nat
  /-- Decided when the first unit begins (R645): the frame is tapped. -/
  tapped : Bool
  exposureVal : Nat
  gainVal : Nat
  deriving DecidableEq, Repr, Inhabited

/-- A frame waiting for delivery, or a dropped frame's chunk (R652 to R655). -/
structure CamOut where
  number : Nat
  issueNs : Nat
  ctx : Nat
  seq : Nat
  line : Nat
  flags : Nat
  format : Nat
  rowPx : Nat
  exposureVal : Nat
  gainVal : Nat
  /-- 0, or the cause of a drop chunk (R653). -/
  cause : Nat
  /-- The frame's row that the first output row is (CROP_Y). -/
  firstRow : Nat
  /-- Output rows, as bytes. -/
  rows : List (List Byte)
  /-- Tap rows: (TAP byte, row pixels, bytes). -/
  taps : List (Nat × Nat × List Byte)
  stats : List Byte
  /-- Rows, tap rows and chunks already delivered. -/
  rowsDone : Nat
  tapsDone : Nat
  chunk : Nat
  tapChunk : Nat
  deriving DecidableEq, Repr, Inhabited

/-- R661: the counts of a window of 64 frame numbers. -/
structure CamCounts where
  dropped : Nat := 0
  frameShort : Nat := 0
  frameLong : Nat := 0
  rowShort : Nat := 0
  rowLong : Nat := 0
  rowCrc : Nat := 0
  eccFixed : Nat := 0
  eccBad : Nat := 0
  stray : Nat := 0
  tapSkipped : Nat := 0
  deriving DecidableEq, Repr, Inhabited

/-- A pending sensor setting (R648 to R650). -/
structure CamSetting where
  gain : Bool
  frame : Nat
  value : Nat
  started : Bool
  ended : Bool
  deriving DecidableEq, Repr, Inhabited

structure CamRx where
  /-- 1 bit; 13 R656; reset 0. Armed. -/
  armed : Bool := false
  /-- 1 bit; 13 R658; reset 0. Acceptance ends at the end of the frame. -/
  stopping : Bool := false
  /-- 2 bits; 13 R656; reset DESIGN CHOICE 0 (log 15). Context bound. -/
  ctx : Nat := 0
  /-- Columns; 13 R656; reset none (whole frames). STRIPE_PX with STRIPES. -/
  stripe : Option Nat := none
  /-- 13 R657; reset none. Pending switch: context, STRIPES, frame F_s. -/
  switch : Option (Nat × Option Nat × Nat) := none
  /-- 32 bits; 13 R616; reset DESIGN CHOICE 0 (log 15). Frame number. -/
  number : Nat := 0
  /-- 13 R648; reset none. Number of the last frame accepted since the camera was started. -/
  lastFrame : Option Nat := none
  /-- 13 R616, R617; reset none. The frame within which the receiver is. -/
  cur : Option CamFrame := none
  /-- 2; 13 R621, R623; reset empty. Input buffers: the complete frames they hold, oldest first. -/
  inputs : List CamFrame := []
  /-- 2 output buffers and drop chunks; 13 R621, R652; reset empty. -/
  outQ : List CamOut := []
  /-- 1 bit; 13 R625; reset 0. The tap buffer is in use. -/
  tapBusy : Bool := false
  /-- 13 R648; reset none. Pending settings. -/
  settings : List CamSetting := []
  /-- 13 R651; reset none. Settings that took effect: latest exposure and gain. -/
  expInForce : Nat := 0xFFFFFFFF
  gainInForce : Nat := 0xFFFFFFFF
  /-- 13 R649; reset 0. A failed setting of the kind still flags frames: exposure, gain, from this frame. -/
  expFail : Option Nat := none
  gainFail : Option Nat := none
  /-- 13 R661; reset 0. Counts of the window. -/
  counts : CamCounts := {}
  /-- 1 bit; 13 R613; reset 0. Lanes in the ultra-low-power state. -/
  ulps : Bool := false
  /-- Count; 13 R613; reset 0. Deskew sequences acted on. -/
  deskews : Nat := 0
  deriving DecidableEq, Repr, Inhabited

/-- A sensor write on the camera I2C bus (R647): receiver, kind, frame named, value, and the attempts made. -/
structure CamWrite where
  rx : Nat
  gain : Bool
  frame : Nat
  value : Nat
  tries : Nat
  deriving DecidableEq, Repr, Inhabited

structure CamU where
  /-- 2; 13. -/
  rx : Vector CamRx 2 := Vector.replicate 2 {}
  /-- 4; 13 R632. -/
  ctx : Vector CamCtx 4 := Vector.replicate 4 {}
  /-- 13 R627; reset none. The receiver whose unit the pipeline runs. -/
  unit : Option Nat := none
  /-- 13 R627; reset DESIGN CHOICE 1 (log 15): receiver 0 counts as less recently served. Receiver served last. -/
  lastServed : Nat := 1
  /-- 13 R647; reset empty. Sensor writes, in order; the first is on the bus. -/
  bus : List CamWrite := []
  deriving DecidableEq, Repr, Inhabited

/-! ### System time and the Prism link (14) -/

/-- System time (R140, R680 to R682). -/
structure TimeU where
  /-- 64.32 bits of ns; 14 R679; reset DESIGN CHOICE 0 (log 16). System time, in 2^-32 ns. -/
  sys : Nat := 0
  /-- 14 R681; reset DESIGN CHOICE 0 (log 16). φ: the difference between the references. -/
  phi : Rat := 0
  /-- 14 R681; reset 0. s: the slew that removes the offset. -/
  slew : Rat := 0
  /-- 2^-32 ns; 04 R172; reset 0. SYS.TIME without STEP: offset still to be removed by slewing. -/
  left : Int := 0
  deriving DecidableEq, Repr, Inhabited

/-- R672: a Prism port's states. -/
inductive PrismSt where
  | down | linked | joined | foreign
  deriving DecidableEq, Repr, Inhabited

/-- R666, R667: a message before it is numbered: TYPE, SRC, DST and the 18-byte body. -/
structure PMsg where
  type : Nat
  src : Nat
  dst : Nat
  body : List Byte
  deriving DecidableEq, Repr, Inhabited

/-- R667 HELLO: what the neighbour last said. -/
structure PHello where
  systemId : Nat
  major : Nat
  minor : Nat
  /-- ROLE_OFFERED: refracted. -/
  refracted : Bool
  depth : Nat
  uid : Nat
  deriving DecidableEq, Repr, Inhabited

/-- R667, R689: the fields of STATE. -/
structure PAgg where
  nodes : Nat
  leastNode : Nat
  readiness : Nat
  andFlags : Nat
  orFlags : Nat
  minMinor : Nat
  maxDepth : Nat
  deriving DecidableEq, Repr, Inhabited

/-- R693: an ARM_ANS. -/
structure PArmAns where
  armed : Nat
  failNode : Nat
  detail : Nat
  deriving DecidableEq, Repr, Inhabited

/-- A role swap on a port (R705). -/
inductive PSwap where
  | none
  /-- SWAP_REQ sent, no answer yet. -/
  | asked
  /-- RESULT 0 has passed: roles change at the next TIME over the link. -/
  | agreed
  deriving DecidableEq, Repr, Inhabited

/-- The sending side of a Prism lane (R664, R668, R669). -/
structure PrismTx where
  /-- 1 bit; 14 R664, 05 R218; reset negative. Running disparity: positive. -/
  pos : Bool := false
  /-- 14 R664; reset empty. The rest of the message on the wire. -/
  cur : List Sym := []
  /-- 2 bits; 14 R664; reset 0. IDLEs sent since the last message, up to the two that stand between messages. -/
  idles : Nat := 0
  /-- 14 R664; reset empty. The rest of the NAK sequences to be sent. -/
  naks : List Sym := []
  /-- 14 R672, R673; reset empty. HELLOs waiting on a port that is not LINKED, which numbers nothing yet. -/
  raw : List PMsg := []
  /-- 14 R669; reset empty. SEQs of the messages to be sent again, oldest first. -/
  again : List Nat := []
  deriving DecidableEq, Repr, Inhabited

structure PrismPort where
  /-- 1 bit; 14 R662, R674; reset 0. Enabled. -/
  enabled : Bool := false
  /-- 2 bits; 14 R672; reset DOWN. -/
  st : PrismSt := .down
  /-- 1 bit; 14 R672; reset 0. HELLO has been sent since the port was last DOWN. -/
  helloSent : Bool := false
  /-- ns; 14 R673; reset 0. Local time of the last HELLO sent. -/
  helloAt : Nat := 0
  /-- 14 R667; reset none. The neighbour's HELLO. -/
  hello : Option PHello := none
  /-- 16 bits; 14 R669; reset 0. SEQ of the next message sent. -/
  txSeq : Nat := 0
  /-- 16 bits; 14 R669; reset 0. SEQ of the next message expected. -/
  rxSeq : Nat := 0
  /-- 14 R668, R669; reset empty. Messages waiting to be sent, in order of class and arrival. -/
  queue : List PMsg := []
  /-- 32; 14 R669; reset empty. Sent and not yet acknowledged: SEQ, message, times sent, local time last sent. -/
  unacked : List (Nat × PMsg × Nat × Nat) := []
  /-- ns; 14 R670; reset 0. Local time at which a message was last applied. -/
  appliedAt : Nat := 0
  /-- ns; 14 R669; reset 0. Local time at which a message was last sent. -/
  sentAt : Nat := 0
  /-- 1/16 ns; 14 R679; reset none. T1 of the DELAY_REQ outstanding; local time of the last one. -/
  t1 : Option Nat := none
  delayAt : Nat := 0
  /-- 8; 14 R679; reset empty. (T4 - T1) - (T3 - T2) of the last measurements, newest first, in 1/16 ns. -/
  delays : List Int := []
  /-- 14 R677; reset empty. Node IDs joined below the port. -/
  ids : List Nat := []
  /-- 14 R674; reset none. Node ID of the child joined directly over the link. -/
  childId : Option Nat := none
  /-- 14 R689; reset none. The latest STATE of the child on this port. -/
  child : Option PAgg := none
  /-- 14 R693; reset none. The child's ARM_ANS of the arm in progress. -/
  armAns : Option PArmAns := none
  /-- 14 R705; reset none. -/
  swap : PSwap := .none
  /-- 1 bit; 14 R691; reset 0. The node refused with DUPLICATE_ID hangs on this link. -/
  conflict : Bool := false
  /-- 14 R664. The sending side. -/
  tx : PrismTx := {}
  /-- 1 bit; 14 R678; reset 0. The port is disabled once the LEAVE that waits on it has been sent. -/
  closing : Bool := false
  deriving DecidableEq, Repr, Inhabited

/-- R674, R692: how far a node has joined. -/
inductive PJoin where
  | off
  /-- Steps 1 to 3: waiting for the link and the parent's HELLO. -/
  | linking
  /-- JOIN_REQ sent. -/
  | asked
  /-- JOIN_ANS 0 received; waiting for the first TIME and AGREE: got each. -/
  | answered (time agree : Bool)
  | joined
  deriving DecidableEq, Repr, Inhabited

/-- R687: the latest AGREE. -/
structure PAgree where
  digest : Nat
  expect : Nat
  minor : Nat
  major : Nat
  deriving DecidableEq, Repr, Inhabited

/-- R696: an event armed for its time. -/
structure PEvent where
  timeNs : Nat
  line : Nat
  runId : Nat
  kind : Nat
  deriving DecidableEq, Repr, Inhabited

/-- A relayed packet being reassembled, or queued (R699, R700): SRC, RELAY_ID, REPLY, bytes. -/
structure PRelay where
  src : Nat
  id : Nat
  reply : Bool
  bytes : List Byte
  deriving DecidableEq, Repr, Inhabited

/-- R694: what a node returns to at UNARM. -/
structure PPrev where
  line : LineU
  streams : List Nat
  deriving DecidableEq, Repr, Inhabited

structure PrismU where
  /-- 3; 14 R662. Ports. -/
  ports : Vector PrismPort 3 := Vector.replicate 3 {}
  /-- 14 R708; reset none. The PRISM record the hardware works by; it outlives a control reset. -/
  cfg : Option DPrism := none
  /-- 14 R663; reset port 0; none on a root. The port in the incident role. -/
  incident : Option Nat := some 0
  /-- 1 bit; 14 R692, R704; reset 0. Effective role: root. -/
  root : Bool := false
  /-- EXPECT_NODES in force at the root; 14 R704; reset 0. -/
  expect : Nat := 0
  /-- 14 R674; reset not joined. -/
  join : PJoin := .off
  /-- 1 bit; 14 R707; reset 0. The node is an orphan, or joins again without PRISM.JOIN. -/
  orphan : Bool := false
  /-- ns; 14 R676; reset none. Local time at which PRISM.JOIN was taken. -/
  joinAt : Option Nat := none
  /-- 4 bits; 14 R674; reset 0. Depth. -/
  depth : Nat := 0
  /-- ns, s32; 14 R680; reset 0. OFFSET_TO_ROOT. -/
  offset : Int := 0
  /-- 14 R686, R687; reset none. The latest AGREE (on a root, the fields last sent). -/
  agree : Option PAgree := none
  /-- 14 R686; reset empty. Root: each joined node's PROTO_MINOR. -/
  minors : List (Nat × Nat) := []
  /-- 14 R674; reset empty. Joins passing through: NODE_ID and the port each came on. -/
  joining : List (Nat × Nat) := []
  /-- 14 R708; reset empty. Root: JOIN_REQs waiting for firmware: port, node, major, minor, depth. -/
  heldJoins : List (Nat × Nat × Nat × Nat × Nat) := []
  /-- ns; 14 R680; reset 0. System time of the root's last TIME. -/
  timeAt : Nat := 0
  /-- 14 R689; reset none. The STATE last sent up, and its local time. -/
  sentAgg : Option PAgg := none
  stateAt : Nat := 0
  /-- 16 bits; 14 R693; reset DESIGN CHOICE 0 (log 16). RUN_ID, advanced by the root with each SYSTEM arm. -/
  runId : Nat := 0
  /-- 14 R693; reset none. RUN_ID of the system run this node belongs to. -/
  run : Option Nat := none
  /-- 14 R694; reset none. What UNARM restores. -/
  prev : Option PPrev := none
  /-- 14 R693; reset none. An ARM that awaits the end of an earlier run's captures: FIRST, COUNT, RUN, SPEED, RESUME. -/
  heldArm : Option (Nat × Nat × Nat × Nat × Bool) := none
  /-- 14 R693; reset none. This node's own ARM_ANS, not yet combined. -/
  ownAns : Option PArmAns := none
  /-- ns; 14 R694; reset none. Root: local time at which ARM was sent. -/
  armAt : Option Nat := none
  /-- 14 R696; reset empty. Events armed. -/
  events : List PEvent := []
  /-- 16 bits; 14 R699; reset DESIGN CHOICE 0 (log 16). RELAY_ID of the next PRISM.RELAY. -/
  relayId : Nat := 0
  /-- 14 R700; reset empty. Packets being reassembled. -/
  relayIn : List PRelay := []
  /-- 16; 14 R700; reset empty. Relayed commands waiting to be executed, oldest first. -/
  relayQ : List PRelay := []
  /-- 14 R700; reset none. The relayed command in execution: SRC and RELAY_ID. -/
  relayCur : Option (Nat × Nat) := none
  /-- 1 bit; 14 R709, R741; reset 0. Retained Prism values await a declaration with the retained DECL_DIGEST. -/
  retained : Bool := false
  deriving DecidableEq, Repr, Inhabited

/-! ### Power states, wake, grants, store (15) -/

/-- R713: the power states. -/
inductive PState where
  | run | idle | doze | deep
  deriving DecidableEq, Repr, Inhabited

/-- R726: where a transition stands. -/
inductive PTrans where
  | none
  /-- Entry to Doze: steps 1 and 2 done, waiting for the DRAM controller to be idle (step 3). -/
  | dozeEntry
  /-- Entry to Deep standby: step 4 done, waiting for D3hot and the handshake (step 5). -/
  | deepEntry
  /-- R736: a wake bring-up is in progress. -/
  | waking
  deriving DecidableEq, Repr, Inhabited

structure PowerU where
  /-- 2 bits; 15 R721; reset Run. POWER_STATE.REQUEST. -/
  request : PState := .run
  /-- 4 bits; 15 R721; reset Run. POWER_STATE.PRESENT (and Deep standby, which no register shows). -/
  present : PState := .run
  /-- 4 bits; 15 R721, R725; reset 0. REFUSE_REASON. -/
  refuseReason : Nat := 0
  /-- 15 R721 BUSY, R726, R736; reset none. The transition in progress. -/
  trans : PTrans := .none
  /-- 2 bits; 15 R722; reset none. A request written while BUSY. -/
  stored : Option PState := none
  /-- 1 bit; 15 R721; reset 0. AUTO_DOZE. -/
  autoDoze : Bool := false
  /-- 1 bit; 15 R721; reset 0. AUTO_IDLE. -/
  autoIdle : Bool := false
  /-- 1 bit; 15 R728; reset 0. The present Idle or Doze was entered by firmware itself. -/
  auto : Bool := false
  /-- 15 R726; reset Run. State left by the transition in progress (restored when entry is abandoned, R727). -/
  leaving : PState := .run
  /-- 15 R728; reset false. The wake in progress was begun for a verb that needs DP_CLK. -/
  wakeForVerb : Bool := false
  /-- 10 bits; 15 R718; reset 0 (output held low while PWM_CLK is stopped). Duty k of AVS_PWM. -/
  avsDuty : Nat := 0
  /-- 0 to 15; 15 R717, R719; reset 0. Forward back-bias step of 40 mV. -/
  biasStep : Nat := 0
  /-- ns; 15 R719; reset 0. Local time of the loop's last reading of the path monitors, or of its start. -/
  avsAt : Nat := 0
  /-- 1 bit; 15 R720; reset 0. AVS_LIMIT has been reported for the present excursion. -/
  avsLimited : Bool := false
  /-- ns; 15 R716, R759; reset 0. Local time at which the transition in progress began. -/
  transStart : Nat := 0
  /-- ns; 15 R726, 17 R788; reset 0: VAON has just passed its threshold. Local time from which the next step of the power-up
  or power-down sequence of PWR_EN_IO and PWR_EN_CORE is counted. -/
  seqAt : Option Nat := some 0
  /-- 1 bit; 15 R726; reset 0. The sequence in progress is the power-down of entry to Deep standby. -/
  seqDown : Bool := false
  /-- ns; 15 R728; reset none. Since when R725 has permitted Idle, and Doze, without interruption. -/
  idleOkSince : Option Nat := none
  dozeOkSince : Option Nat := none
  /-- 9 bits; 15 R727; reset none. Wake sources that became active after step 4 of entry to Deep standby: their bits of
  WAKE_CAUSE. -/
  wakeDue : Option Word := none
  deriving DecidableEq, Repr, Inhabited

/-- The always-on domain's wake state (R723, R731 to R734). -/
structure WakeU where
  /-- 5 bits; 15 R731; reset 0. Wake ENABLE. -/
  enable : Nat := 0
  /-- 4 bits; 15 R731; reset DESIGN CHOICE 0 (log 6). POLARITY. -/
  polarity : Nat := 0
  /-- 7 bits; 15 R731; reset none (the I2C target is disabled). I2C_ADDR. -/
  i2cAddr : Option Nat := none
  /-- 9 bits; 15 R723; reset 0. WAKE_CAUSE. -/
  cause : Word := 0#32
  /-- 8 bits; 15 R733; reset DESIGN CHOICE 0 (log 6). The I2C target's register pointer. -/
  i2cPointer : Nat := 0
  /-- 1 bit; 16 R776; reset 0. The target holds I2CT_SDA (a transfer is open). -/
  i2cOpen : Bool := false
  /-- 1 bit; 15 R733; reset 0. The open transfer has written its pointer: any byte written after it is not acknowledged. -/
  i2cPointed : Bool := false
  /-- 4,096 bytes; 15 R734; reset none (cleared). Retention memory; none when invalidated or never written. -/
  retention : Option (List Byte) := none
  deriving DecidableEq, Repr, Inhabited

/-- R743: the holders of claims and grants. -/
inductive Holder where
  | string (n : Nat) | axis (a : Nat) | group (g : Nat) | port (n : Nat) | dram | cal
  deriving DecidableEq, Repr, Inhabited

/-- R749, R759: the operations that state demands, in the order of R749's rows. -/
inductive GrantOp where
  | lampRise | lampClaim | axisAccel | digitizer | dramTraining | bankLoad | calSweep
  deriving DecidableEq, Repr, Inhabited

/-- One unexpired grant. -/
structure Grant where
  /-- 15 R743. -/
  holder : Holder
  /-- 15 R749. -/
  op : GrantOp
  /-- 15 R743. -/
  budget : Nat
  /-- 15 R744. mW. -/
  mw : Nat
  /-- 15 R744, R747. Local time at which its duration runs from, ns. -/
  start : Nat
  /-- 15 R744. Duration, ns. -/
  dur : Nat
  deriving DecidableEq, Repr, Inhabited

/-- One holder's unbroken run of refusals on a budget (R747). -/
structure Refused where
  holder : Holder
  budget : Nat
  /-- 15 R747. Local time of the first refusal of the run. -/
  since : Nat
  /-- 15 R747. Local time of the holder's last request. -/
  last : Nat
  deriving DecidableEq, Repr, Inhabited

structure GrantU where
  /-- 15 R743; reset none. Standing claims: holder, budget, mW. -/
  claims : List (Holder × Nat × Nat) := []
  /-- 15 R743; reset none. Unexpired grants. -/
  grants : List Grant := []
  /-- 15 R744; reset none. For each budget, since when L has exceeded CONT_MW (ns). -/
  overs : Vector (Option Nat) 8 := Vector.replicate 8 none
  /-- 15 R747; reset none. Each budget's guard. -/
  guard : Vector (Option Holder) 8 := Vector.replicate 8 none
  /-- 15 R747; reset none. Runs of refusals, oldest first. -/
  refusedRuns : List Refused := []
  /-- 16 bits each; 15 R751; reset 0. Refusals of each budget, saturating. -/
  refusals : Vector Nat 8 := Vector.replicate 8 0
  /-- 15 R749; reset none. Operations that ask again at their retry interval, with the local time of their last request. -/
  waiting : List (Holder × GrantOp × Nat) := []
  deriving DecidableEq, Repr, Inhabited

/-- A fault-log entry (R756). -/
structure LogEntry where
  /-- 32 bits; 15 R756. SEQ. -/
  seq : Nat
  /-- 16 bits; 15 R756. CODE. -/
  code : Nat
  /-- 8 bits; 15 R756. FLAGS; the spec names no flag bit, so 0. -/
  flags : Nat
  /-- 64 bits; 15 R756. Power-on seconds. -/
  seconds : Nat
  /-- 4 x 32 bits; 15 R756. ARG. -/
  args : List Nat
  deriving DecidableEq, Repr, Inhabited

/-- R754: one lamp's ageing record. -/
structure LampRecord where
  /-- 64 bits; 15 R754; as shipped DESIGN CHOICE 0 (log 7). Charge in mA.s, with the fraction firmware keeps. -/
  charge : Rat := 0
  /-- 32 bits; 15 R754; as shipped DESIGN CHOICE 0 (log 7). Lit seconds, with the fraction firmware keeps. -/
  lit : Rat := 0
  /-- 32 bits. Starts. -/
  starts : Nat := 0
  /-- 16 bits. Shorts. -/
  shorts : Nat := 0
  /-- 16 bits. Opens. -/
  opens : Nat := 0
  /-- s16. Highest lamp-board reading in 1/16 degC. -/
  hottest : Int := -32768
  deriving DecidableEq, Repr, Inhabited

/-- R755: the lifetime counters. -/
structure Lifetime where
  /-- 64 bits. Power-on seconds. -/
  powerOn : Nat := 0
  /-- 64 bits. Run seconds. -/
  runSecs : Nat := 0
  /-- 64 bits. Lines admitted. -/
  lines : Nat := 0
  /-- 64 bits. Seams. -/
  seams : Nat := 0
  /-- 64 bits. Gap numbers. -/
  gaps : Nat := 0
  /-- 32 bits. Doze wakes. -/
  dozeWakes : Nat := 0
  /-- 32 bits. Deep standby wakes. -/
  deepWakes : Nat := 0
  /-- 32 bits. Thermal shutdowns. -/
  thermals : Nat := 0
  /-- 32 bits. Watchdog expiries. -/
  wdogs : Nat := 0
  /-- 32 bits. Boots. -/
  boots : Nat := 0
  deriving DecidableEq, Repr, Inhabited

/-- The persistent MRAM store (R752 to R757). It is kept over every reset. -/
structure StoreU where
  /-- 32 bits; 02 R53, 15 R752; as shipped 0 (R27). Anti-rollback counter, saturating. -/
  antiRollback : Nat := 0
  /-- 4 bits; 02 R52; as shipped DESIGN CHOICE 0 (log 7). Key-slot revocation bits. -/
  revoked : Nat := 0
  /-- 0 to 2; 02 R55; as shipped 0 FLASH_THEN_HOST. Boot policy word. -/
  policy : Nat := 0
  /-- 15 R753; as shipped DESIGN CHOICE empty (log 7). Area 0: calibration summaries, newest last, at most 3,072. -/
  summaries : List (List Byte) := []
  /-- 32 bits; 15 R753; DESIGN CHOICE 0 (log 7). Sequence number of the next summary. -/
  summarySeq : Nat := 0
  /-- 15 R754; as shipped DESIGN CHOICE zero (log 7). Area 1: lamp ageing as written. -/
  ageing : List (Nat × LampRecord) := []
  /-- 15 R754, 10; as shipped DESIGN CHOICE zero (log 7). Area 1: string records, 64 bytes each, as written. -/
  stringRecords : List (Nat × List Byte) := []
  /-- 15 R755; as shipped DESIGN CHOICE zero (log 7). Area 2: lifetime counters as written. -/
  lifetime : Lifetime := {}
  /-- 15 R756; as shipped DESIGN CHOICE empty (log 7). Fault log, oldest first, at most 8,192 entries. -/
  log : List LogEntry := []
  /-- 32 bits; 15 R756; DESIGN CHOICE 0 (log 7). SEQ of the next entry. -/
  logSeq : Nat := 0
  deriving DecidableEq, Repr, Inhabited

/-- Running values firmware keeps before it writes them to the store (R754, R755). -/
structure LiveCounters where
  /-- 15 R755; reset: loaded from the store (0). Lifetime counters now. -/
  life : Lifetime := {}
  /-- 15 R754; reset: loaded from the store (empty). Lamp records now. -/
  lamps : List (Nat × LampRecord) := []
  /-- ns; 15 R755; reset 0. Local time at which the lifetime counters were last written. -/
  writtenAt : Nat := 0
  deriving DecidableEq, Repr, Inhabited

/-! ### The limit block (02 R63 to R68, 16 R760 to R764) -/

/-- The places of the limit block, in the order of R760. -/
inductive LimitKey where
  | strI (n : Nat) | strV (n : Nat) | strDuty (n : Nat)
  | axV (a : Nat) | axA (a : Nat) | axD (a : Nat) | axEmerg (a : Nat) | axI (a : Nat)
  | budCont (b : Nat) | budPeak (b : Nat) | budMs (b : Nat)
  | tempRise (s : Nat) | supLow (c : Nat) | supHigh (c : Nat)
  deriving DecidableEq, Repr, Inhabited

/-- One limit entry (R64). -/
structure LimitEntry where
  /-- Which entry; 16 R760. -/
  key : LimitKey
  /-- 02 R64; no entry before CEILING_LOCK. Its ceiling. -/
  ceiling : Int
  /-- 02 R64. The value in force. -/
  inForce : Int
  deriving DecidableEq, Repr, Inhabited

structure LimitU where
  /-- 1 bit; 02 R48, R61; reset 0. CEILING_LOCK. -/
  ceilingLock : Bool := false
  /-- 1 bit; 02 R48, R67; reset 0. LIMIT_LOCK. -/
  limitLock : Bool := false
  /-- 02 R64, 16 R760; reset empty (every entry reads 0 until CEILING_LOCK). -/
  entries : List LimitEntry := []
  /-- 32 bits; 16 R760, R763; reset 0. BREACH_COUNT, saturating. -/
  breachCount : Nat := 0
  /-- 32 bits; 16 R760; reset 0. LAST_BREACH. -/
  lastBreach : Word := 0#32
  deriving DecidableEq, Repr, Inhabited


/-! ### DRAM errors (16 R770, R771) -/

structure DramU where
  /-- 32 bits; 16 R771; reset 0. Corrected errors since the previous RPT.DRAM_ECC, saturating. -/
  fixed : Nat := 0
  /-- ns; 16 R771; reset none. Local time of the last RPT.DRAM_ECC for corrected errors. -/
  fixedAt : Option Nat := none
  /-- 16 R771; reset DESIGN CHOICE 0, 0 and 0xFFFFFFFF (log 7). Area, channel and number of the latest corrected error. -/
  lastFixed : Nat × Nat × Nat := (0, 0, 0xFFFFFFFF)
  /-- 1 bit; 15 R713, R726, R736; reset 0. DRAM is in self-refresh. -/
  selfRefresh : Bool := false
  deriving DecidableEq, Repr, Inhabited
/-! ### The whole machine -/

/-- The LS-2472. -/
structure State where
  /-- The commands waiting, first in, first out: the block's queue; reset empty. -/
  pending : List Instr := []
  /-- ns; the model's own clock (log 1): the free-running count every wait is measured on; reset 0. -/
  localNs : Nat := 0
  /-- The model's own count of free values taken (log 1); reset DESIGN CHOICE 0. -/
  freeCtr : Nat := 0
  /-- The model's own record of what has left the device; reset empty. -/
  outbox : List Out := []
  time : TimeU := {}
  pins : Pins := {}
  rst : ResetU := {}
  clk : ClockU := {}
  boot : BootU := {}
  flash : FlashU := {}
  dbg : DebugU := {}
  limit : LimitU := {}
  dram : DramU := {}
  power : PowerU := {}
  wake : WakeU := {}
  grants : GrantU := {}
  store : StoreU := {}
  live : LiveCounters := {}
  host : HostU := {}
  urg : UrgentU := {}
  rep : ReportU := {}
  int : IntU := {}
  fw : FwU := {}
  /-- 04 R212; reset none. The accepted declaration. -/
  decl : Option Decl := none
  line : LineU := {}
  /-- 24; 05. Segment ports. -/
  ports : Vector PortU 24 := Vector.replicate 24 {}
  cal : CalU := {}
  /-- 05, 07. Captures in flight and in the Achromat delay line, and calibration lines in flight, oldest first. -/
  caps : List Capture := []
  /-- 04 R179. Parameters for the lines admitted from now on. -/
  par : LinePar := {}
  /-- 16; 10. Lamp strings. -/
  lamps : Vector LampStr 16 := Vector.replicate 16 {}
  achr : AchrU := {}
  deliv : DelivU := {}
  loupe : LoupeU := {}
  lampLink : LampLinkU := {}
  motion : MotionU := {}
  therm : ThermU := {}
  cam : CamU := {}
  hk : HkU := {}
  prism : PrismU := {}
  deriving DecidableEq, Repr

/-- R158: a declared port is FAILED. -/
def anyPortFailed (s : State) : Bool :=
  match s.decl with
  | some d => (List.range d.segments.length).any fun n => (vget s.ports n).st == .failed
  | none => false

/-- The machine right after the power-on reset. -/
def State.reset : State := {}

end Sys2Proof.Machine
end

