-- ==== Sys2Proof/Machine/Base.lean ====
section
/-! DEFINITION. The operations under all others: system time (R140), free values, the output log, and which clocks run
(R28, R32, R713). -/

namespace Sys2Proof.Machine

/-- System time in ns (R140): the integer part of the 64.32 count. -/
def sysNs (s : State) : Nat := s.time.sys / 2 ^ 32

/-- Firmware executes (R62, R76): FW_STATE.STATE is RUNNING and no debugger holds the processor. -/
def fwRunning (s : State) : Bool := s.boot.stage == .running && !s.dbg.halted

/-- The next free value: a number nothing constrains, and the counter stepped. -/
def takeFree (s : State) : Nat × State := (Config.freeNat s.freeCtr, { s with freeCtr := s.freeCtr + 1 })

/-- The word that reports carry for the last admitted line (R160, R825): 0xFFFF_FFFF before any. -/
def lastAdm (s : State) : Nat := s.line.lastAdmitted.getD 0xFFFFFFFF

/-- R10, R755: a 64-bit counter raised by 1, which saturates. -/
def satInc (n : Nat) : Nat := min (n + 1) (2 ^ 64 - 1)

/-- Something leaves the device. -/
def emit (o : Out) (s : State) : State := { s with outbox := s.outbox ++ [o] }

/-- The core is powered and no core or system reset is in effect. A control reset leaves the hardware's clocks running
(R36, R708, R777, R823). -/
def coreOn (s : State) : Bool :=
  s.power.present != .deep && (match s.rst.inEffect with
  | none => true
  | some .control => true
  | _ => false)

/-- DP_CLK runs (R28, R32, R713, R726, R736). -/
def dpClk (s : State) : Bool := s.clk.pllLocked && s.power.present == .run && s.power.trans == .none && coreOn s

/-- The clocks of R28 other than DP_CLK run (R713, R736): the root PLL is locked. In Doze it is, once a wake has enabled
it. -/
def rootClks (s : State) : Bool :=
  s.clk.pllLocked && (s.power.present == .run || s.power.present == .idle || s.power.trans == .waking) && coreOn s

/-- Firmware executes: it has been started and has not failed, and no debugger holds the processor (R61, R62, R76). -/
def fwActive (s : State) : Bool := (s.boot.stage == .starting || s.boot.stage == .running) && !s.dbg.halted

/-- The PCIe link has trained (R60, R79), and PERST_N does not hold it in reset (R827). -/
def linkTrained (s : State) : Bool := s.boot.endpointOn && coreOn s && s.pins.perstHigh && s.host.linkSpeed != 0

/-- Host memory and the host's memory requests reach across the link: it has trained and is up, and the function is not in
D3hot (R84, R769, R827). -/
def hostReach (s : State) : Bool := linkTrained s && !s.host.linkDown && !s.rst.d3hot

/-! ### Code-group slots of the timing lanes (R218, R229) -/

/-- The slot at local time `t`: 8.333 ns each, the same slots on every port. -/
def slotNo (t : Nat) : Nat := (3 * t + Config.slotPhase % 25) / 25

/-- The first nanosecond of a slot. -/
def slotTime (k : Nat) : Nat := (25 * k - Config.slotPhase % 25 + 2) / 3

/-- R229: the slot whose boundary is the first at least 100 ns after local time `t`. -/
def issueSlot (t : Nat) : Nat := (3 * (t + 100) + Config.slotPhase % 25 + 24) / 25

/-! ### Code-group slots of the Prism lanes (R662, R664) -/

/-- The slot at local time `t`: 4.167 ns each, the same slots on every port. -/
def prismSlot (t : Nat) : Nat := (6 * t + Config.slotPhase % 25) / 25

/-! ### Bit boundaries of the lamp link (R490, R493) -/

/-- The number of the bit time at local time `t`: 83.33 ns each; every boundary is one of the timing lanes (R493). -/
def lampSlot (t : Nat) : Nat := (3 * t + Config.slotPhase % 250) / 250

/-- R493: the first bit boundary at or after the line mark at `t`. -/
def lampSlotFrom (t : Nat) : Nat := (3 * t + Config.slotPhase % 250 + 247) / 250

end Sys2Proof.Machine
end

