-- ==== Sys2Proof/Machine/PrismLink.lean ====
section
/-! DEFINITION. The Prism link's messages: stamps, layout and queues (R664 to R668), the ways up, down and
to a node (R677, R699), and the fragments of relayed packets (R699 to R701). -/

namespace Sys2Proof.Machine

def pport (s : State) (p : Nat) : PrismPort := vget s.prism.ports p
def modPort (p : Nat) (f : PrismPort → PrismPort) (s : State) : State :=
  { s with prism := { s.prism with ports := vmod s.prism.ports p f } }

/-- This node's ID. -/
def nodeId (s : State) : Nat := (s.prism.cfg.map DPrism.nodeId).getD 0

/-- R667, R664: the system time in 1/16 ns, modulo 2^64, at the moment `back` ns (of the node's own clock, R681) ago. -/
def pStampAt (back : Rat) (s : State) : Nat :=
  let gone : Int := (back * (1 + s.time.phi + s.time.slew) * ((2 ^ 32 : Nat) : Rat)).floor
  ((((s.time.sys : Int) - gone) / ((2 ^ 28 : Nat) : Int)) % ((2 ^ 64 : Nat) : Int)).toNat

/-- R664, R679: the stamp of a message sent in a slot: the moment at which its first bit goes. -/
def pTxStamp (slot : Nat) (s : State) : Nat :=
  pStampAt (((6 * s.localNs + Config.slotPhase % 25 - 25 * slot : Nat) : Rat) / 6) s

/-- R664, R679: the stamp of a message that has just arrived: the moment at which its first bit came. -/
def pRxStamp (rx : PrismRx) (s : State) : Nat := pStampAt (((25 * rx.groups.length : Nat) : Rat) / 6) s

/-- R667: the class of a type. -/
def pClass (type : Nat) : Nat :=
  match type with
  | 0x0A => 1 | 0x0E => 1 | 0x0F => 1
  | 0x05 => 2 | 0x06 => 2 | 0x07 => 2
  | 0x10 => 4
  | _ => 3

/-- R668: class order, and arrival order within a class. -/
def pInsert (m : PMsg) : List PMsg → List PMsg
  | [] => [m]
  | x :: xs => if pClass x.type ≤ pClass m.type then x :: pInsert m xs else m :: x :: xs

/-- A body of 18 bytes; unused bytes are 0 (R667). -/
def pBody (b : List Byte) : List Byte := bytesAt b 0 18

/-- R668: DELAY_REQ, DELAY_RESP and TIME are stamped at the moment of sending. -/
def pStamped (stamp : Nat) (m : PMsg) : List Byte :=
  match m.type with
  | 0x05 => putBytes m.body 0 (leBytes 8 stamp)
  | 0x06 => putBytes m.body 8 (leBytes 8 stamp)
  | 0x07 => putBytes m.body 0 (leBytes 8 stamp)
  | _ => m.body

/-- R666: the 32 bytes. -/
def pBytes (stamp seq ack : Nat) (retx : Bool) (m : PMsg) : List Byte :=
  let h := [b8 m.type, b8 (flag retx 0)] ++ leBytes 2 seq ++ leBytes 2 ack ++ leBytes 2 m.src ++
    leBytes 2 m.dst ++ pBody (pStamped stamp m)
  h ++ wordBytes (crc32 h)

def portLive (x : PrismPort) : Bool := x.st == .linked || x.st == .joined

/-- R668: a message joins a port's queue. A port that is being disabled takes no more (R678). -/
def pSend (p type dst : Nat) (body : List Byte) (src : Nat) (s : State) : State :=
  if portLive (pport s p) && !(pport s p).closing then
    modPort p (fun x => { x with
      queue := pInsert { type := type, src := src, dst := dst, body := pBody body } x.queue }) s
  else s

/-- R669: NAK with the SEQ expected. -/
def pNak (p : Nat) (s : State) : State :=
  modPort p (fun x => { x with tx := { x.tx with naks := x.tx.naks ++ nakSymbols x.rxSeq } }) s

/-- The joined ports in the refracted role (R663). -/
def pDownPorts (s : State) : List Nat :=
  (List.range 3).filter fun p => (pport s p).st == .joined && s.prism.incident != some p

/-- Down, to every node below. -/
def pDown (type dst : Nat) (body : List Byte) (src : Nat) (s : State) : State :=
  (pDownPorts s).foldl (fun t p => pSend p type dst body src t) s

/-- Up, on the incident port. -/
def pUp (type dst : Nat) (body : List Byte) (src : Nat) (s : State) : State :=
  match s.prism.incident with
  | some p => pSend p type dst body src s
  | none => s

/-- R677: the refracted port below which a node is joined. -/
def pPortOf (s : State) (node : Nat) : Option Nat :=
  (List.range 3).find? fun p => s.prism.incident != some p && (pport s p).ids.contains node

/-- R699: a RELAY goes down the port whose set holds DST, and up otherwise. -/
def pRoute (dst : Nat) (body : List Byte) (src : Nat) (s : State) : State :=
  match pPortOf s dst with
  | some p => pSend p 0x10 dst body src s
  | none => pUp 0x10 dst body src s

/-- R699: the fragments of a packet, 14 bytes each, the last carrying LAST. -/
def pFragments (id : Nat) (reply : Bool) (packet : List Byte) : List (List Byte) :=
  let n := max 1 (ceilDiv packet.length 14)
  (List.range n).map fun i =>
    leBytes 2 id ++ leBytes 2 (i % 4096 + flag reply 14 + flag (i + 1 == n) 15) ++ bytesAt packet (14 * i) 14

/-- A packet relayed to a node. -/
def pRelay (dst id : Nat) (reply : Bool) (packet : List Byte) (s : State) : State :=
  (pFragments id reply packet).foldl (fun t b => pRoute dst b (nodeId s) t) s

end Sys2Proof.Machine
end

