-- ==== Sys2Proof/Machine/Ops.lean ====
section
/-! DEFINITION. The operations the meanings share: the output log, interrupts (R151 to R155), the report FIFO (R140 to
R150), FAULT_N (R40, R767), the fault log (R756), replies and tag histories (R89, R101, R121, R127 to R133), the limit
block's readings (R64, R760), the grant arbiter (R743 to R747), and look-ups in the accepted declaration. -/

namespace Sys2Proof.Machine

/-! ### Interrupts (R151 to R155) -/

/-- R153: the vector that MSIX_MAPm gives a source. -/
def vectorOf (u : IntU) (src : Nat) : Nat := bits (vget u.map (src / 4)).toNat (8 * (src % 4)) 6

/-- R154: no mask of PCI Express stands before a vector's messages, and the link carries them. -/
def msixOpen (v : Nat) (s : State) : Bool :=
  hostReach s && s.int.msixOn && !s.int.msixMasked && !(vget s.int.table v).masked

/-- R78, R154: a vector's message: the write of its table entry's data to the entry's address. -/
def msixMessage (u : IntU) (v : Nat) : Out := .msix v (vget u.table v).addr (vget u.table v).data

/-- R154: a message is sent on a vector, or becomes pending where a mask of PCI Express stands before it. -/
def sendMsix (v : Nat) (s : State) : State :=
  if msixOpen v s then emit (msixMessage s.int v) s
  else { s with int := { s.int with pba := s.int.pba ||| (1#64 <<< v) } }

/-- R154: pending messages of vectors that are no longer masked, in ascending order of vector. -/
def sendPending (s : State) : State :=
  if s.int.pba = 0#64 then s
  else (List.range 64).foldl (fun t v =>
    if t.int.pba.getLsbD v && msixOpen v t then
      emit (msixMessage t.int v) { t with int := { t.int with pba := t.int.pba &&& ~~~(1#64 <<< v) } }
    else t) s

/-- R154: an event sets a source's bit; the message is sent at once when unmasked, and falls due when masked. -/
def setInt (src : Nat) (s : State) : State :=
  if s.int.status.getLsbD src then s
  else
    let u := { s.int with status := s.int.status ||| (1#32 <<< src) }
    if u.mask.getLsbD src then { s with int := { u with due := u.due ||| (1#32 <<< src) } }
    else sendMsix (vectorOf u src) { s with int := u }

/-- R151, W1C: the host clears sources; a message still due for one of them is dropped with it. -/
def clearInt (v : Word) (s : State) : State :=
  { s with int := { s.int with status := s.int.status &&& ~~~v, due := s.int.due &&& ~~~v } }

/-- R154: messages of the sources that are due and no longer masked, in ascending order of source. -/
def sendDue (s : State) : State :=
  (List.range 32).foldl (fun t src =>
    if t.int.due.getLsbD src && !t.int.mask.getLsbD src then
      sendMsix (vectorOf t.int src) { t with int := { t.int with due := t.int.due &&& ~~~(1#32 <<< src) } }
    else t) s

/-- R48, R151: FW_STATE.STATE changes and sets INT_STATUS.FW_STATE. -/
def setStage (st : FwStage) (s : State) : State :=
  if s.boot.stage = st then s else setInt 5 { s with boot := { s.boot with stage := st } }

/-! ### The command ring's doorbell (R117, R124, R125) -/

/-- A bit of CMD_STATUS is set (R124, R151). -/
def setCmdStatus (b : Nat) (s : State) : State :=
  setInt 8 { s with host := { s.host with cmdStatus := s.host.cmdStatus ||| (1#32 <<< b) } }

/-- R125: FETCH_ERR or OVERRUN is set. -/
def cmdError (s : State) : Bool := s.host.cmdStatus.getLsbD 1 || s.host.cmdStatus.getLsbD 2

/-- R124, R125: OVERRUN (bit 1) or FETCH_ERR (bit 2) is set and stops the reading of commands. -/
def stopCommands (b : Nat) (s : State) : State :=
  setCmdStatus b { s with host := { s.host with cmd := { s.host.cmd with stopped := true } } }

/-- R117, R124, R125: the ring is served up to the tail now held, unless it is stopped or holds more than its size. A ring
that had stopped resumes. -/
def cmdDoorbell (s : State) : State :=
  let c := s.host.cmd
  let t := if c.size < (c.tail - c.head).toNat then stopCommands 1 s else s
  if cmdError t then t else { t with host := { t.host with cmd := { c with served := c.tail, stopped := false } } }

/-! ### FAULT_N (R40, R155, R767) -/

/-- FAULT_N is driven low: R40 from a reset until the boot ROM releases it (R61), and the causes of R767. -/
def faultCause (s : State) : Bool :=
  s.rst.inEffect.isSome || s.rst.d3hot || s.clk.clockFault || s.hk.breached != 0 || s.dbg.halted || s.host.linkDown ||
  (match s.boot.stage with
   | .starting => false
   | .running => false
   | _ => true)

/-- FAULT_N follows its causes; INT_STATUS.FAULT is set at each change from high to low (R155). -/
def driveFault (s : State) : State :=
  let low := faultCause s
  let t := { s with pins := { s.pins with faultLow := low } }
  if low && !s.pins.faultLow then setInt 6 t else t

/-- A command's outcome: its effect, and with it the two things that follow the state at once: MSI-X messages that have
become free to leave (R154), and FAULT_N (R40, R155). -/
def settled (t : State) : Host.Outcome State Fault Refusal := .next (sendPending (driveFault (sendDue t)))

/-! ### The report FIFO (R140 to R150) -/

/-- REPORT_LEVEL: committed words in the FIFO. -/
def reportLevel (u : ReportU) : Nat := (u.fifo.map fun p => p.words.length).sum

/-- R146: a reserved slot is in use while its report's packet is in the FIFO. -/
def slotInUse (u : ReportU) (slot : Nat) : Bool := u.fifo.any fun p => p.slot == slot

/-- R147: words an ordinary report may use. -/
def reportRoom (u : ReportU) : Nat :=
  4096 - reportLevel u - (if slotInUse u 1 then 0 else 16) - (if slotInUse u 2 then 0 else 16)

/-- R140: the packet's words. -/
def reportWords (id slot : Nat) (seq : Word) (ns : Nat) (body : List Nat) : List Word :=
  w32 (id % 65536 + fld (4 + body.length) 16 8 + flag (slot != 0) 24) :: seq :: w32 ns :: w32 (ns / 2 ^ 32) ::
    body.map w32

/-- R141 to R143: a packet enters the FIFO whole, takes the next SEQ and sets the REPORT source. -/
def pushReport (id slot : Nat) (body : List Nat) (s : State) : State :=
  let p : ReportPacket := { words := reportWords id slot s.rep.seq (sysNs s) body, slot := slot }
  setInt 3 { s with rep := { s.rep with fifo := s.rep.fifo ++ [p], seq := s.rep.seq + 1 } }

/-- R148, R149: a report is lost: it consumes its SEQ, is counted, and RPT.REPORT_LOST is queued when its slot is free. -/
def loseReport (s : State) : State :=
  let seq := s.rep.seq
  let t := setInt 4 { s with rep := { s.rep with seq := seq + 1, lost := s.rep.lost + 1 } }
  if slotInUse t.rep 1 then t else pushReport 1 1 [seq.toNat, t.rep.lost.toNat] t

/-- R147: an ordinary report is committed when it fits, and otherwise lost. -/
def report (id : Nat) (body : List Nat) (s : State) : State :=
  if 4 + body.length ≤ reportRoom s.rep then pushReport id 0 body s else loseReport s

/-- R150: RPT.HOST_STALL, committed into its reserved slot when free; otherwise nothing at all. -/
def reportStall (body : List Nat) (s : State) : State :=
  if slotInUse s.rep 2 then s else pushReport 2 2 body s

/-- R144: a read of REPORT_DATA. -/
def popReport (s : State) : Word × State :=
  match s.rep.fifo with
  | [] => (0#32, s)
  | p :: ps =>
    match p.words with
    | [] => (0#32, { s with rep := { s.rep with fifo := ps } })
    | [w] => (w, { s with rep := { s.rep with fifo := ps } })
    | w :: ws => (w, { s with rep := { s.rep with fifo := { p with words := ws } :: ps } })

/-! ### The fault log (R756) -/

/-- An entry is appended; the ring keeps the newest 8,192. -/
def logFault (code : Nat) (args : List Nat) (s : State) : State :=
  let e : LogEntry := { seq := s.store.logSeq, code := code, flags := 0, seconds := s.live.life.powerOn,
                        args := (args ++ [0, 0, 0, 0]).take 4 }
  let l := s.store.log ++ [e]
  { s with store := { s.store with log := l.drop (l.length - 8192), logSeq := (s.store.logSeq + 1) % 2 ^ 32 } }

/-- A report that firmware commits: none is made while firmware does not run. -/
def fwReport (id : Nat) (body : List Nat) (s : State) : State := if fwRunning s then report id body s else s

/-- A fault-log entry that firmware writes. -/
def fwLog (code : Nat) (args : List Nat) (s : State) : State := if fwRunning s then logFault code args s else s

/-! ### Replies and tag histories -/

/-- R88: the header bytes a command's CRC and history fields are made of. -/
def cmdHeader (c : Cmd) : List Byte :=
  leBytes 2 c.req.tag.toNat ++ leBytes 2 c.verb.toNat ++ leBytes 2 c.req.obj.toNat ++ leBytes 2 c.req.mods.toNat ++
  leBytes 2 c.req.payload.length ++ [b8 (if c.req.chan = .urgent then 1 else 0), 0#8]

/-- R90: the CRC of a command's packet. -/
def cmdCrc (c : Cmd) : Word := crc32 (cmdHeader c ++ c.req.payload)

/-- R89, R90: a reply packet. -/
def replyPacket (tag verb obj : Half) (status orig detail : Nat) (trunc : Bool) (payload : List Byte) : List Byte :=
  let hdr := leBytes 2 tag.toNat ++ leBytes 2 verb.toNat ++ leBytes 2 obj.toNat ++ [b8 status, b8 orig] ++
    leBytes 2 (payload.length % 4096 + flag trunc 12) ++ leBytes 2 detail
  hdr ++ wordBytes (crc32 (hdr ++ payload)) ++ payload

/-- R113: the address of the slot that a counter value has in a ring of packets. -/
def slotAddr (r : PacketRing) (i : Nat) : Nat :=
  r.baseLo.toNat + 2 ^ 32 * r.baseHi.toNat + 4096 * (if r.size = 0 then 0 else i % r.size)

/-- R113, R121: a reply is written whole to its slot and REPLY_RING_TAIL advances. -/
def putRingReply (packet : List Byte) (s : State) : State :=
  let r := s.host.rep
  setInt 2 { emit (.hostWrite (slotAddr r r.tail.toNat) packet) s with host := { s.host with rep := { r with tail := r.tail + 1 } } }

/-- R101 to R103: firmware writes URG_FW_REPLY, then releases the slot. -/
def putUrgentReply (packet : List Byte) (s : State) : State :=
  setInt 0 { s with urg := { s.urg with fwReply := bytesAt packet 0 128, fwCount := (s.urg.fwCount + 1) % 256,
                                        slot := none } }

/-- R102, R103: the hardware writes URG_HW_REPLY. -/
def putHwReply (packet : List Byte) (s : State) : State :=
  setInt 1 { s with urg := { s.urg with hwReply := bytesAt packet 0 128, hwCount := (s.urg.hwCount + 1) % 256 } }

/-- R128: the history entry of a command and its reply. -/
def histEntry (c : Cmd) (status detail : Nat) (trunc : Bool) (payload : List Byte) : HistEntry :=
  { tag := c.req.tag, verb := c.verb, obj := c.req.obj, mods := c.req.mods, len := c.req.payload.length,
    cls := if c.req.chan = .urgent then 1 else 0, crc := cmdCrc c, status := status, detail := detail, trunc := trunc,
    fullLen := payload.length, payload := payload.take 48 }

/-- R101: a reply in URG_FW_REPLY keeps at most 112 payload bytes. -/
def urgPayload (payload : List Byte) : List Byte := payload.take 112

/-- R127: the newest 256 entries of a history, newest first. -/
def histPush (e : HistEntry) (h : List HistEntry) : List HistEntry := (e :: h).take 256

/-- A reply on the reply ring, without history. -/
def sendRing (c : Cmd) (status orig detail : Nat) (trunc : Bool) (payload : List Byte) (s : State) : State :=
  let t := putRingReply (replyPacket c.req.tag c.verb c.req.obj status orig detail trunc payload) s
  { t with fw := { t.fw with lastTag := some c.req.tag } }

/-- A reply on the reply ring, entered in the ring's history (R128, R133). -/
def finishRing (c : Cmd) (status detail : Nat) (payload : List Byte) (s : State) : State :=
  let t := sendRing c status status detail false payload s
  { t with fw := { t.fw with histRing := histPush (histEntry c status detail false payload) t.fw.histRing } }

/-- R700: the PRISM.RELAY in progress ends. -/
def endRelaying (status detail : Nat) (payload : List Byte) (s : State) : State :=
  match s.fw.relaying with
  | some (c, _, _) => finishRing c status detail payload { s with fw := { s.fw with relaying := none } }
  | none => s

/-- R700, R701: the reply packet of a relayed command, as it is sent back to its originator. -/
def sendRelayed (origin : Nat) (c : Cmd) (status orig detail : Nat) (trunc : Bool) (payload : List Byte) (s : State) :
    State :=
  let long := decide (4064 < payload.length)
  let p := replyPacket c.req.tag c.verb c.req.obj status orig detail (trunc || long) (payload.take 4064)
  let id := (s.prism.relayCur.map Prod.snd).getD 0
  let t := { s with prism := { s.prism with relayCur := none } }
  if origin = nodeId s then endRelaying 0 0 p t else pRelay origin id true p t

/-- The reply to an executed or refused command leaves on its own channel, and nothing else happens (R101, R121, R700). -/
def sendReply (c : Cmd) (status orig detail : Nat) (trunc : Bool) (payload : List Byte) (s : State) : State :=
  match c.req.chan with
  | .ring => sendRing c status orig detail trunc payload s
  | .urgent =>
    let p := urgPayload payload
    putUrgentReply (replyPacket c.req.tag c.verb c.req.obj status orig detail (trunc || decide (112 < payload.length)) p) s
  | .relay o => sendRelayed o c status orig detail trunc payload s

/-- The reply to a command that passed the history check: sent, and entered in the channel's history (R128, R133). A
relayed command falls under the ring's history (R700). -/
def finish (c : Cmd) (status detail : Nat) (payload : List Byte) (s : State) : State :=
  match c.req.chan with
  | .ring => finishRing c status detail payload s
  | .urgent =>
    let t := sendReply c status status detail false payload s
    let e := histEntry c status detail (decide (112 < payload.length)) (urgPayload payload)
    { t with fw := { t.fw with histUrg := histPush e t.fw.histUrg } }
  | .relay o =>
    let t := { s with fw := { s.fw with histRing := histPush (histEntry c status detail false payload) s.fw.histRing } }
    sendRelayed o c status status detail false payload t

/-- The status codes of R91. -/
abbrev stOk := 0
abbrev stDuplicate := 1
abbrev stBusy := 2
abbrev stBadVerb := 3
abbrev stBadObject := 4
abbrev stBadArg := 5
abbrev stNotDeclared := 6
abbrev stLimit := 7
abbrev stNoGrant := 8
abbrev stDeferred := 9
abbrev stTagReuse := 10
abbrev stState := 11

/-- What executing a verb comes to: the reply, or a long action whose reply comes later (R120). -/
inductive Ans where
  | reply (status detail : Nat) (payload : List Byte)
  | wait (b : Busy)
  deriving DecidableEq, Repr, Inhabited

/-- The answer's form for a refusal and for a plain success. -/
def refuse (status detail : Nat) (s : State) : Ans × State := (.reply status detail [], s)
def done (payload : List Byte) (s : State) : Ans × State := (.reply stOk 0 payload, s)

/-- A verb's answer carried out: the reply written, or the verb kept as the one in progress on its channel. -/
def answer (c : Cmd) (a : Ans × State) : State :=
  match a.1 with
  | .reply st d p => finish c st d p a.2
  | .wait b =>
    match c.req.chan with
    | .urgent => { a.2 with fw := { a.2.fw with urgBusy := some (c, b) } }
    | _ =>
      match b with
      | .prismRelay n p => { a.2 with fw := { a.2.fw with relaying := some (c, n, p) } }
      | _ => { a.2 with fw := { a.2.fw with busy := some (c, b) } }

/-- The verb in progress whose action `p` picks ends with this reply; nothing where no such verb is in progress. -/
def endBusy (p : Busy → Bool) (status detail : Nat) (payload : List Byte) (s : State) : State :=
  match s.fw.busy with
  | some (c, b) =>
    if p b then finish c status detail payload { s with fw := { s.fw with busy := none } } else s
  | none => s

/-- The same for the urgent verb in progress. -/
def endUrgBusy (p : Busy → Bool) (status detail : Nat) (payload : List Byte) (s : State) : State :=
  match s.fw.urgBusy with
  | some (c, b) =>
    if p b then finish c status detail payload { s with fw := { s.fw with urgBusy := none } } else s
  | none => s

/-- R194: the verb in progress that `p` picks is aborted: ST_STATE, ABORTED. -/
def abortBusy (p : Busy → Bool) (s : State) : State := endBusy p stState 0x0100 [] s

/-- R167, R160: RPT.VERB_DONE of a deferred command. -/
def verbDone (d : Deferred) (status detail line : Nat) (s : State) : State :=
  report 0x0010 [d.tag.toNat + fld d.verb.toNat 16 16, d.obj.toNat + fld status 16 8, detail, line] s

/-- R167: a command is deferred, unless 16 are pending (ST_BUSY, DEFER_FULL). -/
def deferCmd (c : Cmd) (act : DeferAct) (s : State) : Ans × State :=
  if 16 ≤ s.fw.deferred.length then refuse stBusy 0x01F3 s
  else
    let d : Deferred := { tag := c.req.tag, verb := c.verb, obj := c.req.obj, act := act, acted := none }
    (.reply stDeferred 0 [], { s with fw := { s.fw with deferred := s.fw.deferred ++ [d] } })

/-- Every pending deferred command that `p` picks completes with this status (R167). -/
def endDeferred (p : Deferred → Bool) (status detail line : Nat) (s : State) : State :=
  let t := { s with fw := { s.fw with deferred := s.fw.deferred.filter fun d => !p d } }
  (s.fw.deferred.filter p).foldl (fun u d => verbDone d status detail line u) t

/-! ### The declaration, looked up -/

def assoc {α : Type} (l : List (Nat × α)) (k : Nat) : Option α := (l.find? fun p => p.1 == k).map Prod.snd

def dSystem? (s : State) : Option DSystem := s.decl.map Decl.system
def isScan (s : State) : Bool := match s.decl with | some d => d.system.scan | none => false
def dSegments (s : State) : List DSegment := match s.decl with | some d => d.segments | none => []
def dSegment? (s : State) (n : Nat) : Option DSegment := (dSegments s)[n]?
def dStrings (s : State) : List (Nat × DString) := match s.decl with | some d => d.strings | none => []
def dString? (s : State) (n : Nat) : Option DString := assoc (dStrings s) n
def dThermal? (s : State) (n : Nat) : Option DThermal := match s.decl with | some d => assoc d.thermals n | none => none

/-- R587: a point event of a role at local time `t` ns, for the sensor of the slot in progress when it is among those blanked. -/
def notePoint (role : Nat) (among : Nat → Bool) (t : Nat) (s : State) : State :=
  match s.therm.slot with
  | none => s
  | some n => match dThermal? s n with
    | some d => if d.role = role && among n then { s with therm := { s.therm with points := t :: s.therm.points } } else s
    | none => s
def dAxis? (s : State) (n : Nat) : Option DAxis := match s.decl with | some d => assoc d.axes n | none => none
def dEncoder? (s : State) (n : Nat) : Option DEncoder := match s.decl with | some d => assoc d.encoders n | none => none
def dCamera? (s : State) (n : Nat) : Option DCamera := match s.decl with | some d => assoc d.cameras n | none => none
def dPrism? (s : State) : Option DPrism := match s.decl with | some d => d.prism | none => none
def dDramBudget (s : State) : Nat := match s.decl with | some d => d.dram.budget | none => 0

/-- R233: N_RD of a segment. -/
def nRd (d : DSegment) : Nat := d.pixels + d.overhead

/-- R235, R287: E_L and E_S in force for a segment's lines. -/
def expL (d : DSegment) (p : SegPar) : Nat := p.expLong.getD (nRd d)
def expS (d : DSegment) (p : SegPar) : Nat := p.expShort.getD (nRd d / 8)
def segPar (s : State) (n : Nat) : SegPar := vget s.par.segs n

/-- R235: the lowest-numbered declared segment whose port is not FAILED. -/
def refSegment? (s : State) : Option (Nat × DSegment) :=
  ((dSegments s).mapIdx fun i d => (i, d)).find? fun p => (vget s.ports p.1).st != .failed

/-- The feed axis of a scan-mode declaration. -/
def feedAxis? (s : State) : Option Nat :=
  match s.decl with
  | some d => if d.system.scan then some d.system.feedAxis else none
  | none => none

/-- The feed encoder. -/
def feedEnc (s : State) : Nat := match s.decl with | some d => d.system.feedEncoder | none => 0

/-- The line state is one of those in which a run is armed (R188, R725). -/
def inRun (s : State) : Bool :=
  match s.line.st with
  | .armed => true
  | .capturing => true
  | .seam => true
  | _ => false

/-! ### Data rings (R402 to R412, R829) -/

def ring (s : State) (k : Nat) : DataRing := vget s.host.rings k
def modRing (k : Nat) (f : DataRing → DataRing) (s : State) : State :=
  { s with host := { s.host with rings := vmod s.host.rings k f } }

def ringOn (r : DataRing) : Bool := bit r.ctrl.toNat 0
def ringStream (r : DataRing) : Nat := bits r.ctrl.toNat 8 4

/-- The enabled device-to-host ring that carries a stream. -/
def ringOf (s : State) (stream : Nat) : Option Nat :=
  (List.range 16).find? fun k => ringOn (ring s k) && !bit (ring s k).ctrl.toNat 1 && ringStream (ring s k) == stream

/-- A posted descriptor is ready on the ring (R139, R829). -/
def ringReady (r : DataRing) : Bool := ringOn r && !r.fetchErr && !r.stopped && r.head != r.posted

/-- R137: a completion is signalled under the coalescing, at once with IRQ_NOW. -/
def ringSignal (k : Nat) (now : Bool) (s : State) : State :=
  let r := ring s k
  if now || decide (max 1 (bits r.ctrl.toNat 16 8) ≤ r.unsignalled + 1) then
    setInt (16 + k) (modRing k (fun r => { r with unsignalled := 0, waitSince := none }) s)
  else modRing k (fun r => { r with unsignalled := r.unsignalled + 1, waitSince := some (r.waitSince.getD s.localNs) }) s

/-- R135, R406: the address of the descriptor that a counter value has in a data ring. -/
def descAddr (r : DataRing) (i : Nat) : Nat :=
  r.baseLo.toNat + 2 ^ 32 * r.baseHi.toNat + 32 * (if r.size = 0 then 0 else i % r.size)

/-- R408: LAP of the descriptor at a counter value. -/
def lapOf (r : DataRing) (i : Nat) : Nat := if r.size = 0 then 1 else 1 - (i / r.size) % 2

/-- R406: the half of a descriptor that the device writes, its bytes 0x10 to 0x1F. -/
def doneHalf (bytes info status lap : Nat) : List Byte :=
  leBytes 4 bytes ++ leBytes 4 info ++ [b8 status, b8 lap] ++ List.replicate 6 0#8

/-- R407: the write-back of the descriptor at RING_HEAD. -/
def writeBack (k bytes info status : Nat) (s : State) : State :=
  let r := ring s k
  emit (.hostWrite (descAddr r r.head.toNat + 0x10) (doneHalf bytes info status (lapOf r r.head.toNat))) s

/-- R407, R408: a descriptor is completed: data, write-back, RING_HEAD, signal. -/
def completeDesc (k : Nat) (d : Desc) (status info : Nat) (data : List Byte) (s : State) : State :=
  let t := writeBack k data.length info status (if data.isEmpty then s else emit (.hostWrite d.addr data) s)
  ringSignal k d.irqNow (modRing k (fun r => { r with head := r.head + 1, stallSince := none, stallReported := false }) t)

/-- R166, R406, R407, R410: a descriptor of an upload is completed; its DONE_INFO and DONE_STATUS are 0. -/
def completeUpload (k bytes : Nat) (irqNow : Bool) (s : State) : State :=
  ringSignal k irqNow (modRing k (fun r => { r with head := r.head + 1 }) (writeBack k bytes 0 0 s))

/-! ### The limit block (R64, R760) -/

/-- The value in force of an entry; 0 until CEILING_LOCK (R760). -/
def limitOf (k : LimitKey) (s : State) : Int :=
  match s.limit.entries.find? fun e => e.key == k with
  | some e => e.inForce
  | none => 0

def limitN (k : LimitKey) (s : State) : Nat := (limitOf k s).toNat

/-! ### The grant arbiter (R743 to R747) -/

/-- A holder's term in the load of a budget: the larger of its standing claim and its unexpired grants. -/
def holderTerm (u : GrantU) (now b : Nat) (h : Holder) : Nat :=
  let c := ((u.claims.filter fun x => x.1 == h && x.2.1 == b).map fun x => x.2.2).sum
  let g := ((u.grants.filter fun x => x.holder == h && x.budget == b && decide (now < x.start + x.dur)).map
    fun x => x.mw).sum
  max c g

/-- The holders that stand on a budget. -/
def holdersOf (u : GrantU) (b : Nat) : List Holder :=
  ((u.claims.filter fun x => x.2.1 == b).map fun x => x.1) ++ ((u.grants.filter fun x => x.budget == b).map fun x => x.holder)

/-- R743: the load L of a budget. -/
def budgetLoad (u : GrantU) (now b : Nat) : Nat := (((holdersOf u b).eraseDups).map (holderTerm u now b)).sum

/-- The sum of standing claims of a budget (R744, R751). -/
def budgetClaims (u : GrantU) (b : Nat) : Nat := ((u.claims.filter fun x => x.2.1 == b).map fun x => x.2.2).sum

/-- R744: since when each budget's load has exceeded CONT_MW. -/
def trackOver (s : State) : State :=
  let u := s.grants
  { s with grants := { u with overs := vmapIdx (fun b o =>
      if limitN (.budCont b) s < budgetLoad u s.localNs b then some (o.getD s.localNs) else none) u.overs } }

/-- R744 with R747's guard: would the budget admit `mw` more for this holder? -/
def admits (s : State) (h : Holder) (b mw dur start : Nat) : Bool :=
  let u := s.grants
  let now := s.localNs
  let c := ((u.claims.filter fun x => x.1 == h && x.2.1 == b).map fun x => x.2.2).sum
  let g := ((u.grants.filter fun x => x.holder == h && x.budget == b && decide (now < x.start + x.dur)).map
    fun x => x.mw).sum
  let l' := budgetLoad u now b - holderTerm u now b h + max c (g + mw)
  let cont := limitN (.budCont b) s
  let tx := ((vget u.overs b).getD start)
  let guardOk := match vget u.guard b with
    | some h' => h' == h || decide (l' ≤ budgetLoad u now b)
    | none => true
  guardOk && decide (l' ≤ limitN (.budPeak b) s) &&
    (decide (l' ≤ cont) || decide (start + dur ≤ tx + limitN (.budMs b) s * 1000000))

/-- Every grant a holder holds is returned (R744, R746). -/
def returnGrants (h : Holder) (s : State) : State :=
  trackOver { s with grants := { s.grants with grants := s.grants.grants.filter fun g => g.holder != h } }

/-- The grants of one operation of a holder are returned. -/
def returnGrant (h : Holder) (op : GrantOp) (s : State) : State :=
  trackOver { s with grants := { s.grants with grants := s.grants.grants.filter fun g => !(g.holder == h && g.op == op) } }

/-- R747: a refusal begins or continues the holder's run on a budget, and is counted (R751). -/
def noteRefusal (h : Holder) (b : Nat) (s : State) : State :=
  let u := s.grants
  let runs := if u.refusedRuns.any fun r => r.holder == h && r.budget == b
    then u.refusedRuns.map fun r => if r.holder == h && r.budget == b then { r with last := s.localNs } else r
    else u.refusedRuns ++ [{ holder := h, budget := b, since := s.localNs, last := s.localNs }]
  { s with grants := { u with refusedRuns := runs,
                              refusals := vmod u.refusals b fun n => if n < 65535 then n + 1 else n } }

/-- R747: an admission ends the holder's runs and releases its guards; the guard passes on. -/
def noteAdmission (h : Holder) (s : State) : State :=
  let u := s.grants
  let runs := u.refusedRuns.filter fun r => r.holder != h
  let next (b : Nat) : Option Holder :=
    (runs.find? fun r => r.budget == b && decide (r.since + 1000000000 ≤ s.localNs)).map Refused.holder
  { s with grants := { u with refusedRuns := runs,
                              guard := vmapIdx (fun b g => if g = some h then next b else g) u.guard } }

/-- R745: a request on one or more budgets, admitted on all or on none. A refusal returns what the holder holds (R746). -/
def askGrant (h : Holder) (op : GrantOp) (demands : List (Nat × Nat)) (dur : Nat) (s : State) : Bool × State :=
  let now := s.localNs
  if demands.all fun d => admits s h d.1 d.2 dur now then
    let gs := demands.map fun d =>
      ({ holder := h, op := op, budget := d.1, mw := d.2, start := now, dur := dur } : Grant)
    (true, noteAdmission h (trackOver { s with grants := { s.grants with grants := s.grants.grants ++ gs } }))
  else
    let bad := demands.filter fun d => !admits s h d.1 d.2 dur now
    (false, bad.foldl (fun t d => noteRefusal h d.1 t) (returnGrants h s))

/-- R744: a standing claim is set. Lowering is always accepted; a raise when the claims stay within CONT_MW and the load
within PEAK_MW. -/
def setClaim (h : Holder) (b mw : Nat) (s : State) : Bool × State :=
  let u := s.grants
  let old := ((u.claims.filter fun x => x.1 == h && x.2.1 == b).map fun x => x.2.2).sum
  let rest := u.claims.filter fun x => !(x.1 == h && x.2.1 == b)
  let u' := { u with claims := if mw = 0 then rest else rest ++ [(h, b, mw)] }
  let guardOk := match vget u.guard b with
    | some h' => h' == h || decide (budgetLoad u' s.localNs b ≤ budgetLoad u s.localNs b)
    | none => true
  if mw ≤ old || (guardOk && decide (budgetClaims u' b ≤ limitN (.budCont b) s) &&
      decide (budgetLoad u' s.localNs b ≤ limitN (.budPeak b) s)) then
    let t := trackOver { s with grants := u' }
    (true, if mw ≤ old then t else noteAdmission h t)
  else (false, noteRefusal h b s)

/-- Claims of a holder dropped (its stage is off). -/
def dropClaims (h : Holder) (s : State) : State :=
  trackOver { s with grants := { s.grants with claims := s.grants.claims.filter fun x => x.1 != h } }

/-- An operation joins those that ask for their grant again (R749). -/
def waitGrant (h : Holder) (op : GrantOp) (s : State) : State :=
  let w := s.grants.waiting
  let w' := if w.any fun x => x.1 == h && x.2.1 == op
    then w.map fun x => if x.1 == h && x.2.1 == op then (h, op, s.localNs) else x
    else w ++ [(h, op, s.localNs)]
  { s with grants := { s.grants with waiting := w' } }

def unwaitGrant (h : Holder) (op : GrantOp) (s : State) : State :=
  { s with grants := { s.grants with waiting := s.grants.waiting.filter fun x => !(x.1 == h && x.2.1 == op) } }

/-! ### Line state (R156 to R160) -/

/-- The code of a line state (R156). -/
def lineCode : LineState → Nat
  | .booted => 0
  | .declared => 1
  | .ready => 2
  | .calibrating => 3
  | .armed => 4
  | .capturing => 5
  | .seam => 6
  | .frozen => 7

/-- R158, R159: the line state changes and RPT.STATE is committed; READY becomes DECLARED while a declared port is
FAILED. No change, no report; the report is firmware's. -/
def setLineState (dest : LineState) (cause : Nat) (s : State) : State :=
  let to' := if dest = .ready && anyPortFailed s then LineState.declared else dest
  if s.line.st = to' then s
  else
    let t := { s with line := { s.line with st := to' } }
    if fwRunning s then
      report 0x0011 [lineCode s.line.st + fld (lineCode to') 8 8 + fld cause 16 16, lastAdm s, s.line.epoch.toNat, 0] t
    else t

def Busy.isCal : Busy → Bool
  | .cal => true
  | _ => false

def Busy.isStopCal : Busy → Bool
  | .stopCal => true
  | _ => false

/-- A calibration ends with this reply (R334, R343, R194): its grant is returned, the reply written and the line state
follows it (R157); a LINE.STOP that was waiting for it is answered. -/
def endCal (status detail : Nat) (payload : List Byte) (s : State) : State :=
  match s.cal.run with
  | none => s
  | some r =>
    let t := endBusy Busy.isCal status detail payload (returnGrant .cal .calSweep { s with cal := { s.cal with run := none } })
    setLineState .ready (if r.white then 0x0502 else 0x0501)
      (endUrgBusy Busy.isStopCal stOk 0 [] (endBusy Busy.isStopCal stOk 0 [] t))

/-- R343, R194: a string has left ON during step 4 of a CAL.WHITE. -/
def calLampLost (detail : Nat) (s : State) : State :=
  match s.cal.run with
  | some r => if r.white && r.accumulating then endCal stState detail [] s else s
  | none => s

/-- R169: the configuration epoch advances. -/
def bumpEpoch (s : State) : State := { s with line := { s.line with epoch := s.line.epoch + 1 } }

end Sys2Proof.Machine
end

