-- ==== Sys2Proof/Machine/Operands.lean ====
section
/-! DEFINITION. How a verb's operands are read and checked (R94 steps 7 and 8): object handles (R161, R162), modifiers
(R164), payload shape and reserved bytes (R163), upload references (R165, R166), and the frame every verb runs in
(R120, R171, R728, R729). -/

namespace Sys2Proof.Machine

/-! ### Checks in order -/

/-- A check: the status and detail of its failure, or nothing. -/
abbrev Check := Option (Nat × Nat)

/-- A check that holds exactly when `b`. -/
def need (b : Bool) (status detail : Nat) : Check := if b then none else some (status, detail)

/-- R94: the first failing check. -/
def firstFail : List Check → Check
  | [] => none
  | some e :: _ => some e
  | none :: cs => firstFail cs

/-- The verb runs when every check passes, and is refused at the first that fails. -/
def checked (cs : List Check) (s : State) (run : Ans × State) : Ans × State :=
  match firstFail cs with
  | some e => refuse e.1 e.2 s
  | none => run

/-! ### Objects (R161, R162) -/

/-- R161: the kind, bits [15:10], and the index, bits [9:0], of a handle. -/
def objKind (o : Half) : Nat := bits o.toNat 10 6
def objIdx (o : Half) : Nat := bits o.toNat 0 10

/-- R161: a handle from kind and index. -/
def handle (kind idx : Nat) : Half := h16 (kind * 1024 + idx)

abbrev kDevice := 0
abbrev kSegment := 1
abbrev kString := 2
abbrev kLamp := 3
abbrev kBypass := 4
abbrev kAxis := 5
abbrev kGroup := 6
abbrev kEncoder := 7
abbrev kSensor := 8
abbrev kCamera := 9
abbrev kContext := 10
abbrev kRing := 11
abbrev kPort := 12
abbrev kBudget := 13

/-- R161: the number of indices of a kind. -/
def kindRange : Nat → Nat
  | 0 => 1 | 1 => 24 | 2 => 16 | 3 => 384 | 4 => 32 | 5 => 4 | 6 => 4 | 7 => 4 | 8 => 8 | 9 => 2 | 10 => 4 | 11 => 16
  | 12 => 3 | 13 => 8
  | _ => 0

/-- R205: the highest bypass device named, plus 1 (N_B of R502). -/
def bypassCount (s : State) : Nat :=
  (dStrings s).foldl (fun m p => p.2.map.foldl (fun k l => max k (l.device + 1)) m) 0

/-- R162: what the accepted declaration covers; in BOOTED only the device handle is covered. -/
def covered (s : State) (kind idx : Nat) : Bool :=
  match s.decl with
  | none => kind == 0
  | some d =>
    if s.line.st == .booted then kind == 0
    else match kind with
    | 0 => true
    | 1 => decide (idx < d.segments.length)
    | 2 => (assoc d.strings idx).isSome
    | 3 => match assoc d.strings (idx / 24) with
      | some t => decide (idx % 24 < t.lamps)
      | none => false
    | 4 => decide (idx < bypassCount s)
    | 5 => (assoc d.axes idx).isSome
    | 6 => d.axes.any fun a => a.2.group == idx
    | 7 => (assoc d.encoders idx).isSome
    | 8 => (assoc d.thermals idx).isSome
    | 9 => (assoc d.cameras idx).isSome
    | 10 => !d.cameras.isEmpty
    | 11 => true
    | 12 => match d.prism with
      | some p => bit p.ports idx
      | none => false
    | 13 => (assoc d.budgets idx).isSome
    | _ => false

/-- R162: the verb accepts these kinds; the handle is in range and covered. -/
def objIs (kinds : List Nat) (c : Cmd) (s : State) : Check :=
  let k := objKind c.req.obj
  let i := objIdx c.req.obj
  if !(kinds.contains k && decide (i < kindRange k)) then some (stBadObject, 0)
  else if !covered s k i then some (stNotDeclared, 0)
  else none

/-! ### Modifiers (R164) -/

/-- A modifier bit the verb does not define is refused with RESERVED. The spec gives this check no place among the steps of R94
and R163: every verb of the model makes it after the object's and before the payload's shape (DESIGN CHOICE, log 85). -/
def modsIn (mask : Nat) (c : Cmd) : Check := need (c.req.mods &&& ~~~(h16 mask) == 0#16) stBadArg 4

/-- Modifier bit `b`. -/
def modBit (c : Cmd) (b : Nat) : Bool := c.req.mods.getLsbD b

/-- Modifier field `[lo + width - 1 : lo]`. -/
def modField (c : Cmd) (lo width : Nat) : Nat := bits c.req.mods.toNat lo width

/-! ### Payload shape (R163) -/

/-- A payload field: its size in bytes, and whether it is reserved. -/
inductive Fd where
  | u (n : Nat)
  | r (n : Nat)
  deriving DecidableEq, Repr

def Fd.size : Fd → Nat
  | .u n => n
  | .r n => n

/-- R163: each field at an offset that is a multiple of its own size. -/
def layFrom : Nat → List Fd → List (Nat × Fd)
  | _, [] => []
  | o, f :: fs =>
    let a := ceilDiv o f.size * f.size
    (a, f) :: layFrom (a + f.size) fs

/-- The length a field list gives. -/
def layLen (fs : List Fd) : Nat := ((layFrom 0 fs).getLast?.map fun p => p.1 + p.2.size).getD 0

/-- Byte `o` belongs to a field that is not reserved. -/
def layData (fs : List Fd) (o : Nat) : Bool :=
  (layFrom 0 fs).any fun p => match p.2 with
    | .u n => decide (p.1 ≤ o ∧ o < p.1 + n)
    | .r _ => false

/-- R163: no reserved field and no filling byte differs from 0. -/
def layZero (fs : List Fd) (p : List Byte) : Bool :=
  (List.range (layLen fs)).all fun o => layData fs o || p.getD o 0#8 == 0#8

/-- R163, steps 1 and 2. -/
def shape (fs : List Fd) (c : Cmd) : Check :=
  if c.req.payload.length ≠ layLen fs then some (stBadArg, 0)
  else if !layZero fs c.req.payload then some (stBadArg, 4)
  else none

/-- No payload. -/
def noPayload (c : Cmd) : Check := need c.req.payload.isEmpty stBadArg 0

def pu (c : Cmd) (o n : Nat) : Nat := uAt c.req.payload o n
def ps (c : Cmd) (o n : Nat) : Int := sAt c.req.payload o n

/-! ### Upload references (R165, R166) -/

/-- R402: the code of the UPLOAD stream. -/
abbrev uploadStream := 0

/-- The first `n` bytes the upload descriptors hold, as far as reads succeed, and whether all were read. -/
def uploadRead : Nat → List UpDesc → List Byte × Bool
  | 0, _ => ([], true)
  | _, [] => ([], true)
  | n, d :: ds =>
    if !d.ok then ([], false)
    else if n ≤ d.data.length then (d.data.take n, true)
    else
      let r := uploadRead (n - d.data.length) ds
      (d.data ++ r.1, r.2)

/-- R166: the descriptors that the first `n` bytes of an upload take, up to a failed read: the bytes taken from each, and
its IRQ_NOW. -/
def uploadTaken : Nat → List UpDesc → List (Nat × Bool)
  | 0, _ => []
  | _, [] => []
  | n, d :: ds => if d.ok then (min n d.data.length, d.irqNow) :: uploadTaken (n - d.data.length) ds else []

/-- The upload descriptors consumed on a ring are completed; a failed read stops the ring (R138, R139, R166). -/
def uploadConsume (k : Nat) (taken : List (Nat × Bool)) (ok : Bool) (s : State) : State :=
  let t := taken.foldl (fun t x => completeUpload k x.1 x.2 t) s
  if ok then t else setInt 7 (modRing k (fun r => { r with fetchErr := true, stopped := true }) t)

/-- R166: the checks of an upload reference at payload offset `o`, and the data. What a descriptor that cannot be read
covers is not known: the reference fails by the read. -/
def upload (o : Nat) (c : Cmd) (s : State) : (Nat × Nat ⊕ List Byte) × State :=
  let ring := pu c o 1
  let len := pu c (o + 4) 4
  let r := vget s.host.rings ring
  let ctrl := r.ctrl.toNat
  if 16 ≤ ring || !bit ctrl 0 || !bit ctrl 1 || bits ctrl 8 4 != uploadStream || r.fetchErr || r.stopped then
    (.inl (stBadArg, 0x01F0), s)
  else
    let posted := c.req.upload.take (r.posted - r.head).toNat
    if decide ((posted.map fun d => d.data.length).sum < len) && posted.all (fun d => d.ok) then (.inl (stBadArg, 0x01F1), s)
    else
      let got := uploadRead len posted
      let t := uploadConsume ring (uploadTaken len posted) got.2 s
      if !got.2 then (.inl (stBadArg, 0x01F0), t)
      else if crc32 got.1 != w32 (pu c (o + 8) 4) then (.inl (stBadArg, 0x01F2), t)
      else (.inr got.1, t)

/-- The field list of an upload reference (R165). -/
def uploadFields : List Fd := [.u 1, .r 1, .r 2, .u 4, .u 4]

/-! ### States in which a verb is legal -/

/-- Any line state but BOOTED ("Declared"). -/
def declared (s : State) : Check := need (s.line.st != .booted) stState 0

def stateIn (l : List LineState) (s : State) : Check := need (l.contains s.line.st) stState 0

end Sys2Proof.Machine
end

