-- ==== Sys2Proof/Machine/Prism.lean ====
section
/-! DEFINITION. The Prism link: receiving (R664 to R669), port states and joining (R670 to R678), time (R679 to R685),
agreement (R686 to R692), relaying (R699 to R703), role swaps (R704 to R706), lost links (R707) and the PRISM verbs of
one node. What a system run does on the line is in PrismRun. -/

namespace Sys2Proof.Machine

/-! ### The node's own values -/

/-- R213: bytes 0 to 7 of the SHA-256 digest over records, little-endian. -/
def recordsDigest (l : List RawRec) : Nat :=
  leNat ((sha256 (l.flatMap fun r => leBytes 2 r.type ++ leBytes 2 r.inst ++ leBytes 4 r.body.length ++ r.body)).take 8)

/-- R213: DECL_DIGEST; 0 without a declaration (R172). -/
def declDigest (s : State) : Nat := match s.decl with | some d => recordsDigest d.records | none => 0

/-- R213: SYSTEM_DIGEST: the SYSTEM and GEOMETRY records. -/
def systemDigest (s : State) : Nat :=
  match s.decl with
  | some d => recordsDigest (d.records.filter fun r => r.type == 1 || r.type == 2)
  | none => 0

/-- The running image's PROTO_MAJOR and PROTO_MINOR. -/
def fwMajor (s : State) : Nat := (s.boot.image.map ImageInfo.protoMajor).getD 0
def fwMinor (s : State) : Nat := (s.boot.image.map ImageInfo.protoMinor).getD 0

/-- R663: the role a port offers: refracted. -/
def pRefracted (s : State) (p : Nat) : Bool := s.prism.incident != some p

def pJoined (s : State) : Bool := s.prism.join == .joined

/-- R684. -/
def pAligned (s : State) : Bool := pJoined s && decide (s.prism.offset.natAbs ≤ 12)

/-- R687. -/
def digestOk (s : State) : Bool := match s.prism.agree with | some a => a.digest == systemDigest s | none => false
def versionOk (s : State) : Bool := match s.prism.agree with | some a => a.major == fwMajor s | none => false

/-- R690. -/
def readiness (s : State) : Nat :=
  match s.line.st with
  | .ready => 1
  | .armed => 2
  | .capturing => 3
  | .seam => 3
  | _ => 0

/-- A declared port. -/
def pDeclared (s : State) (p : Nat) : Bool := match s.prism.cfg with | some c => bit c.ports p | none => false

/-- R689: the node's own fields. -/
def ownAgg (s : State) : PAgg :=
  { nodes := 1, leastNode := nodeId s, readiness := readiness s,
    andFlags := flag (digestOk s) 0 + flag (versionOk s) 1 + flag (pAligned s) 2,
    orFlags := flag ((List.range 3).any fun p => (pport s p).conflict) 0 +
      flag ((List.range 3).any fun p => pDeclared s p && ((pport s p).st == .down || (pport s p).st == .foreign)) 1 +
      flag (s.line.st == .frozen && s.line.frozenFault) 2,
    minMinor := fwMinor s, maxDepth := s.prism.depth }

/-- R689: two subtrees combined. -/
def combineAgg (a b : PAgg) : PAgg :=
  { nodes := a.nodes + b.nodes,
    leastNode := if a.readiness < b.readiness then a.leastNode else if b.readiness < a.readiness then b.leastNode
      else min a.leastNode b.leastNode,
    readiness := min a.readiness b.readiness, andFlags := a.andFlags &&& b.andFlags, orFlags := a.orFlags ||| b.orFlags,
    minMinor := min a.minMinor b.minMinor, maxDepth := max a.maxDepth b.maxDepth }

/-- R689: the aggregate of the node and its joined children. -/
def aggregate (s : State) : PAgg :=
  (pDownPorts s).foldl (fun a p => match (pport s p).child with | some b => combineAgg a b | none => a) (ownAgg s)

/-- R676: the nodes present at the root, itself included. -/
def nodesPresent (s : State) : Nat := 1 + ((List.range 3).map fun p => (pport s p).ids.length).sum

/-- R711: RPT.PRISM_EVENT, committed by firmware. -/
def prismEvent (event port node detail run : Nat) (s : State) : State :=
  if fwRunning s then
    report 0x00A0 [event + fld port 8 8 + fld node 16 16, detail % 65536 + fld run 16 16,
      unsignedOf 32 s.prism.offset, lastAdm s] s
  else s

def isPrismJoin : Busy → Bool
  | .prismJoin => true
  | _ => false

def isPrismSwap : Busy → Bool
  | .prismSwap => true
  | _ => false

/-! ### Receiving (R666, R669) -/

/-- R669: what the ACK of an applied message covers leaves the window. -/
def pAcked (ack : Nat) (x : PrismPort) : PrismPort :=
  let left := x.unacked.filter fun e => !(decide (1 ≤ (ack + 65536 - e.1) % 65536 ∧ (ack + 65536 - e.1) % 65536 ≤ 32768))
  { x with unacked := left, tx := { x.tx with again := x.tx.again.filter fun q => left.any fun e => e.1 == q } }

/-- R669: a message received on a live port: applied when its CRC is right and its SEQ the next expected; a failed CRC
and a skipped SEQ are answered with NAK. Code groups that are no whole message fail its CRC (DEDUCED, log 104). -/
def pRecv (p type : Nat) (rx : PrismRx) (apply : State → State) (s : State) : State :=
  let x := pport s p
  if !(decide (p < 3) && rootClks s && x.enabled && portLive x) then s
  else match prismMessage rx with
  | none => pNak p s
  | some bytes =>
    let ahead := (uAt bytes 2 2 + 65536 - x.rxSeq) % 65536
    if crc32 (bytes.take 28) != w32 (uAt bytes 28 4) then pNak p s
    else if uAt bytes 0 1 != type then s
    else if ahead = 0 then
      apply (modPort p (fun x =>
        { pAcked (uAt bytes 4 2) x with rxSeq := (x.rxSeq + 1) % 65536, appliedAt := s.localNs }) s)
    else if ahead < 32768 then pNak p s
    else s

/-- The bytes of a message received. -/
def pMsg (rx : PrismRx) : List Byte := (prismMessage rx).getD []

/-- The body of a message, from byte 0x0A. -/
def pField (bytes : List Byte) (o n : Nat) : Nat := uAt bytes (10 + o) n
def pSrc (bytes : List Byte) : Nat := uAt bytes 6 2
def pDst (bytes : List Byte) : Nat := uAt bytes 8 2
def pBodyOf (bytes : List Byte) : List Byte := bytesAt bytes 10 18

/-- NOP (R669). -/
def execNop (p : Nat) (rx : PrismRx) (s : State) : Host.Outcome State Fault Refusal :=
  settled (pRecv p 0x01 rx id s)

/-! ### Agreement at the root (R686) -/

/-- R686: SYSTEM_MINOR at the root: the least PROTO_MINOR of the aggregate (R689); until the aggregate counts every node joined,
those of the JOIN_REQs too (DEDUCED, log 104). -/
def leastMinor (s : State) : Nat :=
  let a := aggregate s
  if a.nodes = nodesPresent s then a.minMinor else (s.prism.minors.map Prod.snd).foldl min a.minMinor

/-- R686: the fields of AGREE at the root. -/
def agreeNow (s : State) : PAgree :=
  { digest := systemDigest s, expect := s.prism.expect, minor := leastMinor s, major := fwMajor s }

def agreeBody (a : PAgree) : List Byte :=
  leBytes 8 a.digest ++ leBytes 2 a.expect ++ [b8 a.minor, b8 a.major]

/-- R686: AGREE goes down the whole tree whenever any of its fields changes. -/
def syncAgree (s : State) : State :=
  if s.prism.root && pJoined s && fwRunning s && s.prism.agree != some (agreeNow s) then
    pDown 0x09 0xFFFF (agreeBody (agreeNow s)) (nodeId s) { s with prism := { s.prism with agree := some (agreeNow s) } }
  else s

/-! ### Lost links (R670, R707) -/

/-- R677, R707: the IDs of a lost subtree leave the sets on the way to the root. The LEAVE that names the lost child bears the ID
of its parent as SRC, by which the root tells it from a child that leaves by itself (DEDUCED, log 104). -/
def pForget (child : Option Nat) (ids : List Nat) (s : State) : State :=
  if s.prism.root then
    syncAgree { s with prism := { s.prism with minors := s.prism.minors.filter fun m => !ids.contains m.1 } }
  else ids.foldl (fun t n => pUp 0x13 0xFFFD (leBytes 2 n) (if child = some n then nodeId t else n) t) s

/-- R707: the node becomes an orphan: its time goes on at its last φ with s = 0, and it joins again from step 3 of R674. The links
to its children are out of the tree until then, and its HELLO tells them (DEDUCED, log 104). -/
def orphaned (p : Nat) (s : State) : State :=
  let t := (pDownPorts s).foldl (fun t q => modPort q (fun x => { x with
    st := .linked, ids := [], childId := none, child := none }) t) s
  prismEvent 2 p (nodeId t) 0 0 { t with
    time := { t.time with slew := 0 }, prism := { t.prism with join := .linking, orphan := true } }

/-- R670, R707, R691, R703: a port goes DOWN. -/
def portDown (p : Nat) (s : State) : State :=
  let x := pport s p
  let t := modPort p (fun x => { x with
    st := .down, enabled := x.enabled && !x.closing, closing := false, helloSent := false, hello := none, txSeq := 0, rxSeq := 0
    queue := [], unacked := [], tx := { x.tx with naks := [], raw := [], again := [] }, t1 := none, delays := [], ids := []
    childId := none, child := none, armAns := none, swap := .none, conflict := false }) s
  let incident := s.prism.incident == some p
  let u :=
    if x.st == .joined && incident then orphaned p t
    else if incident then
      match t.prism.join with
      | .asked => { t with prism := { t.prism with join := .linking } }
      | .answered _ _ => { t with prism := { t.prism with join := .linking } }
      | _ => t
    else if x.st == .joined then
      let v := pForget x.childId x.ids t
      if s.prism.root then prismEvent 1 p (x.childId.getD 0) 0 0 v else v
    else t
  let v := if x.swap == .none then u else endBusy isPrismSwap stState 0 [] u
  let w := match v.fw.relaying with
    | some (_, _, some q) => if q = p then endRelaying stState 0x0105 [] v else v
    | _ => v
  if x.st != .down && pDeclared s p then prismEvent 5 p (x.childId.getD 0xFFFF) 0 0 w else w

/-- A message has been sent 16 times (R670). -/
def pSpent (x : PrismPort) : Bool := x.unacked.any fun e => decide (16 ≤ e.2.2.1)

/-- PORT_DOWN (R670). -/
def execPortDown (p : Nat) (rx : PrismRx) (s : State) : Host.Outcome State Fault Refusal :=
  let x := pport s p
  settled (if decide (p < 3) && x.st != .down &&
      (decide (4 ≤ codeErrors prismSyms rx.pos (rx.groups.take 1024)) || decide (x.appliedAt + 100000 ≤ s.localNs) || pSpent x)
    then portDown p s else s)

/-- R669: every unacknowledged message is to be sent again, in order from the oldest. One that has been sent 16 times takes the port
DOWN (R670). -/
def pResend (p : Nat) (s : State) : State :=
  if pSpent (pport s p) then portDown p s
  else modPort p (fun x => { x with tx := { x.tx with again := x.unacked.map Prod.fst } }) s

/-- NAK (R664, R669). Whatever SEQ it names, all that stands unacknowledged is sent again (log 104). -/
def execNak (p : Nat) (rx : PrismRx) (s : State) : Host.Outcome State Fault Refusal :=
  settled (if decide (p < 3) && rootClks s && portLive (pport s p) && (nakSeq rx).isSome then pResend p s else s)

/-- RETRANSMIT_TIMEOUT (R669): the oldest has waited 1 µs since it was last sent. -/
def execRetransmitTimeout (p : Nat) (s : State) : Host.Outcome State Fault Refusal :=
  let x := pport s p
  settled (match x.unacked with
    | e :: _ => if rootClks s && x.tx.again.isEmpty && decide (e.2.2.2 + 1000 ≤ s.localNs) then pResend p s else s
    | [] => s)

/-- NOP_TIMER (R669). -/
def execNopTimer (p : Nat) (s : State) : Host.Outcome State Fault Refusal :=
  let x := pport s p
  settled (if decide (p < 3) && rootClks s && portLive x && x.queue.isEmpty && x.tx.again.isEmpty && decide (x.sentAt + 10000 ≤ s.localNs)
    then pSend p 0x01 0xFFFE [] (nodeId s) s else s)

/-! ### HELLO and joining (R672 to R678) -/

/-- R667: this node's HELLO on a port. -/
def helloBody (p : Nat) (s : State) : List Byte :=
  leBytes 4 ((s.prism.cfg.map DPrism.systemId).getD 0) ++ [b8 (fwMajor s), b8 (fwMinor s), b8 (if pRefracted s p then 1 else 0),
    b8 (if pJoined s then s.prism.depth else 255)] ++ bytesAt Config.uniqueId 0 8

/-- R674, step 3: JOIN_REQ goes up once the parent's HELLO shows a depth. -/
def tryJoin (s : State) : State :=
  match s.prism.join, s.prism.incident with
  | .linking, some p =>
    let x := pport s p
    match x.hello with
    | some h =>
      if x.st == .linked && h.depth != 255 then
        pSend p 0x03 0xFFFD (leBytes 2 (nodeId s) ++ [b8 (fwMajor s), b8 (fwMinor s), b8 (h.depth + 1)]) (nodeId s)
          { s with prism := { s.prism with join := .asked } }
      else s
    | none => s
  | _, _ => s

/-- R672: HELLO has been exchanged: the port is LINKED, or FOREIGN. -/
def tryLink (p : Nat) (s : State) : State :=
  let x := pport s p
  match x.hello with
  | none => s
  | some h =>
    if portLive x || !x.helloSent then s
    else if some h.systemId != s.prism.cfg.map DPrism.systemId || h.refracted == pRefracted s p then
      if x.st == .foreign then s
      else
        let t := modPort p (fun x => { x with st := .foreign }) s
        if pDeclared s p then prismEvent 4 p 0xFFFF 0 0 t else t
    else
      tryJoin (modPort p (fun x => { x with
        st := .linked, txSeq := 0, rxSeq := 0, queue := [], unacked := [], tx := { x.tx with naks := [], again := [] }
        appliedAt := s.localNs }) s)

/-- R673: a HELLO is to be sent: numbered once the port is live. -/
def sendHello (p : Nat) (s : State) : State :=
  let t := modPort p (fun x => { x with helloAt := s.localNs }) s
  if portLive (pport s p) then pSend p 0x02 0xFFFE (helloBody p s) (nodeId s) t
  else modPort p (fun x => { x with tx := { x.tx with
    raw := x.tx.raw ++ [{ type := 0x02, src := nodeId s, dst := 0xFFFE, body := pBody (helloBody p s) }] } }) t

/-- HELLO_TIMER (R673). -/
def execHelloTimer (p : Nat) (s : State) : Host.Outcome State Fault Refusal :=
  let x := pport s p
  settled (if decide (p < 3) && rootClks s && x.enabled && x.st != .joined &&
      x.tx.raw.isEmpty && (!x.helloSent || decide (x.helloAt + 100000 ≤ s.localNs)) then sendHello p s else s)

/-- R707: a parent that says on a joined link that it is not joined has become an orphan, and every node below it becomes one
(DEDUCED, log 104). -/
def hearOrphan (p : Nat) (h : PHello) (s : State) : State :=
  if s.prism.incident == some p && (pport s p).st == .joined && h.depth == 255 then
    orphaned p (modPort p (fun x => { x with st := .linked }) s)
  else s

/-- HELLO (R672, R674): on a live port an ordinary message; before that, read as it stands. -/
def execHello (p : Nat) (rx : PrismRx) (s : State) : Host.Outcome State Fault Refusal :=
  let bytes := pMsg rx
  let h : PHello :=
    { systemId := pField bytes 0 4, major := pField bytes 4 1, minor := pField bytes 5 1,
      refracted := pField bytes 6 1 == 1, depth := pField bytes 7 1, uid := pField bytes 8 8 }
  let note (t : State) : State := tryJoin (tryLink p (hearOrphan p h (modPort p (fun x => { x with hello := some h }) t)))
  settled (
    if portLive (pport s p) then pRecv p 0x02 rx note s
    else if decide (p < 3) && rootClks s && (pport s p).enabled && (prismMessage rx).isSome && uAt bytes 0 1 == 0x02 &&
        crc32 (bytes.take 28) == w32 (uAt bytes 28 4) then
      note (modPort p (fun x => { x with appliedAt := s.localNs }) s)
    else s)

/-- R676: the root's PRISM.JOIN is answered once EXPECT_NODES are present. -/
def rootJoined (s : State) : State :=
  if s.prism.root && decide (s.prism.expect ≤ nodesPresent s) then
    endBusy isPrismJoin stOk 0 [] s else s

/-- R675: the root's judgement of a JOIN_REQ. -/
def joinResult (node major depth : Nat) (s : State) : Nat :=
  if major != fwMajor s then 3
  else if 15 < depth then 2
  else if node = nodeId s || (pPortOf s node).isSome then 1
  else 0

/-- R674, steps 4 and 5 at the node that the request came through on port `p`: the answer goes down, and on RESULT 0 the
ID joins the set. -/
def answerDown (p node result depth : Nat) (s : State) : State :=
  let t := pSend p 0x04 node (leBytes 2 node ++ [b8 result, b8 depth]) (nodeId s) s
  let direct := (pport s p).st == .linked
  if result = 0 then
    modPort p (fun x => { x with
      st := .joined, ids := x.ids ++ [node], childId := if direct then some node else x.childId }) t
  else if result = 1 && direct then modPort p (fun x => { x with conflict := true }) t
  else t

/-- R674, step 4; R686: AGREE follows to the node, and to the tree when a field has changed. -/
def rootAdmit (p node major minor depth : Nat) (s : State) : State :=
  let r := joinResult node major depth s
  let t := answerDown p node r depth s
  if r = 0 then
    let u := { t with prism := { t.prism with minors := t.prism.minors ++ [(node, minor)] } }
    let changed := u.prism.agree != some (agreeNow u)
    let v := if changed then syncAgree u else pSend p 0x09 node (agreeBody (agreeNow u)) (nodeId u) u
    rootJoined v
  else if r = 1 then prismEvent 8 p node 0 0 t
  else t

/-- JOIN_REQ (R674, R675, R708): forwarded up, or at the root admitted or refused. -/
def execJoinReq (p : Nat) (rx : PrismRx) (s : State) : Host.Outcome State Fault Refusal :=
  let bytes := pMsg rx
  let node := pField bytes 0 2
  let major := pField bytes 2 1
  let minor := pField bytes 3 1
  let depth := pField bytes 4 1
  settled (pRecv p 0x03 rx (fun t =>
    if !pJoined t || !pRefracted t p then t
    else if t.prism.root then
      if fwRunning t then rootAdmit p node major minor depth t
      else { t with prism := { t.prism with heldJoins := t.prism.heldJoins ++ [(p, node, major, minor, depth)] } }
    else
      pUp 0x03 0xFFFD (pBodyOf bytes) (pSrc bytes)
        { t with prism := { t.prism with joining := t.prism.joining ++ [(node, p)] } }) s)

/-- R708: joins that waited for firmware. -/
def admitHeld (s : State) : State :=
  s.prism.heldJoins.foldl (fun t j => rootAdmit j.1 j.2.1 j.2.2.1 j.2.2.2.1 j.2.2.2.2 t)
    { s with prism := { s.prism with heldJoins := [] } }

/-- R674, step 6: joined once the first TIME and AGREE have come. -/
def joinDone (s : State) : State :=
  match s.prism.join with
  | .answered true true =>
    let t := { s with prism := { s.prism with join := .joined, orphan := false, joinAt := none } }
    let u := if s.prism.orphan then prismEvent 3 (s.prism.incident.getD 255) (nodeId s) 0 0 t else t
    endBusy isPrismJoin stOk 0 [] u
  | _ => s

/-- JOIN_ANS (R674, R675, R676). -/
def execJoinAns (p : Nat) (rx : PrismRx) (s : State) : Host.Outcome State Fault Refusal :=
  let bytes := pMsg rx
  let node := pField bytes 0 2
  let result := pField bytes 2 1
  let depth := pField bytes 3 1
  settled (pRecv p 0x04 rx (fun t =>
    if t.prism.incident != some p then t
    else if t.prism.join == .asked && node == nodeId t then
      if result = 0 then
        modPort p (fun x => { x with st := .joined })
          { t with prism := { t.prism with join := .answered false false, depth := depth } }
      else
        endBusy isPrismJoin stState (0x0100 + result) []
          { t with prism := { t.prism with join := .off, orphan := false, joinAt := none } }
    else
      match t.prism.joining.find? fun j => j.1 == node with
      | some j =>
        answerDown j.2 node result depth
          { t with prism := { t.prism with joining := t.prism.joining.erase j } }
      | none => t) s)

/-- JOIN_TIMEOUT (R676). -/
def execJoinTimeout (s : State) : Host.Outcome State Fault Refusal :=
  settled (match s.prism.joinAt with
    | some t0 =>
      if decide (t0 + 60000000000 ≤ s.localNs) && fwRunning s then
        endBusy isPrismJoin stBusy 0 [] { s with prism := { s.prism with
          joinAt := none, join := if s.prism.root then s.prism.join else .off } }
      else s
    | none => s)

/-- LEAVE (R677, R707): the root commits NODE_LOST for a child that its parent has lost. -/
def execLeave (p : Nat) (rx : PrismRx) (s : State) : Host.Outcome State Fault Refusal :=
  let bytes := pMsg rx
  let node := pField bytes 0 2
  settled (pRecv p 0x13 rx (fun t =>
    if !pRefracted t p then t
    else
      let u := modPort p (fun x =>
        let direct := x.childId == some node
        { x with
          ids := x.ids.filter fun n => n != node
          st := if direct then .linked else x.st
          childId := if direct then none else x.childId
          child := if direct then none else x.child }) t
      if t.prism.root then
        let v := syncAgree { u with prism := { u.prism with minors := u.prism.minors.filter fun m => m.1 != node } }
        if pSrc bytes = node then v else prismEvent 1 p node 0 0 v
      else pUp 0x13 0xFFFD (pBodyOf bytes) (pSrc bytes) u) s)

/-- A port is disabled (R662, R678): its sending side stands as after reset. -/
def disablePort (p : Nat) (s : State) : State := modPort p (fun _ => {}) (portDown p s)

/-- R678: LEAVE goes up, every port is disabled, and the sets are emptied. The port in the incident role is disabled once LEAVE has been
sent (DEDUCED, log 104). No link is lost by it, so it makes neither an orphan nor a lost node of this one (R707). -/
def prismLeave (s : State) : State :=
  let t := if s.prism.root then s else pUp 0x13 0xFFFD (leBytes 2 (nodeId s)) (nodeId s) s
  let u := { t with prism := { t.prism with
    join := .off, orphan := false, joinAt := none, minors := [], joining := [], heldJoins := [], agree := none } }
  (List.range 3).foldl (fun t p =>
    let v := modPort p (fun x => { x with
      st := if x.st == .joined then .linked else x.st, ids := [], childId := none, child := none }) t
    if !s.prism.root && s.prism.incident == some p && !(pport v p).queue.isEmpty then modPort p (fun x => { x with closing := true }) v
    else disablePort p v) u

/-- PRISM.JOIN (R674, R676, R708). -/
def vPrismJoin (c : Cmd) (s : State) : Ans × State :=
  checked [objIs [kDevice] c s, modsIn 0 c, noPayload c, stateIn [.declared, .ready] s, need (dPrism? s).isSome stState 0] s <|
    if pJoined s && !s.prism.root then done [] s
    else
      let t := (List.range 3).foldl (fun t p =>
        if pDeclared t p then modPort p (fun x => { x with enabled := true, closing := false }) t else t) s
      let u := { t with prism := { t.prism with joinAt := some t.localNs, retained := false } }
      if s.prism.root then
        let v := { u with prism := { u.prism with join := .joined, depth := 0, offset := 0 } }
        let w := { v with prism := { v.prism with agree := some (v.prism.agree.getD (agreeNow v)) } }
        if w.prism.expect ≤ nodesPresent w then done [] { w with prism := { w.prism with joinAt := none } }
        else (.wait .prismJoin, w)
      else
        match u.prism.join with
        | .off => (.wait .prismJoin, tryJoin { u with prism := { u.prism with join := .linking } })
        | _ => (.wait .prismJoin, u)

/-- PRISM.LEAVE (R678). -/
def vPrismLeave (c : Cmd) (s : State) : Ans × State :=
  checked [objIs [kDevice] c s, modsIn 0 c, noPayload c, stateIn [.ready, .declared] s] s (done [] (prismLeave s))

/-! ### Time (R679 to R685) -/

/-- DELAY_REQ_TIMER (R679). -/
def execDelayReqTimer (p : Nat) (s : State) : Host.Outcome State Fault Refusal :=
  let x := pport s p
  settled (if decide (p < 3) && rootClks s && portLive x && decide (x.delayAt + 1000000 ≤ s.localNs) then
    pSend p 0x05 0xFFFE [] (nodeId s) (modPort p (fun x => { x with delayAt := s.localNs }) s) else s)

/-- DELAY_REQ (R679): T2 is stamped on arrival, T3 when the answer leaves. -/
def execDelayReq (p : Nat) (rx : PrismRx) (s : State) : Host.Outcome State Fault Refusal :=
  settled (pRecv p 0x05 rx (fun t => pSend p 0x06 0xFFFE (leBytes 8 (pRxStamp rx s)) (nodeId t) t) s)

/-- DELAY_RESP (R679): a new measurement. -/
def execDelayResp (p : Nat) (rx : PrismRx) (s : State) : Host.Outcome State Fault Refusal :=
  let bytes := pMsg rx
  settled (pRecv p 0x06 rx (fun t =>
    match (pport t p).t1 with
    | none => t
    | some t1 =>
      let m : Int := signed 64 (pRxStamp rx s + 2 ^ 64 - t1) - signed 64 (pField bytes 8 8 + 2 ^ 64 - pField bytes 0 8)
      modPort p (fun x => { x with t1 := none, delays := (m :: x.delays).take 8 }) t) s)

/-- R679: the hop delay in ns: half the mean of the last 8 measurements; with none yet, a free value. -/
def hopDelay (p : Nat) (s : State) : Rat × State :=
  let l := (pport s p).delays
  if l.isEmpty then
    let f := takeFree s
    ((f.1 : Rat), f.2)
  else (((l.sum : Int) : Rat) / (32 * (l.length : Rat)), s)

def clampR (lo hi x : Rat) : Rat := if x < lo then lo else if hi < x then hi else x

/-- Round half up of a rational. -/
def ratRound (q : Rat) : Int := (q + 1 / 2).floor

/-- R682: the line states in which time is never stepped. -/
def noStep (s : State) : Bool := s.line.st == .armed || s.line.st == .capturing || s.line.st == .seam

/-- R681, R682: what an offset θ does to the time. -/
def discipline (theta : Rat) (s : State) : Rat × State :=
  let step := !noStep s && decide (1000 < (if theta < 0 then -theta else theta))
  let th := if step then 0 else theta
  let sys : Int := (s.time.sys : Int) - (if step then (theta * ((2 ^ 32 : Nat) : Rat)).floor else 0)
  (th, { s with time := { s.time with
    sys := (sys % ((2 ^ 96 : Nat) : Int)).toNat
    phi := clampR (-1 / 5000) (1 / 5000) (s.time.phi - th / 256000000)
    slew := clampR (-1 / 10000) (1 / 10000) (-th / 16000000) } })

/-- R680: this node's own TIME on a port. -/
def sendTime (p : Nat) (s : State) : State :=
  pSend p 0x07 0xFFFE (leBytes 8 0 ++ leInt 4 s.prism.offset ++ [b8 s.prism.depth]) (nodeId s) s

/-- R704, R705: the old root becomes a node of depth 1 on port `p`. -/
def becomeNode (p : Nat) (s : State) : State :=
  let t := modPort p (fun x => { x with ids := [], childId := none, child := none, swap := .none })
    { s with prism := { s.prism with
      root := false, incident := some p, depth := 1, minors := [], join := .joined, sentAgg := none } }
  endBusy isPrismSwap stOk 0 [] (prismEvent 9 p (nodeId s) 0 0 t)

/-- R704, R705: the child becomes the root, takes EXPECT_NODES, and sends AGREE and TIME down the whole tree. -/
def becomeRoot (p old : Nat) (s : State) : State :=
  let t := modPort p (fun x => { x with ids := [old], childId := some old, child := none, swap := .none })
    { s with
      time := { s.time with phi := 0, slew := 0 }
      prism := { s.prism with
        root := true, incident := none, depth := 0, offset := 0, join := .joined
        expect := (s.prism.agree.map PAgree.expect).getD s.prism.expect, timeAt := sysNs s } }
  let a := agreeNow t
  let u := pDown 0x09 0xFFFF (agreeBody a) (nodeId t) { t with prism := { t.prism with agree := some a } }
  let v := (pDownPorts u).foldl (fun w q => sendTime q w) u
  endBusy isPrismSwap stOk 0 [] (prismEvent 9 p (nodeId s) 0 0 v)

/-- TIME_TIMER (R680, R705): the root's TIME every 1 ms of system time; also where the time has been stepped back behind the last one's
(R685). -/
def execTimeTimer (s : State) : Host.Outcome State Fault Refusal :=
  settled (if s.prism.root && pJoined s && rootClks s &&
      decide (s.prism.timeAt + 1000000 ≤ sysNs s ∨ sysNs s < s.prism.timeAt) then
    let t := (pDownPorts s).foldl (fun w q => sendTime q w) { s with prism := { s.prism with timeAt := sysNs s } }
    match (pDownPorts s).find? fun p => (pport s p).swap == .agreed with
    | some p => becomeNode p t
    | none => t
  else s)

/-- TIME (R680 to R682, R705). -/
def execTime (p : Nat) (rx : PrismRx) (s : State) : Host.Outcome State Fault Refusal :=
  let bytes := pMsg rx
  settled (pRecv p 0x07 rx (fun t =>
    if t.prism.incident != some p || (pport t p).st != .joined then t
    else
      let h := hopDelay p t
      let theta : Rat := ((signed 64 (pRxStamp rx s + 2 ^ 64 - pField bytes 0 8) : Int) : Rat) / 16 - h.1
      let d := discipline theta h.2
      let off := signed 32 (pField bytes 8 4) + ratRound d.1
      let u := { d.2 with prism := { d.2.prism with offset := off, depth := pField bytes 12 1 + 1 } }
      let v := joinDone (match u.prism.join with
        | .answered _ a => { u with prism := { u.prism with join := .answered true a } }
        | _ => u)
      let w := (pDownPorts v).foldl (fun x q => sendTime q x) v
      if (pport w p).swap == .agreed then becomeRoot p (pSrc bytes) w else w) s)

/-! ### Agreement (R686 to R692) -/

/-- AGREE (R686, R687). -/
def execAgree (p : Nat) (rx : PrismRx) (s : State) : Host.Outcome State Fault Refusal :=
  let bytes := pMsg rx
  settled (pRecv p 0x09 rx (fun t =>
    if t.prism.incident != some p then t
    else
      let fwd := if pDst bytes = 0xFFFF then pDown 0x09 0xFFFF (pBodyOf bytes) (pSrc bytes) t
        else match pPortOf t (pDst bytes) with
          | some q => pSend q 0x09 (pDst bytes) (pBodyOf bytes) (pSrc bytes) t
          | none => t
      if pDst bytes != 0xFFFF && pDst bytes != nodeId t then fwd
      else
        let a : PAgree := { digest := pField bytes 0 8, expect := pField bytes 8 2, minor := pField bytes 10 1,
                            major := pField bytes 11 1 }
        joinDone { fwd with prism := { fwd.prism with
          agree := some a
          join := match fwd.prism.join with
            | .answered tm _ => .answered tm true
            | j => j } }) s)

/-- STATE_TIMER (R689): STATE goes up when any field has changed, and at least every 100 µs. -/
def execStateTimer (s : State) : Host.Outcome State Fault Refusal :=
  let a := aggregate s
  settled (if pJoined s && !s.prism.root && rootClks s &&
      (s.prism.sentAgg != some a || decide (s.prism.stateAt + 100000 ≤ s.localNs)) then
    pUp 0x08 0xFFFE (leBytes 2 a.nodes ++ leBytes 2 a.leastNode ++ [b8 a.readiness, b8 a.andFlags, b8 a.orFlags,
        b8 a.minMinor, b8 a.maxDepth]) (nodeId s)
      { s with prism := { s.prism with sentAgg := some a, stateAt := s.localNs } }
  else s)

/-- STATE (R689). -/
def execState (p : Nat) (rx : PrismRx) (s : State) : Host.Outcome State Fault Refusal :=
  let bytes := pMsg rx
  settled (pRecv p 0x08 rx (fun t =>
    if !pRefracted t p || (pport t p).st != .joined then t
    else syncAgree (modPort p (fun x => { x with child := some {
      nodes := pField bytes 0 2, leastNode := pField bytes 2 2, readiness := pField bytes 4 1, andFlags := pField bytes 5 1,
      orFlags := pField bytes 6 1, minMinor := pField bytes 7 1, maxDepth := pField bytes 8 1 } }) t)) s)

/-- R691, R692: the root's ID_CONFLICT. -/
def idConflict (s : State) : Bool := bit (aggregate s).orFlags 0

/-- R692: the agreement flags. -/
def agreementFlags (s : State) : Nat :=
  let a := aggregate s
  let root := s.prism.root
  flag (digestOk s) 0 + flag (versionOk s) 1 + flag (pAligned s) 2 + flag (root && bit a.andFlags 0) 3 +
    flag (root && bit a.andFlags 2) 4 + flag (root && decide (s.prism.expect ≤ a.nodes)) 5 + flag (idConflict s) 6 +
    flag ((List.range 3).any fun p => (pport s p).st == .foreign) 7 +
    flag ((List.range 3).any fun p => pDeclared s p && (pport s p).st == .down) 8 +
    fld ((s.prism.agree.map PAgree.minor).getD 0) 16 8

/-- R692: the role byte. -/
def roleByte (s : State) : Nat :=
  (if s.prism.cfg.isNone then 3 else if s.prism.root then 0 else 1) +
    4 * (match s.prism.join with | .off => 0 | .joined => 2 | _ => 1)

/-- PRISM.STATUS (R191, R692). A device with no PRISM record has no node ID: the field is a free value. -/
def vPrismStatus (c : Cmd) (s : State) : Ans × State :=
  checked [objIs [kDevice] c s, modsIn 0 c, noPayload c, declared s] s <|
    let f := takeFree s
    let id := match s.prism.cfg with
      | some p => (p.nodeId, s)
      | none => (f.1 % 65536, f.2)
    done (leBytes 2 id.1 ++ [b8 (if pJoined s then s.prism.depth else 255), b8 (roleByte s)] ++
      leBytes 2 (aggregate s).nodes ++ [0#8, 0#8] ++ leBytes 8 (systemDigest s) ++ leInt 4 s.prism.offset ++
      leBytes 4 (agreementFlags s)) id.2

/-! ### Relayed verbs (R699 to R703) -/

/-- A packet's length by its header (R88, R89). -/
def packetLen (b : List Byte) : Nat := 16 + uAt b 8 2 % 4096

/-- R88: the command a packet carries. -/
def packetCmd (b : List Byte) (chan : Chan) (up : List UpDesc) (ok : Bool) : Cmd :=
  { verb := h16 (uAt b 2 2)
    req := { tag := h16 (uAt b 0 2), obj := h16 (uAt b 4 2), mods := h16 (uAt b 6 2),
             payload := (b.drop 16).take (uAt b 8 2), chan := chan, upload := up, partOk := ok } }

/-- R700: a relayed command arrives whole at its target. -/
def relayArrived (r : PRelay) (s : State) : State :=
  if 16 ≤ s.prism.relayQ.length then
    let c := packetCmd r.bytes (.relay r.src) [] true
    pRelay r.src r.id true (replyPacket c.req.tag c.verb c.req.obj stBusy stBusy 0 false []) s
  else { s with prism := { s.prism with relayQ := s.prism.relayQ ++ [r] } }

/-- R700: a reply arrives whole at the originator. One fragment with no data says that there is no route (R699). -/
def relayReplied (r : PRelay) (s : State) : State :=
  match s.fw.relaying with
  | some (_, node, _) =>
    if r.src != node && r.bytes.length != 14 then s
    else if (r.id + 1) % 65536 != s.prism.relayId then s
    else if r.bytes.length = 14 then endRelaying stState 0x0105 [] s
    else endRelaying stOk 0 (r.bytes.take (packetLen r.bytes)) s
  | none => s

/-- RELAY (R699, R700). -/
def execRelay (p : Nat) (rx : PrismRx) (s : State) : Host.Outcome State Fault Refusal :=
  let bytes := pMsg rx
  let id := pField bytes 0 2
  let frag := pField bytes 2 2
  let data := bytesAt bytes 14 14
  settled (pRecv p 0x10 rx (fun t =>
    let src := pSrc bytes
    let dst := pDst bytes
    if dst = nodeId t then
      let mine (r : PRelay) : Bool := r.src == src && r.id == id && r.reply == bit frag 14
      let old := (t.prism.relayIn.find? mine).getD { src := src, id := id, reply := bit frag 14, bytes := [] }
      let r := { old with bytes := old.bytes ++ data }
      let rest := t.prism.relayIn.filter fun x => !mine x
      if bit frag 15 then
        let u := { t with prism := { t.prism with relayIn := rest } }
        if r.reply then relayReplied r u else relayArrived { r with bytes := r.bytes.take (packetLen r.bytes) } u
      else { t with prism := { t.prism with relayIn := rest ++ [r] } }
    else
      match pPortOf t dst with
      | some q => pSend q 0x10 dst (pBodyOf bytes) src t
      | none =>
        if t.prism.root then
          if bit frag 15 && !bit frag 14 then pRoute src (leBytes 2 id ++ leBytes 2 (flag true 14 + flag true 15)) dst t
          else t
        else pUp 0x10 dst (pBodyOf bytes) src t) s)

/-- PRISM.RELAY (R699, R702). -/
def vPrismRelay (c : Cmd) (s : State) : Ans × State :=
  let node := pu c 0 2
  let packet := c.req.payload.drop 2
  let len := packet.length
  checked [objIs [kDevice] c s, modsIn 0 c, need (18 ≤ c.req.payload.length && len ≤ 4072) stBadArg 0,
      need (packetLen packet == len && decide (uAt packet 8 2 < 4096)) stBadArg 0,
      need (uAt packet 3 1 != 0xF0) stBadVerb 3, need (uAt packet 10 1 == 0) stBadArg 3,
      need (uAt packet 2 2 != 0x0C04) stBadArg 0, need (pJoined s) stState 0] s <|
    let id := s.prism.relayId
    let t := { s with prism := { s.prism with relayId := (id + 1) % 65536 } }
    if node = nodeId s && decide (16 ≤ s.prism.relayQ.length) then
      let k := packetCmd packet (.relay node) [] true
      done (replyPacket k.req.tag k.verb k.req.obj stBusy stBusy 0 false []) t
    else if node = nodeId s then (.wait (.prismRelay node none), relayArrived { src := node, id := id, reply := false, bytes := packet } t)
    else
      let port := pPortOf s node
      if port.isNone && s.prism.root then refuse stState 0x0105 t
      else (.wait (.prismRelay node (port.or s.prism.incident)), pRelay node id false packet t)

/-! ### Role swaps (R704 to R706) -/

/-- R704: the port is one a swap may use. -/
def swapPort (s : State) (p : Nat) : Bool :=
  (pport s p).st == .joined &&
    (if s.prism.root then s.prism.incident != some p else s.prism.incident == some p && s.prism.depth == 1)

/-- R706: at the root, the greatest depth in the subtrees other than the one on `p`, plus 1, stays within 15. -/
def swapDepthOk (s : State) (p : Nat) : Bool :=
  !s.prism.root || ((pDownPorts s).filter (· != p)).all fun q =>
    match (pport s q).child with | some a => decide (a.maxDepth + 1 ≤ 15) | none => true

/-- PRISM.SWAP (R704, R706). -/
def vPrismSwap (c : Cmd) (s : State) : Ans × State :=
  let p := objIdx c.req.obj
  checked [objIs [kPort] c s, modsIn 0 c, noPayload c, need (pJoined s) stState 0, stateIn [.ready] s,
      need (swapPort s p) stState 0,
      need (!s.prism.root || (match (pport s p).child with | some a => a.readiness == 1 | none => false)) stState 0,
      need (swapDepthOk s p) stState 0x0102] s
    (.wait .prismSwap, pSend p 0x11 0xFFFE (leBytes 2 (nodeId s)) (nodeId s)
      (modPort p (fun x => { x with swap := .asked }) s))

/-- R705: an answer to a SWAP_REQ. -/
def swapAnswer (p requester result : Nat) (s : State) : State :=
  pSend p 0x12 0xFFFE (leBytes 2 requester ++ [b8 result]) (nodeId s) s

/-- SWAP_REQ (R705, R192). -/
def execSwapReq (p : Nat) (rx : PrismRx) (s : State) : Host.Outcome State Fault Refusal :=
  let bytes := pMsg rx
  let req := pField bytes 0 2
  settled (pRecv p 0x11 rx (fun t =>
    let crossed := (pport t p).swap == .asked
    if crossed && decide (nodeId t < req) then swapAnswer p req 1 t
    else
      let t := if crossed then endBusy isPrismSwap stState 0x0104 [] (modPort p (fun x => { x with swap := .none }) t) else t
      if swapPort t p && t.line.st == .ready && swapDepthOk t p then
        modPort p (fun x => { x with swap := .agreed }) (swapAnswer p req 0 t)
      else swapAnswer p req 2 t) s)

/-- SWAP_ANS (R705). -/
def execSwapAns (p : Nat) (rx : PrismRx) (s : State) : Host.Outcome State Fault Refusal :=
  let bytes := pMsg rx
  let result := pField bytes 2 1
  settled (pRecv p 0x12 rx (fun t =>
    if (pport t p).swap != .asked then t
    else if result = 0 then modPort p (fun x => { x with swap := .agreed }) t
    else
      endBusy isPrismSwap stState (if result = 1 then 0x0104 else 0) [] (modPort p (fun x => { x with swap := .none }) t)) s)

/-! ### Sending (R664, R668, R669) -/

/-- A message goes on the wire under a number. -/
def pWire (slot p seq : Nat) (retx : Bool) (m : PMsg) (s : State) : State :=
  let stamp := pTxStamp slot s
  modPort p (fun x => { x with
    sentAt := s.localNs, t1 := if m.type = 5 then some stamp else x.t1
    tx := { x.tx with cur := somToEom (pBytes stamp seq x.rxSeq retx m), idles := 0 } }) s

/-- R668, R669: what a port sends next: what is to be sent again, then a HELLO without a number, then the first message waiting, while
fewer than 32 stand unacknowledged. -/
def pStart (slot p : Nat) (s : State) : State :=
  let x := pport s p
  match x.tx.again, x.tx.raw, x.queue with
  | q :: qs, _, _ =>
    let t := modPort p (fun x => { x with
      tx := { x.tx with again := qs }
      unacked := x.unacked.map fun e => if e.1 = q then (e.1, e.2.1, e.2.2.1 + 1, s.localNs) else e }) s
    match x.unacked.find? fun e => e.1 == q with
    | some e => pWire slot p q true e.2.1 t
    | none => t
  | [], m :: ms, _ =>
    tryLink p (pWire slot p 0 false m (modPort p (fun x => { x with helloSent := true, tx := { x.tx with raw := ms } }) s))
  | [], [], m :: ms =>
    if 32 ≤ x.unacked.length then s
    else
      pWire slot p x.txSeq false m (modPort p (fun x => { x with
        queue := ms, txSeq := (x.txSeq + 1) % 65536, unacked := x.unacked ++ [(x.txSeq, m, 1, s.localNs)] }) s)
  | [], [], [] => s

/-- R664: the next symbol: a NAK sequence goes between the code groups of a message; IDLE goes where there is nothing else. -/
def pSymbol (x : PrismTx) : Sym × PrismTx :=
  match x.naks, x.cur with
  | y :: ys, _ => (y, { x with naks := ys })
  | [], y :: ys => (y, { x with cur := ys })
  | [], [] => (symIdle, { x with idles := min 2 (x.idles + 1) })

/-- R678: LEAVE has been sent. -/
def leaveSent (x : PrismPort) : Bool := x.closing && x.queue.isEmpty && x.tx.cur.isEmpty

/-- R664: an enabled port sends one code group. -/
def pSlot (slot : Nat) (s : State) (p : Nat) : State :=
  let x := pport s p
  if !x.enabled then s
  else
    let t := if x.tx.naks.isEmpty && x.tx.cur.isEmpty && decide (2 ≤ x.tx.idles) then pStart slot p s else s
    let y := (pport t p).tx
    let r := pSymbol y
    let g := codeOf y.pos r.1
    let u := emit (.prismGroup p g) (modPort p (fun x => { x with tx := { r.2 with pos := rdAfter y.pos g } }) t)
    if leaveSent (pport u p) then disablePort p u else u

/-- R662, R664: in every slot of 4.167 ns each enabled port sends one code group. -/
def sendPrism (s : State) : State :=
  if rootClks s && prismSlot s.localNs != prismSlot (s.localNs - 1) then
    (List.range 3).foldl (pSlot (prismSlot s.localNs)) s
  else s

/-! ### The node's own clock -/

/-- R679, R681, R172: system time over 1 ns of the node's clock. -/
def tickTime (s : State) : State :=
  let cap : Int := 429496
  let d := clampI (-cap) cap s.time.left
  let inc : Int := (2 ^ 32 : Nat) + ((s.time.phi + s.time.slew) * ((2 ^ 32 : Nat) : Rat)).floor + d
  { s with time := { s.time with
    sys := (((s.time.sys : Int) + inc) % ((2 ^ 96 : Nat) : Int)).toNat
    left := s.time.left - d } }

end Sys2Proof.Machine
end

