-- ==== Sys2Proof/Machine/CamPipe.lean ====
section
/-! DEFINITION. The area camera pipeline's arithmetic (R634 to R646), exact on integers: pure functions of a context, the
frame's size and its samples. -/

namespace Sys2Proof.Machine

/-- What the pipeline reads a frame through: the context, the size, the exposures' rows, and what selects R636's and
R637's cases. -/
structure PipeIn where
  ctx : CamCtx
  w : Nat
  h : Nat
  exps : List (List (List Nat))
  partialMerge : Bool
  gain : Nat

/-- R634: reflection about the edge pixel. -/
def reflect (n : Nat) (x : Int) : Nat :=
  let y := if x < 0 then -x else if (n : Int) - 1 < x then 2 * ((n : Int) - 1) - x else x
  y.toNat

/-- The CFA phase of a pixel: 0 throughout a monochrome context. -/
def camPhase (c : CamCtx) (x y : Nat) : Nat := if c.cfa = 4 then 0 else 2 * (y % 2) + x % 2

def sampleAt (p : PipeIn) (e x y : Nat) : Nat := ((p.exps.getD e []).getD y []).getD x 0

/-- R635: decompanding. -/
def decompand (c : CamCtx) (x : Nat) : Nat :=
  let i := ((List.range 32).find? fun i => decide (c.dx.getD i 0 ≤ x ∧ x ≤ c.dx.getD (i + 1) 0)).getD 31
  let x0 := c.dx.getD i 0
  let x1 := c.dx.getD (i + 1) 0
  let y0 := c.dy.getD i 0
  let y1 := c.dy.getD (i + 1) 0
  if x1 ≤ x0 then y0 else y0 + (2 * ((y1 - y0) * (x - x0)) + (x1 - x0)) / (2 * (x1 - x0))

/-- R636: the merged value M. -/
def mergePx (p : PipeIn) (x y : Nat) : Int :=
  let c := p.ctx
  let v (e : Nat) : Int := decompand c (sampleAt p e x y)
  let u (e : Nat) : Int :=
    if e = 0 then v 0
    else ((v e - (c.ped.getD e 0 : Int)) * (c.ratio.getD e 0 : Int) + 128) / 256 + (c.ped.getD 0 0 : Int)
  let b := c.blendLog2
  let step (m : Int) (e : Nat) : Int :=
    let k : Int := c.knee.getD (e - 1) 0
    let w : Int := if v (e - 1) ≤ k then 0 else if k + (2 ^ b : Nat) ≤ v (e - 1) then 256
      else (v (e - 1) - k) / ((2 ^ (b - 8) : Nat) : Int)
    ((256 - w) * m + w * u e + 128) / 256
  let m : Int := if p.partialMerge then u 0 else ((List.range (c.exposures - 1)).map (· + 1)).foldl step (u 0)
  let h := c.mergeShift
  let m' := if h = 0 then m else (m + (2 ^ (h - 1) : Nat)) / ((2 ^ h : Nat) : Int)
  let sat := p.partialMerge && decide (((c.knee.getD 0 0 : Nat) : Int) + (2 ^ b : Nat) ≤ v 0)
  if sat then 1048575 else clampI 0 1048575 m'

/-- R637: black level, signed. -/
def blackPx (p : PipeIn) (x y : Nat) : Int :=
  let c := p.ctx
  let k := if p.gain = 0xFFFFFFFF then 0 else
    (List.range c.bands.length).foldl (fun acc i => if (c.bands.getD i default).1 ≤ p.gain then i else acc) 0
  mergePx p x y - (((c.bands.getD k default).2.getD (camPhase c x y) 0 : Nat) : Int)

/-- The grid cell and fraction of R638 along one axis of `n` pixels with `k` cells. -/
def gridCell (k n x : Nat) : Nat × Nat :=
  if n ≤ 1 then (0, 0)
  else
    let i := min (k - 1) (k * x / (n - 1))
    (i, 4096 * (k * x - i * (n - 1)) / (n - 1))

def shadeG (c : CamCtx) (ph j i : Nat) : Nat :=
  match c.shading with
  | none => 4096
  | some t => t.getD (ph * 825 + j * 33 + i) 4096

/-- R638: the shading gain and the shaded value p. -/
def shadePx (p : PipeIn) (x y : Nat) : Int :=
  let c := p.ctx
  let ph := camPhase c x y
  let ci := gridCell 32 p.w x
  let cj := gridCell 24 p.h y
  let i := ci.1
  let fx := ci.2
  let j := cj.1
  let fy := cj.2
  let g : Nat := (shadeG c ph j i * (4096 - fx) * (4096 - fy) + shadeG c ph j (i + 1) * fx * (4096 - fy) +
    shadeG c ph (j + 1) i * (4096 - fx) * fy + shadeG c ph (j + 1) (i + 1) * fx * fy + 2 ^ 23) / 2 ^ 24
  clampI 0 1048575 ((blackPx p x y * (g : Int) + 2048) / 4096)

/-- Reading a stage at a reflected position (R634). -/
def atRefl (p : PipeIn) (f : Nat → Nat → Int) (x y : Int) : Int := f (reflect p.w x) (reflect p.h y)

/-- R639: defects. -/
def defectPx (p : PipeIn) (x y : Nat) : Int :=
  let t : Int := p.ctx.thresh
  let v := shadePx p x y
  if t = 0 then v
  else
    let s : Int := if p.ctx.cfa = 4 then 1 else 2
    let ns := [(s, 0), (-s, 0), (0, s), (0, -s), (s, s), (s, -s), (-s, s), (-s, -s)].map fun d =>
      atRefl p (shadePx p) ((x : Int) + d.1) ((y : Int) + d.2)
    let hi := ns.foldl max (ns.headD 0)
    let lo := ns.foldl min (ns.headD 0)
    if hi + t < v then hi else if v < lo - t then lo else v

/-- The colour at a site: 0 red, 1 green, 2 blue (CFA orders of R631). -/
def siteColour (c : CamCtx) (x y : Nat) : Nat :=
  let ph := 2 * (y % 2) + x % 2
  match c.cfa with
  | 0 => [0, 1, 1, 2].getD ph 1
  | 1 => [1, 0, 2, 1].getD ph 1
  | 2 => [1, 2, 0, 1].getD ph 1
  | 3 => [2, 1, 1, 0].getD ph 1
  | _ => 1

/-- R640, step 1: Ĝ at a site. -/
def greenAt (p : PipeIn) (x y : Nat) : Int :=
  let q (dx dy : Int) : Int := atRefl p (defectPx p) ((x : Int) + dx) ((y : Int) + dy)
  if siteColour p.ctx x y = 1 then q 0 0
  else
    let dH : Int := ((q (-1) 0 - q 1 0).natAbs + (2 * q 0 0 - q (-2) 0 - q 2 0).natAbs : Nat)
    let dV : Int := ((q 0 (-1) - q 0 1).natAbs + (2 * q 0 0 - q 0 (-2) - q 0 2).natAbs : Nat)
    let gH := 2 * (q (-1) 0 + q 1 0) + 2 * q 0 0 - q (-2) 0 - q 2 0
    let gV := 2 * (q 0 (-1) + q 0 1) + 2 * q 0 0 - q 0 (-2) - q 0 2
    if dH < dV then (gH + 2) / 4 else if dV < dH then (gV + 2) / 4 else (gH + gV + 4) / 8

def clamp20 (x : Int) : Int := clampI 0 1048575 x

/-- R640: R, G, B of a pixel. -/
def demosaic (p : PipeIn) (x y : Nat) : List Int :=
  if p.ctx.cfa = 4 then let q := defectPx p x y; [q, q, q]
  else
    let g := greenAt p x y
    let diff (dx dy : Int) : Int :=
      let xx := reflect p.w ((x : Int) + dx)
      let yy := reflect p.h ((y : Int) + dy)
      defectPx p xx yy - greenAt p xx yy
    let own := siteColour p.ctx x y
    let col (c : Nat) : Int :=
      if c = 1 then g
      else if own = c then defectPx p x y
      else if own = 1 then
        if siteColour p.ctx (x + 1) y = c then g + (diff (-1) 0 + diff 1 0 + 1) / 2 else g + (diff 0 (-1) + diff 0 1 + 1) / 2
      else g + (diff (-1) (-1) + diff 1 (-1) + diff (-1) 1 + diff 1 1 + 2) / 4
    [clamp20 (col 0), clamp20 (col 1), clamp20 (col 2)]

/-- R641: the colour matrix. -/
def matrixPx (p : PipeIn) (x y : Nat) : List Int :=
  let v := demosaic p x y
  (List.range 3).map fun r =>
    clamp20 (((List.range 3).foldl (fun a c => a + p.ctx.matrix.getD (3 * r + c) 0 * v.getD c 0) 0 + 2048) / 4096 +
      p.ctx.offset.getD r 0)

/-- R642: luma. -/
def luma (v : List Int) : Int := (77 * v.getD 0 0 + 150 * v.getD 1 0 + 29 * v.getD 2 0 + 128) / 256

/-- R643: gamma. -/
def gammaOf (c : CamCtx) (v : Int) : Nat :=
  let n := v.toNat
  let i := n / 4096
  let f := n % 4096
  let t0 := c.gamma.getD i 0
  t0 + ((c.gamma.getD (i + 1) 0 - t0) * f + 2048) / 4096

def code8 (v : Nat) : Nat := min 255 ((v + 128) / 256)

/-- R644: one output pixel's bytes. -/
def outPixel (p : PipeIn) (x y : Nat) : List Byte :=
  let v := matrixPx p x y
  match p.ctx.format with
  | 0 => v.flatMap fun a => leBytes 2 (gammaOf p.ctx a)
  | 1 => v.map fun a => b8 (code8 (gammaOf p.ctx a))
  | 2 => leBytes 2 (gammaOf p.ctx (luma v))
  | _ => [b8 (code8 (gammaOf p.ctx (luma v)))]

/-- R631: the crop, clipped to the frame: first column, first row, columns, rows. -/
def cropOf (p : PipeIn) : Nat × Nat × Nat × Nat :=
  let x := min (p.ctx.crop.getD 0 0) p.w
  let y := min (p.ctx.crop.getD 1 0) p.h
  let w := p.ctx.crop.getD 2 0
  let h := p.ctx.crop.getD 3 0
  (x, y, if w = 0 then p.w - x else min w (p.w - x), if h = 0 then p.h - y else min h (p.h - y))

/-- R644: the output rows. -/
def outRows (p : PipeIn) : List (List Byte) :=
  let c := cropOf p
  (List.range c.2.2.2).map fun r => (List.range c.2.2.1).flatMap fun k => outPixel p (c.1 + k) (c.2.1 + r)

/-- R645: the tap rows: the TAP byte of the chunk header, the pixels per row, and the row. -/
def tapRows (p : PipeIn) : List (Nat × Nat × List Byte) :=
  let row (f : Nat → List Byte) : List Byte := (List.range p.w).flatMap f
  let c16 (v : Int) : List Byte := leBytes 2 (min 65535 ((v + 8) / 16).toNat)
  match p.ctx.tapPoint with
  | 1 => (List.range p.ctx.exposures).flatMap fun e => (List.range p.h).map fun y =>
      (1 + 4 * e, p.w, row fun x => leBytes 2 (sampleAt p e x y))
  | 2 => (List.range p.h).map fun y => (2, p.w, row fun x => c16 (mergePx p x y))
  | 3 => (List.range p.h).map fun y => (3, p.w, row fun x => (demosaic p x y).flatMap c16)
  | _ => []

/-- Every pixel of the frame, row by row. -/
def allPx (p : PipeIn) : List (Nat × Nat) :=
  (List.range p.h).flatMap fun y => (List.range p.w).map fun x => (x, y)

/-- R646: the 13,568-byte body of a statistics chunk (R655). -/
def statsBody (p : PipeIn) : List Byte :=
  let px := allPx p
  let lumas := px.map fun q => (luma (matrixPx p q.1 q.2)).toNat / 4096
  let hist := (List.range 256).flatMap fun b => leBytes 4 (lumas.filter fun l => l == b).length
  let cell (cx cy : Nat) : List Byte :=
    let inCell := px.filter fun q =>
      decide (cx * p.w / 32 ≤ q.1 ∧ q.1 < (cx + 1) * p.w / 32 ∧ cy * p.h / 24 ≤ q.2 ∧ q.2 < (cy + 1) * p.h / 24)
    let vals := (inCell.map fun q => (if p.ctx.cfa = 4 then 1 else siteColour p.ctx q.1 q.2, shadePx p q.1 q.2)).filter
      fun v => decide (v.2 ≤ (p.ctx.awbSat : Int))
    let mean (c : Nat) : Nat :=
      let l := (vals.filter fun v => v.1 == c).map Prod.snd
      if l.isEmpty then 0 else ((2 * l.sum + (l.length : Int)) / (2 * (l.length : Int))).toNat
    leBytes 4 (mean 0) ++ leBytes 4 (mean 1) ++ leBytes 4 (mean 2) ++ leBytes 4 vals.length
  let grid := (List.range 24).flatMap fun cy => (List.range 32).flatMap fun cx => cell cx cy
  let green (x y : Nat) : Int := (demosaic p x y).getD 1 0
  let win (v : List Nat) : List Byte :=
    let x := v.getD 0 0
    let y := v.getD 1 0
    let w := v.getD 2 0
    let h := v.getD 3 0
    if w = 0 || h = 0 then List.replicate 16 0#8
    else
      let ps := px.filter fun q => decide (x ≤ q.1 ∧ q.1 < x + w ∧ y ≤ q.2 ∧ q.2 < y + h ∧
        1 ≤ q.1 ∧ q.1 + 1 < p.w ∧ 1 ≤ q.2 ∧ q.2 + 1 < p.h)
      let sharp := (ps.map fun q =>
        (green (q.1 + 1) q.2 - green (q.1 - 1) q.2).natAbs + (green q.1 (q.2 + 1) - green q.1 (q.2 - 1)).natAbs).sum
      leBytes 8 sharp ++ leBytes 4 ps.length ++ leBytes 4 0
  hist ++ grid ++ p.ctx.windows.flatMap win

end Sys2Proof.Machine
end

