-- ==== Sys2Proof/Machine/Camera.lean ====
section
/-! DEFINITION. The area cameras: receivers and frames (R613 to R620), the buffers (R621 to R625), the pipeline's units
(R626 to R628), contexts (R630 to R633), sensor settings (R647 to R651), delivery (R652 to R655), starting, switching
and stopping (R656 to R659) and RPT.CAM_EVENT (R660, R661). -/

namespace Sys2Proof.Machine

def camRx (s : State) (n : Nat) : CamRx := vget s.cam.rx n
def modRx (n : Nat) (f : CamRx → CamRx) (s : State) : State := { s with cam := { s.cam with rx := vmod s.cam.rx n f } }
def camCtx (s : State) (k : Nat) : CamCtx := vget s.cam.ctx k

/-- R613, R659: a receiver runs: its camera is declared and DP_CLK runs. -/
def rxRuns (s : State) (n : Nat) : Bool := decide (n < 2) && (dCamera? s n).isSome && dpClk s

def camW (s : State) (n : Nat) : Nat := ((dCamera? s n).map DCamera.width).getD 0
def camH (s : State) (n : Nat) : Nat := ((dCamera? s n).map DCamera.height).getD 0

/-! ### Counts and RPT.CAM_EVENT (R660, R661) -/

def countCam (n : Nat) (f : CamCounts → CamCounts) (s : State) : State :=
  modRx n (fun r => { r with counts := f r.counts }) s

def camEvent (n event frame : Nat) (s : State) : State :=
  let c := (camRx s n).counts
  let sat (v : Nat) : Nat := min v 65535
  let pair (a b : Nat) : Nat := sat a + sat b * 65536
  fwReport 0x0090 [n + fld event 8 8 + fld (camRx s n).ctx 16 8, frame, pair c.dropped c.frameShort,
    pair c.frameLong c.rowShort, pair c.rowLong c.rowCrc, pair c.eccFixed c.eccBad, pair c.stray c.tapSkipped, lastAdm s] s

/-- R661: the window of 64 frame numbers before `number` ends. -/
def camWindow (n number : Nat) (s : State) : State :=
  let t := if (camRx s n).counts == {} then s else camEvent n 1 ((number + 2 ^ 32 - 64) % 2 ^ 32) s
  modRx n (fun r => { r with counts := {} }) t

/-- The packet header's ECC (R615): counted. -/
def countEcc (n ecc : Nat) (s : State) : State :=
  match ecc with
  | 0 => s
  | 1 => countCam n (fun c => { c with eccFixed := c.eccFixed + 1 }) s
  | _ => countCam n (fun c => { c with eccBad := c.eccBad + 1 }) s

/-! ### The pipeline (R626 to R628, R645) -/

/-- Units of a frame: 1, or its stripes. -/
def unitsOf (f : CamFrame) (w : Nat) : Nat :=
  match f.stripe with
  | none => 1
  | some px => max 1 (ceilDiv w (max px 1))

/-- R627: a receiver has a ready unit. -/
def unitReady (s : State) (n : Nat) : Bool :=
  let r := camRx s n
  match r.inputs with
  | [] => false
  | f :: _ => decide (0 < f.units) || decide ((r.outQ.filter fun o => o.cause == 0).length < 2)

/-- R645: when a frame's first unit begins, the tap is decided. -/
def beginUnit (n : Nat) (s : State) : State :=
  let t := { s with cam := { s.cam with unit := some n, lastServed := n } }
  match (camRx s n).inputs with
  | [] => s
  | f :: fs =>
    if f.units != 0 then t
    else
      let c := camCtx s f.ctx
      let tap := c.tapPoint != 0 && f.number % max c.tapDecimate 1 == 0 && !(camRx s n).tapBusy
      let f' := { f with tapped := tap, flags := f.flags ||| (if tap then 0 else 512) }
      let t' := modRx n (fun r => { r with inputs := f' :: fs, tapBusy := r.tapBusy || tap }) t
      if tap then t' else countCam n (fun k => { k with tapSkipped := k.tapSkipped + 1 }) t'

/-- R627: an idle pipeline begins a ready unit of the receiver served less recently, or of the other. -/
def camPump (s : State) : State :=
  if s.cam.unit.isSome || !dpClk s then s
  else
    let a := 1 - s.cam.lastServed
    if unitReady s a then beginUnit a s
    else if unitReady s (1 - a) then beginUnit (1 - a) s
    else s

/-- A frame through the stages (R634 to R646). -/
def pipeIn (c : CamCtx) (w h : Nat) (f : CamFrame) : PipeIn :=
  { ctx := c, w := w, h := h, exps := f.exps.map CamExp.rows, partialMerge := bit f.flags 5, gain := f.gainVal }

/-- A finished frame, waiting for delivery. -/
def camOutput (c : CamCtx) (w h : Nat) (f : CamFrame) : CamOut :=
  let p := pipeIn c w h f
  let crop := cropOf p
  { number := f.number, issueNs := f.issueNs, ctx := f.ctx, seq := f.seq, line := f.line, flags := f.flags,
    format := c.format, rowPx := crop.2.2.1, exposureVal := f.exposureVal, gainVal := f.gainVal, cause := 0,
    firstRow := crop.2.1, rows := outRows p, taps := if f.tapped then tapRows p else [], stats := statsBody p,
    rowsDone := 0, tapsDone := 0, chunk := 0, tapChunk := 0 }

/-- R652: frames are delivered in ascending frame number. -/
def insertOut (o : CamOut) : List CamOut → List CamOut
  | [] => [o]
  | p :: ps => if p.number ≤ o.number then p :: insertOut o ps else o :: p :: ps

/-- PIPELINE_UNIT_END (R627). -/
def execPipelineUnitEnd (s : State) : Host.Outcome State Fault Refusal :=
  settled <| match s.cam.unit with
  | none => s
  | some n =>
    match (camRx s n).inputs with
    | [] => s
    | f :: fs =>
      if !dpClk s then s
      else
        let t := { s with cam := { s.cam with unit := none } }
        if f.units + 1 < unitsOf f (camW s n) then
          camPump (modRx n (fun r => { r with inputs := { f with units := f.units + 1 } :: fs }) t)
        else
          let o := camOutput (camCtx s f.ctx) (camW s n) (camH s n) f
          camPump (modRx n (fun r => { r with inputs := fs, outQ := insertOut o r.outQ }) t)

/-! ### Frames (R616 to R620, R623, R624) -/

/-- R652: a dropped frame leaves one drop chunk, and is counted. -/
def dropFrame (n cause : Nat) (f : CamFrame) (s : State) : State :=
  let o : CamOut :=
    { number := f.number, issueNs := f.issueNs, ctx := f.ctx, seq := f.seq, line := f.line,
      flags := f.flags, format := 255, rowPx := 0, exposureVal := f.exposureVal, gainVal := f.gainVal, cause := cause,
      firstRow := 0, rows := [], taps := [], stats := [], rowsDone := 0, tapsDone := 0, chunk := 0, tapChunk := 0 }
  countCam n (fun c => { c with dropped := c.dropped + 1 })
    (modRx n (fun r => { r with outQ := insertOut o r.outQ }) s)

/-- R619: an exposure filled to the frame's height with copies of its last row of the same CFA phase; a phase that has
no row at all reads as a free value. -/
def fillRows (mono : Bool) (w h free : Nat) (rows : List (List Nat)) : List (List Nat) :=
  let n := rows.length
  (List.range h).map fun r =>
    if r < n then rows.getD r []
    else
      let k := if mono then n else if (n + r) % 2 = 0 then n - 1 else n
      let src := if mono then k - 1 else if (n + r) % 2 = 0 then n - 2 else n - 1
      let ok := if mono then decide (1 ≤ n) else if (n + r) % 2 = 0 then decide (2 ≤ n) else decide (1 ≤ n)
      if ok then rows.getD src [] else List.replicate w (free % 65536)

/-- R617 to R620: the frame within which the receiver is ends: it is complete, or dropped as empty. -/
def closeFrame (n : Nat) (s : State) : State :=
  let r := camRx s n
  match r.cur with
  | none => s
  | some f =>
    let t := modRx n (fun r => { r with cur := none }) s
    if f.dropped then t
    else if ((f.exps.head?.map CamExp.rows).getD []).isEmpty then dropFrame n 3 f t
    else
      let h := camH s n
      let c := camCtx s f.ctx
      let short := f.exps.any fun e => e.begun && decide (e.rows.length < h)
      let part := (f.exps.drop 1).any fun e => e.rows.isEmpty
      let free := takeFree t
      let exps := f.exps.map fun e => { e with ended := true, rows := fillRows (c.cfa == 4) (camW s n) h free.1 e.rows }
      let f' := { f with exps := exps, flags := f.flags ||| (if short then 4 else 0) ||| (if part then 32 else 0) }
      let u := countCam n (fun k => { k with frameShort := k.frameShort + (if short then 1 else 0),
                                             frameLong := k.frameLong + (if bit f.flags 3 then 1 else 0) })
        (modRx n (fun r => { r with inputs := r.inputs ++ [f'] }) free.2)
      camPump u

def Busy.isCamStop (n : Nat) : Busy → Bool
  | .camStop m => n == m
  | _ => false

/-- R658: the receiver's acceptance ends: RPT.CAM_EVENT, and CAM.STOP's reply. -/
def stopReceiver (n : Nat) (s : State) : State :=
  let t := modRx n (fun r => { r with armed := false, stopping := false, switch := none }) s
  let u := camEvent n 3 (camRx s n).number t
  endUrgBusy (Busy.isCamStop n) stOk 0 [] (endBusy (Busy.isCamStop n) stOk 0 [] u)

/-- The frame ends, and with it the acceptance of a receiver that is stopping. -/
def endFrame (n : Nat) (s : State) : State :=
  let t := closeFrame n s
  if (camRx t n).stopping && (camRx t n).cur.isNone then stopReceiver n t else t

/-! ### Sensor settings (R647 to R651) -/

/-- The deferred command of a setting. -/
def isSetting (n frame : Nat) (gain : Bool) (d : Deferred) : Bool :=
  match d.act with
  | .camSensor rx f g _ => rx == n && f == frame && g == gain
  | _ => false

/-- The declared latency of a kind. -/
def latency (s : State) (n : Nat) (gain : Bool) : Nat :=
  match dCamera? s n with
  | some c => if gain then c.gainLatency else c.expLatency
  | none => 0

/-- R647: the bytes of the transaction, by the context in force at the moment of writing. -/
def sensorBytes (s : State) (w : CamWrite) : List Byte :=
  let c := camCtx s (camRx s w.rx).ctx
  let addr := ((dCamera? s w.rx).map DCamera.i2cAddr).getD 0
  let reg := if w.gain then c.gainReg else c.expReg
  let n := if w.gain then c.gainBytes else c.expBytes
  b8 (2 * addr) :: ((leBytes c.regAddrBytes reg).reverse ++ (leBytes n w.value).reverse)

/-- The first write in order begins when the controller is free. -/
def busPump (s : State) : State :=
  match s.cam.bus with
  | [] => s
  | w :: ws =>
    if w.tries != 0 then s
    else { emit (.sensorWrite w.rx (sensorBytes s w)) s with cam := { s.cam with bus := { w with tries := 1 } :: ws } }

/-- The setting that a write carries is still pending. -/
def writePending (s : State) (w : CamWrite) : Bool :=
  (camRx s w.rx).settings.any fun x => x.gain == w.gain && x.frame == w.frame && !x.ended

/-- R649: a setting fails: its command completes with ST_STATE, frames are flagged, and SENSOR_WRITE_FAIL reported. -/
def failSetting (n : Nat) (x : CamSetting) (s : State) : State :=
  let t := modRx n (fun r =>
    let r' := { r with settings := r.settings.filter fun y => !(y.gain == x.gain && y.frame == x.frame) }
    if x.gain then { r' with gainFail := some (min x.frame (r.gainFail.getD x.frame)) }
    else { r' with expFail := some (min x.frame (r.expFail.getD x.frame)) }) s
  camEvent n 2 x.frame (endDeferred (isSetting n x.frame x.gain) stState 0 0xFFFFFFFF t)

/-- R648, R649, R651: what a pending setting does at the Frame Start of frame `f`. -/
def settingAt (n f : Nat) (s : State) (x : CamSetting) : State :=
  let l := latency s n x.gain
  if !x.ended && decide (x.frame ≤ f + l) then failSetting n x s
  else if x.ended && decide (x.frame ≤ f) then
    let t := modRx n (fun r =>
      let r' := { r with settings := r.settings.filter fun y => !(y.gain == x.gain && y.frame == x.frame) }
      if x.gain then { r' with gainInForce := x.value, gainFail := none }
      else { r' with expInForce := x.value, expFail := none }) s
    endDeferred (isSetting n x.frame x.gain) stOk 0 0xFFFFFFFF t
  else if !x.started && decide (x.frame ≤ f + 1 + l) then
    let t := modRx n (fun r => { r with settings := r.settings.map fun y =>
      if y.gain == x.gain && y.frame == x.frame then { y with started := true } else y }) s
    busPump { t with cam := { t.cam with bus := t.cam.bus ++
      [{ rx := n, gain := x.gain, frame := x.frame, value := x.value, tries := 0 }] } }
  else s

/-- SENSOR_WRITE_END (R647): the transaction on the bus completes, or ends with a NACK or an over-long stretch. -/
def execSensorWriteEnd (ok : Bool) (s : State) : Host.Outcome State Fault Refusal :=
  settled <| match s.cam.bus with
  | [] => s
  | w :: ws =>
    if w.tries = 0 || !dpClk s then s
    else
      let popped := { s with cam := { s.cam with bus := ws } }
      if ok then
        busPump (modRx w.rx (fun r => { r with settings := r.settings.map fun y =>
          if y.gain == w.gain && y.frame == w.frame then { y with ended := true } else y }) popped)
      else if !writePending s w then busPump popped
      else if w.tries < 3 then
        { emit (.sensorWrite w.rx (sensorBytes s w)) s with
          cam := { s.cam with bus := { w with tries := w.tries + 1 } :: ws } }
      else
        let gone := (camRx s w.rx).settings.filter fun y => y.gain == w.gain && y.frame == w.frame
        busPump (gone.foldl (fun t x => failSetting w.rx x t) popped)

/-! ### Packets (R615 to R618) -/

/-- The exposure that a virtual channel carries in a context. -/
def vcExposure (c : CamCtx) (vc : Nat) : Option Nat := (List.range c.exposures).find? fun e => c.vc.getD e 0 == vc

/-- The context by which a receiver reads packets: that of its frame, or the one bound. -/
def rxCtx (s : State) (n : Nat) : CamCtx :=
  match (camRx s n).cur with
  | some f => camCtx s f.ctx
  | none => camCtx s (camRx s n).ctx

/-- R616, R617, R623, R626: an accepted Frame Start on VC[0]. -/
def openFrame (n : Nat) (s : State) : State :=
  let num := ((camRx s n).number + 1) % 2 ^ 32
  let a := if num % 64 = 0 then camWindow n num s else s
  let b := modRx n (fun r => { r with number := num, lastFrame := some num }) a
  let c := match (camRx b n).switch with
    | some (k, st, fs) => if fs ≤ num then modRx n (fun r => { r with ctx := k, stripe := st, switch := none }) b else b
    | none => b
  let d := (camRx c n).settings.foldl (settingAt n num) c
  let r := camRx d n
  let ctx := camCtx d r.ctx
  let failed := (match r.expFail with | some f => decide (f ≤ num) | none => false) ||
    (match r.gainFail with | some f => decide (f ≤ num) | none => false)
  let full := decide (2 ≤ r.inputs.length)
  let f : CamFrame :=
    { number := num, issueNs := sysNs d, openedAt := d.localNs, ctx := r.ctx, seq := ctx.seq, stripe := r.stripe,
      line := if d.line.st = .capturing then lastAdm d else 0xFFFFFFFF,
      flags := flag failed 6 + flag r.stripe.isSome 8,
      exps := (List.range ctx.exposures).map fun e => { begun := e == 0, ended := false, rows := [] },
      dropped := full, units := 0, tapped := false, exposureVal := r.expInForce, gainVal := r.gainInForce }
  let t := modRx n (fun r => { r with cur := some f }) d
  if full then dropFrame n 1 f t else t

/-- FRAME_START (R616, R617). -/
def execFrameStart (rx vc ecc : Nat) (s : State) : Host.Outcome State Fault Refusal :=
  settled <|
    if !rxRuns s rx || (camRx s rx).ulps then s
    else
      let t := countEcc rx ecc s
      if 2 ≤ ecc || !(camRx t rx).armed then t
      else
        match vcExposure (rxCtx t rx) vc with
        | none => t
        | some 0 =>
          let u := endFrame rx t
          if (camRx u rx).armed then openFrame rx u else u
        | some e =>
          modRx rx (fun r => { r with cur := r.cur.map fun f =>
            { f with exps := f.exps.mapIdx fun i x => if i = e && !x.begun then { x with begun := true } else x } }) t

/-- FRAME_END (R617). -/
def execFrameEnd (rx vc ecc : Nat) (s : State) : Host.Outcome State Fault Refusal :=
  settled <|
    if !rxRuns s rx || (camRx s rx).ulps then s
    else
      let t := countEcc rx ecc s
      if 2 ≤ ecc then t
      else
        match (camRx t rx).cur, vcExposure (rxCtx t rx) vc with
        | some f, some e =>
          let f' := { f with exps := f.exps.mapIdx fun i x => if i = e && x.begun then { x with ended := true } else x }
          let u := modRx rx (fun r => { r with cur := some f' }) t
          if f'.exps.all CamExp.ended then endFrame rx u else u
        | _, _ => t

/-- FRAME_TIMEOUT (R617): the frame's open exposures end. -/
def execFrameTimeout (rx : Nat) (s : State) : Host.Outcome State Fault Refusal :=
  settled <| match (camRx s rx).cur with
  | some f =>
    if rxRuns s rx && decide (f.openedAt + (camCtx s f.ctx).timeoutMs * 1000000 ≤ s.localNs) then endFrame rx s else s
  | none => s

/-- R613: the CSI-2 data type of a sample width. -/
def rawType (b : Nat) : Nat :=
  match b with
  | 8 => 0x2A
  | 10 => 0x2B
  | 12 => 0x2C
  | 14 => 0x2D
  | _ => 0x2E

/-- R614, R618: the aligned row, padded or cut to the width. -/
def alignRow (mono : Bool) (b w n free : Nat) (samples : List Nat) : List Nat :=
  let got := (List.range n).map fun i => (samples.getD i 0 % 2 ^ b) * 2 ^ (16 - b)
  let src (i : Nat) : Option Nat :=
    if i < n then some i
    else if mono then (if n = 0 then none else some (n - 1))
    else if (n + i) % 2 = 0 then (if n < 2 then none else some (n - 2)) else (if n < 1 then none else some (n - 1))
  (List.range w).map fun i => match src i with
    | some k => got.getD k 0
    | none => free % 65536

/-- R618, R619: a row taken into an open exposure of the frame. -/
def takeRow (n e : Nat) (f : CamFrame) (wc : Nat) (samples : List Nat) (crcOk : Bool) (s : State) : State :=
  let b := ((dCamera? s n).map DCamera.bits).getD 16
  let w := camW s n
  let have_ := wc * 8 / b
  let whole := wc * 8 % b == 0
  let short := !whole || decide (have_ < w)
  let long := whole && decide (w < have_)
  let bad := whole && !crcOk
  let free := takeFree s
  let mono := (camCtx s f.ctx).cfa == 4
  let put (x : CamExp) : CamExp × Bool :=
    if !whole then (x, false)
    else if camH s n ≤ x.rows.length then (x, true)
    else
      let r := x.rows.length
      let row := if bad then (if r < 2 then List.replicate w 0 else x.rows.getD (r - 2) [])
        else alignRow mono b w have_ free.1 samples
      ({ x with rows := x.rows ++ [row] }, false)
  let overs := ((f.exps[e]?).map fun x => (put x).2).getD false
  let f' := { f with
    exps := f.exps.mapIdx fun i x => if i = e then (put x).1 else x
    flags := f.flags ||| (if short then 1 else 0) ||| (if long then 2 else 0) ||| (if overs then 8 else 0) |||
      (if bad then 16 else 0) }
  let t := modRx n (fun r => { r with cur := some f' }) free.2
  countCam n (fun c => { c with
    rowShort := c.rowShort + (if short then 1 else 0)
    rowLong := c.rowLong + (if long then 1 else 0)
    rowCrc := c.rowCrc + (if bad then 1 else 0) }) t

/-- CAMERA_ROW (R615, R618). -/
def execCameraRow (rx vc dt wc : Nat) (samples : List Nat) (crcOk : Bool) (ecc : Nat) (s : State) :
    Host.Outcome State Fault Refusal :=
  settled <|
    if !rxRuns s rx || (camRx s rx).ulps then s
    else
      let t := countEcc rx ecc s
      let b := ((dCamera? s rx).map DCamera.bits).getD 16
      if 2 ≤ ecc || dt != rawType b then t
      else
        match vcExposure (rxCtx t rx) vc with
        | none => t
        | some e =>
          let stray := countCam rx (fun c => { c with stray := c.stray + 1 }) t
          match (camRx t rx).cur with
          | none => stray
          | some f =>
            if f.dropped then t
            else
              match f.exps[e]? with
              | some x => if x.begun && !x.ended then takeRow rx e f wc samples crcOk t else stray
              | none => stray

/-- INPUT_FIFO_OVERFLOW (R624): the frame within which the receiver is, is dropped. -/
def execInputFifoOverflow (rx : Nat) (s : State) : Host.Outcome State Fault Refusal :=
  settled <| match (camRx s rx).cur with
  | some f =>
    if f.dropped || !rxRuns s rx then s
    else
      let f' := { f with dropped := true, exps := f.exps.map fun x => { x with rows := [] } }
      dropFrame rx 2 f' (modRx rx (fun r => { r with cur := some f' }) s)
  | none => s

/-- CSI_DESKEW (R613): the deskew sequence is acted on whenever it is received. -/
def execCsiDeskew (rx : Nat) (s : State) : Host.Outcome State Fault Refusal :=
  settled (if rxRuns s rx then modRx rx (fun r => { r with deskews := r.deskews + 1 }) s else s)

/-- CSI_ULPS (R613): the ultra-low-power state is entered and left on the lanes' request. -/
def execCsiUlps (rx : Nat) (enter : Bool) (s : State) : Host.Outcome State Fault Refusal :=
  settled (if rxRuns s rx then modRx rx (fun r => { r with ulps := enter }) s else s)

/-! ### Delivery (R652 to R655) -/

/-- R653: the 64-byte header of a chunk. -/
def chunkHeader (o : CamOut) (bytes kind flags first rows rowPx fmt tap cause chunk : Nat) : List Byte :=
  let h := leBytes 4 bytes ++ [b8 kind, b8 o.ctx] ++ leBytes 2 flags ++ leBytes 4 o.number ++ leBytes 4 first ++
    leBytes 4 rows ++ leBytes 2 rowPx ++ [b8 fmt, b8 tap] ++ leBytes 8 o.issueNs ++ leBytes 4 o.exposureVal ++
    leBytes 4 o.gainVal ++ leBytes 4 o.seq ++ [b8 cause, 0#8] ++ leBytes 2 chunk ++ leBytes 4 o.line ++
    List.replicate 8 0#8
  h ++ wordBytes (crc32 h)

/-- Whole rows of the list that fit into a number of bytes. -/
def rowsFit (room : Nat) : List (List Byte) → List (List Byte)
  | [] => []
  | r :: rs => if r.length ≤ room then r :: rowsFit (room - r.length) rs else []

/-- The next chunk of a frame for a buffer of `len` bytes: none where the buffer cannot hold it; the chunk's bytes, the
frame after it, and whether it was the frame's last. -/
def nextChunk (o : CamOut) (len : Nat) : Option (List Byte × CamOut × Bool) :=
  if o.cause != 0 then
    if len < 64 then none
    else some (chunkHeader o 64 4 (o.flags ||| 128) 0 0 0 255 0 o.cause 0, o, true)
  else if o.rowsDone < o.rows.length then
    let fit := if len < 64 then [] else rowsFit (len - 64) (o.rows.drop o.rowsDone)
    if fit.isEmpty then none
    else
      let body := fit.flatten
      some (chunkHeader o (64 + body.length) 1 o.flags (o.firstRow + o.rowsDone) fit.length o.rowPx o.format 0 0 o.chunk ++
        body, { o with rowsDone := o.rowsDone + fit.length, chunk := o.chunk + 1 }, false)
  else
    match o.taps.drop o.tapsDone with
    | t :: ts =>
      let same := (t :: ts).takeWhile fun x => x.1 == t.1
      let fit := if len < 64 then [] else rowsFit (len - 64) (same.map fun x => x.2.2)
      if fit.isEmpty then none
      else
        let body := fit.flatten
        let first := ((o.taps.take o.tapsDone).filter fun x => x.1 == t.1).length
        some (chunkHeader o (64 + body.length) 2 o.flags first fit.length t.2.1 255 t.1 0 o.tapChunk ++ body,
          { o with tapsDone := o.tapsDone + fit.length, tapChunk := o.tapChunk + 1 }, false)
    | [] =>
      if len < 64 + o.stats.length then none
      else some (chunkHeader o (64 + o.stats.length) 3 (o.flags ||| 128) 0 0 0 255 0 0 0 ++ o.stats, o, true)

/-- The frame whose chunks come next on a receiver's stream: the oldest, once no earlier frame is still in the
pipeline. -/
def deliverable (s : State) (n : Nat) : Option CamOut :=
  match (camRx s n).outQ with
  | [] => none
  | o :: _ => if (camRx s n).inputs.any fun f => decide (f.number < o.number) then none else some o

/-! ### Contexts (R630 to R633) -/

/-- R633: a context is running. -/
def ctxRunning (s : State) (k : Nat) : Bool :=
  (List.range 2).any fun n =>
    let r := camRx s n
    (r.armed && r.ctx == k) || (match r.switch with | some (c, _, _) => c == k | none => false) ||
      (match r.cur with | some f => f.ctx == k | none => false) || r.inputs.any fun f => f.ctx == k

/-- R630: the sections of a payload: number and body, with whether the padding bytes are zero. None: the list is cut. -/
def camSections : Nat → List Byte → Option (List (Nat × List Byte) × Bool)
  | 0, _ => none
  | n + 1, bs =>
    if bs.isEmpty then some ([], true)
    else if bs.length < 4 then none
    else
      let len := uAt bs 2 2
      let pad := ceilDiv len 4 * 4
      if bs.length < 4 + pad then none
      else
        match camSections n (bs.drop (4 + pad)) with
        | none => none
        | some (rest, z) =>
          let tail := (bs.drop (4 + len)).take (pad - len)
          some ((uAt bs 0 2, (bs.drop 4).take len) :: rest, z && tail.all fun b => b == 0#8)

/-- R631: the length of a section's body. -/
def sectionLen : Nat → Option Nat
  | 1 => some 8 | 2 => some 8 | 3 => some 264 | 4 => some 32 | 5 => some 84 | 6 => some 6600 | 7 => some 4
  | 8 => some 32 | 9 => some 516 | 10 => some 12 | 11 => some 132
  | _ => none

/-- The reserved bytes of a section: offset and length. -/
def sectionReserved : Nat → List (Nat × Nat)
  | 1 => [(5, 1)]
  | 2 => [(3, 1)]
  | 4 => [(18, 2), (30, 2)]
  | 5 => [(1, 3)]
  | 8 => [(18, 2)]
  | 9 => [(514, 2)]
  | _ => []

def uList (b : List Byte) (o size n : Nat) : List Nat := (List.range n).map fun i => uAt b (o + size * i) size
def sList (b : List Byte) (o size n : Nat) : List Int := (List.range n).map fun i => sAt b (o + size * i) size

def ascending : List Nat → Bool
  | a :: b :: l => decide (a < b) && ascending (b :: l)
  | _ => true

def nonDecreasing : List Nat → Bool
  | a :: b :: l => decide (a ≤ b) && nonDecreasing (b :: l)
  | _ => true

def within (lo hi x : Nat) : Bool := decide (lo ≤ x ∧ x ≤ hi)

/-- R631: the part of the context a section replaces; none where a field breaks its range. -/
def putSection (c : CamCtx) (id : Nat) (b : List Byte) : Option CamCtx :=
  let m20 := 1048575
  match id with
  | 1 =>
    let e := uAt b 0 1
    let vc := uList b 1 1 3
    let used := vc.take e
    if within 1 3 e && vc.all (within 0 3) && used.eraseDups.length == used.length && within 0 4 (uAt b 4 1) &&
        within 1 10000 (uAt b 6 2) then
      some { c with exposures := e, vc := vc, cfa := uAt b 4 1, timeoutMs := uAt b 6 2 }
    else none
  | 2 =>
    if within 1 2 (uAt b 0 1) && within 1 4 (uAt b 1 1) && within 1 4 (uAt b 2 1) then
      some { c with regAddrBytes := uAt b 0 1, expBytes := uAt b 1 1, gainBytes := uAt b 2 1, expReg := uAt b 4 2,
                    gainReg := uAt b 6 2 }
    else none
  | 3 =>
    let x := uList b 0 4 33
    let y := uList b 132 4 33
    if x.getD 0 0 == 0 && x.getD 32 0 == 65535 && ascending x && nonDecreasing y && y.all (within 0 m20) then
      some { c with dx := x, dy := y }
    else none
  | 4 =>
    let ped := uList b 0 4 3
    let ratio := uList b 12 2 3
    let knee := uList b 20 4 2
    if ped.all (within 0 m20) && knee.all (within 0 m20) && (ratio.drop 1).all (within 256 65535) &&
        within 8 19 (uAt b 28 1) && within 0 8 (uAt b 29 1) then
      some { c with ped := ped, ratio := ratio, knee := knee, blendLog2 := uAt b 28 1, mergeShift := uAt b 29 1 }
    else none
  | 5 =>
    let n := uAt b 0 1
    let bands := (List.range 4).map fun i => (uAt b (4 + 20 * i) 4, uList b (8 + 20 * i) 4 4)
    let used := bands.take n
    if within 1 4 n && (used.headD default).1 == 0 && ascending (used.map Prod.fst) &&
        bands.all (fun k => k.2.all (within 0 m20)) then
      some { c with bands := used }
    else none
  | 6 => some { c with shading := some (uList b 0 2 3300) }
  | 7 => if within 0 m20 (uAt b 0 4) then some { c with thresh := uAt b 0 4 } else none
  | 8 =>
    let off := sList b 20 4 3
    if off.all fun o => decide (o.natAbs ≤ m20) then some { c with matrix := sList b 0 2 9, offset := off } else none
  | 9 =>
    let t := uList b 0 2 257
    if nonDecreasing t then some { c with gamma := t } else none
  | 10 =>
    if within 0 3 (uAt b 0 1) && within 0 3 (uAt b 1 1) && within 1 65535 (uAt b 2 2) then
      some { c with format := uAt b 0 1, tapPoint := uAt b 1 1, tapDecimate := uAt b 2 2, crop := uList b 4 2 4 }
    else none
  | 11 => some { c with awbSat := uAt b 0 4, windows := (List.range 16).map fun i => uList b (4 + 8 * i) 2 4 }
  | _ => none

/-- Every section put in turn. -/
def putSections : CamCtx → List (Nat × List Byte) → Option CamCtx
  | c, [] => some c
  | c, (id, b) :: l =>
    match putSection c id b with
    | none => none
    | some c' => putSections c' l

/-- R163, R630: the data's sections checked: the context they make, or the detail that refuses them. -/
def camParse (ctx : CamCtx) (data : List Byte) : Nat ⊕ CamCtx :=
  match camSections (data.length + 1) data with
  | none => .inl 0
  | some (l, padZero) =>
    let ids := l.map Prod.fst
    if !(l.all fun x => sectionLen x.1 == some x.2.length) || ids.eraseDups.length != ids.length then .inl 0
    else if !padZero || !(l.all fun x => (sectionReserved x.1).all fun r => uAt x.2 r.1 r.2 == 0) then .inl 4
    else match putSections ctx l with
      | none => .inl 0
      | some c => .inr c

/-- R630: the whole command, on the data inline or uploaded, where the verb is legal. -/
def camConfigure (k : Nat) (data : List Byte) (legal : Check) (s : State) : Ans × State :=
  match camParse (camCtx s k) data with
  | .inl e => refuse stBadArg e s
  | .inr c =>
    checked [legal] s (done [] { s with cam := { s.cam with ctx := vset s.cam.ctx k { c with seq := (c.seq + 1) % 2 ^ 32 } } })

/-- CAM.CONFIG (R630). The state rules stand before the descriptors of an upload are consumed. -/
def vCamConfig (c : Cmd) (s : State) : Ans × State :=
  let k := objIdx c.req.obj
  let legal := firstFail [declared s, need (!ctxRunning s k) stState 0]
  if modBit c 0 then
    checked [objIs [kContext] c s, modsIn 1 c, shape uploadFields c, legal] s <|
      match upload 0 c s with
      | (.inl e, t) => refuse e.1 e.2 t
      | (.inr data, t) => camConfigure k data none t
  else
    checked [objIs [kContext] c s, modsIn 1 c] s (camConfigure k c.req.payload legal s)

/-! ### Starting, switching, stopping (R656 to R659) -/

/-- CAM.START (R656, R657, R629). -/
def vCamStart (c : Cmd) (s : State) : Ans × State :=
  let n := objIdx c.req.obj
  let k := pu c 0 1
  let px := pu c 2 2
  let stripes := modBit c 0
  let other := camRx s (1 - n)
  let taken := (other.armed && other.ctx == k) || (match other.switch with | some (x, _, _) => x == k | none => false)
  let stripe := if stripes then some px else none
  checked [objIs [kCamera] c s, modsIn 1 c, shape [.u 1, .u 2] c, need (decide (k < 4)) stBadArg 0,
      need (!stripes || within 64 2048 px) stBadArg 0, need (stripes || decide (camW s n ≤ 8192)) stBadArg 0, declared s,
      need (!taken) stBusy 0] s <|
    let r := camRx s n
    if r.armed then
      let fs := r.settings.foldl (fun m x => max m x.frame) (r.number + 1)
      done [] (modRx n (fun r => { r with switch := some (k, stripe, fs) }) s)
    else
      done [] (modRx n (fun r => { r with
        armed := true, stopping := false, ctx := k, stripe := stripe, switch := none, lastFrame := none
        expInForce := 0xFFFFFFFF, gainInForce := 0xFFFFFFFF, expFail := none, gainFail := none }) s)

/-- R658: pending switches are cancelled and pending settings aborted. A write that waits for the bus is not made; the one on the bus
ends by itself. -/
def cancelSettings (n : Nat) (s : State) : State :=
  let t := modRx n (fun r => { r with switch := none, settings := [] }) s
  let t := { t with cam := { t.cam with bus := t.cam.bus.filter fun w => w.rx != n || w.tries != 0 } }
  endDeferred (fun d => match d.act with | .camSensor rx _ _ _ => rx == n | _ => false) stState 0x0100 0xFFFFFFFF t

/-- CAM.STOP (R658). -/
def vCamStop (c : Cmd) (s : State) : Ans × State :=
  let n := objIdx c.req.obj
  checked [objIs [kCamera] c s, modsIn 0 c, noPayload c, declared s] s <|
    if !(camRx s n).armed then done [] s
    else
      let t := cancelSettings n s
      if (camRx t n).cur.isSome then (.wait (.camStop n), modRx n (fun r => { r with stopping := true }) t)
      else done [] (stopReceiver n t)

/-- CAM.SENSOR (R648, R650). -/
def vCamSensor (c : Cmd) (s : State) : Ans × State :=
  let n := objIdx c.req.obj
  let f := pu c 0 4
  let gain := pu c 4 1 == 1
  let v := pu c 8 4
  let r := camRx s n
  let l := latency s n gain
  let least : Nat := match r.lastFrame with
    | some k => k + l + 2
    | none => l + 1
  checked [objIs [kCamera] c s, modsIn 0 c, shape [.u 4, .u 1, .u 4] c,
      need (decide (pu c 4 1 < 2)) stBadArg 0, need (decide (least ≤ f)) stBadArg 0, need r.armed stState 0] s <|
    let t := endDeferred (isSetting n f gain) stState 0 0xFFFFFFFF s
    let a := deferCmd c (.camSensor n f gain v) t
    match a.1 with
    | .reply 9 _ _ =>
      (a.1, modRx n (fun r => { r with settings := (r.settings.filter fun x => !(x.gain == gain && x.frame == f)) ++
        [{ gain := gain, frame := f, value := v, started := false, ended := false }] }) a.2)
    | _ => a

/-- R659: an accepted declaration whose record for the receiver differs from the one it replaces, or removes it. -/
def camRedeclared (n : Nat) (s : State) : State :=
  let t := if (camRx s n).armed then stopReceiver n (cancelSettings n s) else s
  let u := modRx n (fun r => { r with cur := none, inputs := [], outQ := [], tapBusy := false, number := 0,
                                      lastFrame := none, counts := {} }) t
  camPump (if u.cam.unit = some n then { u with cam := { u.cam with unit := none } } else u)

end Sys2Proof.Machine
end

