-- ==== Sys2Proof/Machine/Correct.lean ====
section
/-! DEFINITION. The line corrections, stages 2 to 7 (R291 to R312), exact on integers: pure functions of a segment's
samples, its tables and the parameters of the line. -/

namespace Sys2Proof.Machine

/-- One pixel's samples: red, green, blue. -/
abbrev Px := Nat × Nat × Nat

def pxC (p : Px) (c : Nat) : Nat := if c = 0 then p.1 else if c = 1 then p.2.1 else p.2.2

/-- What the corrections of one segment's line read. -/
structure SegIn where
  par : LinePar
  sp : SegPar
  tab : SegTables
  /-- PIXELS. -/
  n : Nat
  /-- R297: the exposure ratio in 1/256. -/
  ratio : Nat
  /-- EXP_SET. -/
  expSet : Nat
  /-- The long readout, when usable. -/
  long : Option (List Px)
  /-- The short readout, when usable. -/
  short : Option (List Px)

def sampleOf (l : List Px) (j c : Nat) : Nat := pxC (l.getD j (0, 0, 0)) c

/-- R293: stage 2. -/
def linearise (t : Option (List Nat)) (x : Nat) : Nat :=
  match t with
  | none => x
  | some l =>
    let at_ (i : Nat) : Int := if i < 4096 then (l.getD i 0 : Nat) else 2 * ((l.getD 4095 0 : Nat) : Int) - ((l.getD 4094 0 : Nat) : Int)
    let i := x / 16
    let f : Int := (x % 16 : Nat)
    (clampI 0 65535 (at_ i + ((at_ (i + 1) - at_ i) * f + 8) / 16)).toNat

/-- R293, R294: the linearised sample y. -/
def linOf (q : SegIn) (l : List Px) (j c : Nat) : Nat :=
  if q.sp.linBypass then sampleOf l j c else linearise (q.tab.lin.map fun t => t.getD c []) (sampleOf l j c)

/-- R317: the main-table word; neutral: GAIN 16,384. -/
def mainWord (q : SegIn) (j c : Nat) : Nat :=
  match q.tab.main with
  | some l => l.getD (3 * j + c) 0x04000000
  | none => 0x04000000

def darkLong (q : SegIn) (j c : Nat) : Int := if q.sp.darkEnable then signed 12 (mainWord q j c % 4096) else 0
def darkShort (q : SegIn) (j c : Nat) : Int :=
  if q.sp.darkEnable then (match q.tab.short with | some l => l.getD (3 * j + c) 0 | none => 0) else 0
def gainOf (q : SegIn) (j c : Nat) : Nat := bits (mainWord q j c) 12 16
def classOf (q : SegIn) (j c : Nat) : Nat := if q.sp.defectEnable then bits (mainWord q j c) 28 4 else 0

/-- R295: stage 3, in 1/16 LSB. -/
def stage3L (q : SegIn) (l : List Px) (j c : Nat) : Int := 16 * (linOf q l j c : Int) - 16 * darkLong q j c
def stage3S (q : SegIn) (l : List Px) (j c : Nat) : Int := 16 * (linOf q l j c : Int) - darkShort q j c

/-- Saturation to W (R291). -/
def satW (x : Int) : Int := clampI (-8388608) 8388607 x

/-- R299: the shift. -/
def mergeShift (q : SegIn) (m : Int) : Int :=
  let h := q.par.mergeShift
  satW (if h = 0 then m else (m + (2 ^ (h - 1) : Nat)) / ((2 ^ h : Nat) : Int))

/-- R297: the scaled short value. -/
def scaleShort (q : SegIn) (s : Int) : Int := (s * (q.ratio : Int) + 128) / 256

/-- R298, R306: the blend weight. -/
def blendWeight (q : SegIn) (j c xL : Nat) (l : Int) : Int :=
  let k := classOf q j c
  if k = 6 then 256
  else if k = 7 then 0
  else if q.sp.longSat ≤ xL then 256
  else if l ≤ 16 * (q.sp.mergeKnee : Int) then 0
  else min 256 ((l - 16 * (q.sp.mergeKnee : Int)) / ((2 ^ (q.sp.blendLog2 - 4) : Nat) : Int))

/-- Stage 4 (R296 to R306): the merged value, and whether the pixel is marked (R303). None: the segment has no usable
readout. -/
def stage4 (q : SegIn) (j c : Nat) : Option (Int × Bool) :=
  if q.expSet = 3 then
    match q.long, q.short with
    | some xl, some xs =>
      let l := stage3L q xl j c
      let t := scaleShort q (stage3S q xs j c)
      let m0 : Int :=
        if q.par.mergeMode = 1 then l
        else if q.par.mergeMode = 2 then t
        else
          let w := blendWeight q j c (sampleOf xl j c) l
          ((256 - w) * l + w * t + 128) / 256
      some (mergeShift q m0, false)
    | some xl, none => some (mergeShift q (stage3L q xl j c), decide (q.sp.longSat ≤ sampleOf xl j c))
    | none, some xs => some (mergeShift q (scaleShort q (stage3S q xs j c)), false)
    | none, none => none
  else if q.expSet = 1 then q.long.map fun xl => (stage3L q xl j c, false)
  else q.short.map fun xs => (stage3S q xs j c, false)

/-- R302: the line's merge is partial. -/
def mergePartial (q : SegIn) : Bool := q.expSet == 3 && q.long.isSome != q.short.isSome

/-- Stage 5 (R307). -/
def stage5 (q : SegIn) (j c : Nat) (m : Int) : Int :=
  if q.sp.shadingEnable then satW ((m * (gainOf q j c : Int) + 8192) / 16384) else m

/-- R319: the listed run that covers a pixel: FIRST and length. -/
def runOf (q : SegIn) (j c : Nat) : Option (Nat × Nat) :=
  match q.tab.defects with
  | none => none
  | some t =>
    ((t.getD c []).map fun e => (bits e 0 14, bits e 14 4 + 1)).find? fun r => decide (r.1 ≤ j ∧ j < r.1 + r.2)

/-- R308, R309 class 3. -/
def repairPair (n : Nat) (p : List Int) (j : Nat) : Int :=
  if j = 0 then p.getD 1 0
  else if j + 1 = n then p.getD (j - 1) 0
  else (p.getD (j - 1) 0 + p.getD (j + 1) 0 + 1) / 2

/-- Stage 6 (R308 to R311), on the stage-5 values of one colour. -/
def stage6 (q : SegIn) (p : List Int) (j c : Nat) : Int :=
  let n := q.n
  let own := p.getD j 0
  -- A listed run repairs its pixels of class 5 only (R311).
  let k := classOf q j c
  match if k != 5 && (runOf q j c).isSome then 0 else k with
  | 1 => if j = 0 then p.getD 1 0 else p.getD (j - 1) 0
  | 2 => if j + 1 = n then p.getD (n - 2) 0 else p.getD (j + 1) 0
  | 3 => repairPair n p j
  | 4 =>
    if j < 2 then p.getD (j + 2) 0
    else if n ≤ j + 2 then p.getD (j - 2) 0
    else (p.getD (j - 2) 0 + p.getD (j + 2) 0 + 1) / 2
  | 5 =>
    match runOf q j c with
    | none => repairPair n p j
    | some (f, len) =>
      let a := p.getD (f - 1) 0
      let b := p.getD (f + len) 0
      let k : Int := ((j - f + 1 : Nat) : Int)
      a + roundHalfUp ((b - a) * k) (len + 1)
  | _ => own

/-- Stage 7 (R312, R303). -/
def stage7 (q : SegIn) (marked : Bool) (p : Int) : Nat :=
  if marked then q.par.clipHigh else (clampI q.par.clipLow q.par.clipHigh ((p + 8) / 16)).toNat

/-- Stage 4's outputs of one colour. -/
def mergedPlane (q : SegIn) (c : Nat) : List (Int × Bool) :=
  (List.range q.n).map fun j => (stage4 q j c).getD (0, false)

/-- Stage 5's outputs of one colour. -/
def shadedPlane (q : SegIn) (c : Nat) : List Int := (mergedPlane q c).mapIdx fun j m => stage5 q j c m.1

/-- Stage 7's outputs of one colour. -/
def outputPlane (q : SegIn) (c : Nat) : List Nat :=
  let m := mergedPlane q c
  let p := m.mapIdx fun j v => stage5 q j c v.1
  m.mapIdx fun j v => stage7 q v.2 (stage6 q p j c)

/-- R297: the ratio in force. -/
def ratioOf (d : DSegment) (p : SegPar) : Nat :=
  if p.mergeRatio = 0 then (2 * 256 * expL d p + expS d p) / (2 * max 1 (expS d p)) else p.mergeRatio

end Sys2Proof.Machine
end

