-- ==== Sys2Proof/Machine/Geometry.lean ====
section
/-! DEFINITION. What firmware derives from a declaration: positions, offsets and spans (R202, R209, R316, R365), output
width and line bytes (R380, R384), the areas of DRAM (R376, R377, R394, R395, R621), the load (R379), the grid's units
(R364, R570), ramps' distances and the seam reserves (R425 to R427). -/

namespace Sys2Proof.Machine

/-- R202: P(n). -/
def pPos (segs : List DSegment) : Nat → Nat
  | 0 => 0
  | n + 1 => let g := segs.getD n default; pPos segs n + g.pixels - g.overlapNext

/-- R316: Q(n). -/
def qPos (segs : List DSegment) (n : Nat) : Nat := ((segs.take n).map DSegment.pixels).sum

/-- R202: the stitched width W_s. -/
def stitchedWidth (segs : List DSegment) : Nat :=
  pPos segs (segs.length - 1) + ((segs.getLast?).map DSegment.pixels).getD 0

/-- R209: U of a distance in nm. -/
def unitsOfNm (dpi : Nat) (nm : Int) : Int := (2 * nm * 256 * dpi + 25400000) / 50800000

/-- R203: the nm of a colour line. -/
def colourNm (d : Decl) (c : Nat) : Int := if c = 0 then d.redNm else if c = 2 then d.blueNm else 0

/-- R209, R365: the offset O(s, c). -/
def chanOffset (d : Decl) (s c : Nat) : Int :=
  unitsOfNm d.system.nativeDpi (d.segments.getD s default).feedOffsetNm +
    (if c = 1 then 0 else unitsOfNm d.system.nativeDpi (colourNm d c))

def allOffsets (d : Decl) : List Int :=
  (List.range d.segments.length).flatMap fun s => (List.range 3).map fun c => chanOffset d s c

def oMin (d : Decl) : Int := (allOffsets d).foldl min (chanOffset d 0 0)
def oMax (d : Decl) : Int := (allOffsets d).foldl max (chanOffset d 0 0)

/-- R365: the span S. -/
def spanOf (d : Decl) : Nat := (oMax d - oMin d).toNat

/-- R366: the margin m. -/
def marginOf (d : Decl) : Nat := if d.geometry.nativeOnly then 0 else if d.geometry.cubic then 2 else 1

/-- R380: the output width M. -/
def outPixels (d : Decl) : Nat :=
  let w := if d.geometry.outWidth = 0 then stitchedWidth d.segments - d.geometry.outFirst else d.geometry.outWidth
  w * d.geometry.outDpi / max 1 d.system.nativeDpi

/-- R384: bytes per pixel of a format. -/
def formatBytes : Nat → Nat
  | 0 => 6 | 1 => 3 | 2 => 6 | 3 => 3 | _ => 2

/-- R379: B_out. -/
def lineBytes (d : Decl) : Nat := outPixels d * formatBytes d.geometry.format

/-- R376: D, and the delay line's bytes. -/
def delaySlots (d : Decl) : Nat := ceilDiv (spanOf d) (max 1 d.geometry.capPitch) + 24
def delayBytes (d : Decl) : Nat := delaySlots d * (6 * qPos d.segments d.segments.length)

/-- R377: usable DRAM in bytes. -/
def usableDram (d : Decl) : Nat :=
  let b := d.dram.sizeGib * 2 ^ 30
  if d.dram.ecc then b / 8 * 7 else b

/-- R621: the camera area. -/
def cameraArea (d : Decl) : Nat :=
  (d.cameras.map fun p => ceilDiv (30 * p.2.width * p.2.height + 1048576) 1048576 * 1048576).sum

def mib (n : Nat) : Nat := ceilDiv n 1048576

/-- R394, R395: the number of line slots R. -/
def ringSlots (d : Decl) : Nat :=
  let used := 6 + mib (delayBytes d) + 64 + 16 + 2 + mib (cameraArea d)
  let slot := ceilDiv (64 + lineBytes d) 256 * 256
  (usableDram d - used * 1048576) / slot

/-- R211: the readout rate of a segment at the declared exposure, in lines/s. -/
def readoutRate (d : Decl) (g : DSegment) : Rat :=
  (120000000 : Rat) / (g.clkDiv * (g.pixels + g.overhead) * (if d.geometry.dual then 2 else 1) : Nat)

def slowestRate (d : Decl) : Rat :=
  (d.segments.map (readoutRate d)).foldl min (readoutRate d (d.segments.getD 0 default))

/-- R211: a feed speed in capture lines per second. -/
def speedRate (d : Decl) (um : Nat) : Rat :=
  ((um * 256 * d.system.nativeDpi : Nat) : Rat) / (25400 * d.geometry.capPitch : Nat)

/-- R379: F. -/
def captureRate (d : Decl) : Rat :=
  if d.system.scan then speedRate d (d.speeds.getLast?.getD 0) else slowestRate d

/-- R379: F_out. -/
def outRate (d : Decl) : Rat := captureRate d * (d.geometry.capPitch : Nat) / (d.geometry.outPitch : Nat)

/-- R379: the load L in bytes per second. -/
def dramLoad (d : Decl) : Rat :=
  let tau : Nat := if d.geometry.nativeOnly then 1 else if d.geometry.cubic then 4 else 2
  let slot : Nat := 6 * qPos d.segments d.segments.length
  (slot : Rat) * captureRate d + ((tau * slot : Nat) : Rat) * outRate d + ((2 * lineBytes d : Nat) : Rat) * outRate d

/-- R379: the allowance. -/
def dramAllowance (d : Decl) : Rat :=
  ((8 * d.dram.rateMt * 1000000 * (if d.dram.ecc then 70 else 80) : Nat) : Rat) / 100

/-! ### Units of the feed (R364, R425) -/

/-- COUNTS_PER_IN of the feed encoder, as its raw 24.8 value K. -/
def feedK (d : Decl) : Nat := ((assoc d.encoders d.system.feedEncoder).map DEncoder.countsPerIn).getD 1

/-- R364: a position of `c` counts beyond C₀, in units. -/
def unitsOfCounts (d : Decl) (c : Int) : Int :=
  (2 * c * 256 * d.system.nativeDpi * 256 + feedK d) / (2 * (feedK d : Int))

/-- R364: a compare position of 2^-32 counts beyond C₀, in units. -/
def unitsOfFixed (d : Decl) (g : Int) : Int :=
  (2 * g * 65536 * d.system.nativeDpi + feedK d * 4294967296) / (2 * (feedK d : Int) * 4294967296)

/-- R370: units beyond C₀ in counts. -/
def countsOfUnits (d : Decl) (y : Int) : Int :=
  let den : Int := (65536 * d.system.nativeDpi : Nat)
  (2 * y * feedK d + den) / (2 * den)

/-- R570: the compare pitch Π. -/
def comparePitch (d : Decl) : Nat := d.geometry.capPitch * feedK d * 65536 / max 1 d.system.nativeDpi

/-- COUNTS_PER_STEP of the feed axis, raw 16.16. -/
def feedCps (d : Decl) : Nat := ((assoc d.axes d.system.feedAxis).map DAxis.countsPerStep).getD 1

/-- R425: u_s, the units in one step. -/
def unitsPerStep (d : Decl) : Rat := ((d.system.nativeDpi * feedCps d : Nat) : Rat) / (feedK d : Nat)

/-- R425: the distance in steps of a change between `low` and `v` through a lower rate below V_BREAK and a higher one
above it, rounded up. -/
def rampDistance (v low brk rLow rHigh : Nat) : Nat :=
  let q (a b r : Nat) : Rat := if b ≤ a then ((a * a - b * b : Nat) : Rat) / (2 * r : Nat) else 0
  if v ≤ low then 0
  else if v ≤ brk then (q v low rLow).ceil.toNat
  else (q v brk rHigh + q brk low rLow).ceil.toNat

/-- R566: the speed of index `k` in steps/s. -/
def feedStepsPerS (d : Decl) (k : Nat) : Nat :=
  let num := d.speeds.getD k 0 * feedK d * 256
  let den := 25400 * feedCps d
  if den = 0 then 0 else (2 * num + den) / (2 * den)

def dFeedAxis (d : Decl) : DAxis := (assoc d.axes d.system.feedAxis).getD default

/-- R425: the stop distance from the top speed, and the acceleration distance to the speed of index 0. -/
def stopDistance (d : Decl) : Nat :=
  let a := dFeedAxis d
  rampDistance (feedStepsPerS d (d.speeds.length - 1)) a.vStop a.vBreak a.d1 a.d2
def accDistance (d : Decl) : Nat :=
  let a := dFeedAxis d
  rampDistance (feedStepsPerS d 0) a.vStart a.vBreak a.a1 a.a2

/-- R426: the stop reserve. -/
def stopReserve (d : Decl) : Nat :=
  if d.system.scan then ((stopDistance d : Rat) * unitsPerStep d / (d.geometry.outPitch : Nat)).ceil.toNat + 2 else 0

/-- R398: the occupancy limit outside the stop ramp. -/
def slotLimit (d : Decl) : Nat := ringSlots d - stopReserve d

/-- R428: check 4 of R214 passes. -/
def seamReserveOk (d : Decl) : Bool :=
  if d.system.scan then decide (stopReserve d + d.system.joinLines + 64 ≤ ringSlots d) else decide (64 ≤ ringSlots d)

/-- R420: r_k in output lines per second. -/
def paceRate (d : Decl) (k : Nat) : Rat :=
  ((d.speeds.getD k 0 * 256 * d.system.nativeDpi : Nat) : Rat) / (25400 * d.geometry.outPitch : Nat)

end Sys2Proof.Machine
end

