-- ==== Sys2Proof/Machine/Achromat.lean ====
section
/-! DEFINITION. Stages 8 to 10 as pure functions: the cubic kernel (R348), sub-pixel placement (R349), the cross-fade
(R353 to R355), a channel's captures and value (R366 to R372), the registered line (R368) and the across-bar resampler
with its formats (R380 to R384). -/

namespace Sys2Proof.Machine

/-! ### The cubic kernel (R348) -/

/-- The weights k₋₁, k₀, k₁, k₂ at phase `f` of `p`. -/
def cubicWeights (p f : Nat) : List Int :=
  let u : Int := f
  let q : Int := p
  let den : Nat := 2 * p ^ 3
  let a := roundHalfUp (4096 * (-u ^ 3 + 2 * u ^ 2 * q - u * q ^ 2)) den
  let b := roundHalfUp (4096 * (-3 * u ^ 3 + 4 * u ^ 2 * q + u * q ^ 2)) den
  let c := roundHalfUp (4096 * (u ^ 3 - u ^ 2 * q)) den
  [a, 4096 - a - b - c, b, c]

/-- The kernel applied to four values. -/
def cubicApply (p f : Nat) (x : List Int) : Nat :=
  let z := (List.zipWith (· * ·) (cubicWeights p f) x).foldl (· + ·) 0
  (clampI 0 65535 ((z + 2048) / 4096)).toNat

/-! ### Stage 8 (R346 to R355) -/

/-- R349: the placed value of pixel `j` of a strip. -/
def placed (shift : Int) (x : List Nat) (j : Nat) : Nat :=
  let v64 : Int := 64 * (j : Int) - shift
  let j0 := v64 / 64
  let f := (v64 % 64).toNat
  let at_ (i : Int) : Int := (x.getD (clampI 0 ((x.length : Int) - 1) i).toNat 0 : Nat)
  cubicApply 64 f [at_ (j0 - 1), at_ j0, at_ (j0 + 1), at_ (j0 + 2)]

/-- R353, R354: the weight of segment `k` at overlap column `i` of its join with the next, in 1/32,768. -/
def joinWeight (weights : Option (List Nat)) (segs : List DSegment) (k c i : Nat) : Nat :=
  let v := (segs.getD k default).overlapNext
  let derived := (2 * 32768 * (v - i) + (v + 1)) / (2 * (v + 1))
  match weights with
  | none => derived
  | some w => let e := w.getD (2048 * k + 256 * c + i) 0xFFFF; if e = 0xFFFF then derived else e

/-- R354, R355: the weight that segment `s` takes at its pixel `j`; none outside overlap columns. -/
def stripWeight (weights : Option (List Nat)) (segs : List DSegment) (s c j : Nat) : Option Nat :=
  let g := segs.getD s default
  let vPrev := if s = 0 then 0 else (segs.getD (s - 1) default).overlapNext
  if j < vPrev then some (32768 - joinWeight weights segs (s - 1) c j)
  else if g.pixels - g.overlapNext ≤ j && 0 < g.overlapNext && s + 1 < segs.length then
    some (joinWeight weights segs s c (j - (g.pixels - g.overlapNext)))
  else none

/-- R346: the strip of one colour. -/
def stage8 (weights : Option (List Nat)) (segs : List DSegment) (s c : Nat) (shift : Int) (x : List Nat) : List Nat :=
  (List.range x.length).map fun j =>
    let p := placed shift x j
    match stripWeight weights segs s c j with
    | some w => (w * p + 16384) / 32768
    | none => p

/-! ### The captures a channel reads (R366 to R372) -/

/-- A stored capture as the Achromat sees it: grid index, X_i in units, and whether it is present. -/
structure GridCap where
  index : Nat
  x : Int
  present : Bool
  deriving DecidableEq, Repr, Inhabited

/-- What a channel takes for an output line. -/
inductive ChanTake where
  /-- Not every capture named has been written or classed missing. -/
  | wait
  /-- The captures read, with their values' combination: linear between two, cubic over four, or one copied. -/
  | one (i : Nat)
  | linear (i k : Nat) (phase : Nat)
  | cubic (i : Nat) (phase : Nat)
  /-- The line is not formed: the first missing capture the channel needed. -/
  | gap (missing : Nat)
  deriving DecidableEq, Repr, Inhabited

/-- A channel's answer, with the missing capture it bridged (R371) and whether it crosses a stretch (R372). -/
structure ChanRead where
  take : ChanTake
  bridged : Bool
  stretch : Bool
  deriving DecidableEq, Repr, Inhabited

def waitRead : ChanRead := { take := .wait, bridged := false, stretch := false }
def gapRead (i : Nat) : ChanRead := { take := .gap i, bridged := false, stretch := false }

/-- The stored captures of the delay line and how missing ones are treated. -/
structure Grid where
  /-- First index of the delay line (R373). -/
  first : Nat
  /-- Indices below it have been stored or classed missing. -/
  stored : Nat
  /-- No further capture will come (R374). -/
  ended : Bool
  caps : List GridCap
  bridgeMax : Nat
  /-- R430: a missing capture of these indices is not bridged; the seam keeper takes it. -/
  hold : Nat → Bool

def gridAt (g : Grid) (i : Nat) : Option GridCap := g.caps.find? fun c => c.index == i
def present (g : Grid) (i : Nat) : Bool := match gridAt g i with | some c => c.present | none => false

/-- The run of missing indices that holds `i`: its bounds, and whether its upper end is settled. -/
def missingRun (g : Grid) (i : Nat) : Nat × Nat × Bool :=
  let lo := ((g.caps.filter fun c => c.present && decide (c.index < i)).map fun c => c.index + 1).foldl max g.first
  match (g.caps.filter fun c => c.present && decide (i < c.index)).head? with
  | some c => (lo, c.index, true)
  | none => (lo, g.stored, g.ended)

/-- R371: how a missing capture is treated: bridged, a gap, or not yet settled. -/
inductive Miss where
  | bridge | gap | wait
  deriving DecidableEq, Repr

def missTreat (g : Grid) (i : Nat) : Miss :=
  let r := missingRun g i
  if (List.range (r.2.1 - r.1)).any fun k => g.hold (r.1 + k) then .wait
  else if g.bridgeMax < r.2.1 - r.1 || g.bridgeMax = 0 then .gap
  else if r.2.2 then .bridge else .wait

/-- The present capture nearest below index `i` (R371), and the nearest above. -/
def presentBelow (g : Grid) (i : Nat) : Option Nat :=
  ((g.caps.filter fun c => c.present && decide (c.index < i)).getLast?).map GridCap.index
def presentAbove (g : Grid) (i : Nat) : Option Nat :=
  ((g.caps.filter fun c => c.present && decide (i < c.index)).head?).map GridCap.index

/-- R367, R371: native only. -/
def readNative (g : Grid) (i : Nat) : ChanRead :=
  if g.stored ≤ i then waitRead
  else if present g i then { take := .one i, bridged := false, stretch := false }
  else match missTreat g i with
    | .wait => waitRead
    | .gap => gapRead i
    | .bridge =>
      match presentBelow g i, presentAbove g i with
      | some a, _ => { take := .one a, bridged := true, stretch := false }
      | none, some b => { take := .one b, bridged := true, stretch := false }
      | none, none => waitRead

/-- R367: φ of T between X_a and X_b, in 1/256. -/
def phaseOf (t xa xb : Int) : Nat := ((2 * 256 * (t - xa) + (xb - xa)) / (2 * (xb - xa))).toNat

/-- R367, R371: linear between two present captures, or the one where φ falls on an end. -/
def linearRead (a b : GridCap) (t : Int) (bridged stretch : Bool) : ChanRead :=
  let f := phaseOf t a.x b.x
  { take := if 256 ≤ f then .one b.index else .linear a.index b.index f, bridged := bridged, stretch := stretch }

/-- R367, R369, R371, R372: interpolated. -/
def readInterp (g : Grid) (cubic : Bool) (pitch : Nat) (t : Int) : ChanRead :=
  let below := (g.caps.filter fun c => c.present && decide (c.x ≤ t)).getLast?
  let above := (g.caps.filter fun c => c.present && decide (t < c.x)).head?
  match below, above with
  | _, none =>
    -- every capture beyond the target that has been stored is missing
    let i := match below with | some a => a.index + 1 | none => g.first
    if (g.caps.any fun c => !c.present && decide (t < c.x)) && missTreat g i == .gap then gapRead i else waitRead
  | none, some b =>
    -- the delay line begins with missing captures, or beyond the target
    let r := missingRun g b.index
    if g.first < b.index && (missTreat g (b.index - 1) == .wait || missTreat g (b.index - 1) == .gap) then
      (if missTreat g (b.index - 1) == .gap then gapRead r.1 else waitRead)
    else { take := .one b.index, bridged := true, stretch := false }
  | some a, some b =>
    let stretch := decide (2 * (pitch : Int) < b.x - a.x)
    if a.index + 1 < b.index then
      match missTreat g (a.index + 1) with
      | .wait => waitRead
      | .gap => gapRead (a.index + 1)
      | .bridge => linearRead a b t true stretch
    else if !cubic then linearRead a b t false stretch
    else
      -- φ = 256 advances i by one
      let full := decide (256 ≤ phaseOf t a.x b.x)
      let i := if full then b.index else a.index
      let f := if full then 0 else phaseOf t a.x b.x
      let need := [i - 1, i + 1, i + 2].filter fun k => decide (g.first ≤ k)
      if need.any fun k => decide (g.stored ≤ k) then waitRead
      else match need.find? fun k => !present g k with
        | none =>
          if g.first < i then { take := .cubic i f, bridged := false, stretch := stretch }
          else linearRead a b t true stretch
        | some k =>
          match (need.filter fun k => !present g k).map (missTreat g) with
          | l => if l.contains .wait then waitRead
                 else if l.contains .gap then gapRead k
                 else linearRead a b t true stretch

/-- The grid indices whose captures a channel read. -/
def readIndices : ChanTake → List Nat
  | .one i => [i]
  | .linear i k _ => [i, k]
  | .cubic i _ => [i - 1, i, i + 1, i + 2]
  | _ => []

/-- R367: a column's value from the stored values of a channel at grid indices. -/
def chanValue (at_ : Nat → Nat) : ChanTake → Nat
  | .one i => at_ i
  | .linear i k f => ((256 - f) * at_ i + f * at_ k + 128) / 256
  | .cubic i f => cubicApply 256 f [(at_ (i - 1) : Nat), (at_ i : Nat), (at_ (i + 1) : Nat), (at_ (i + 2) : Nat)]
  | _ => 0

/-! ### The registered line (R368) -/

/-- The segments that cover a stitched column. -/
def covering (segs : List DSegment) (x : Nat) : List Nat :=
  (List.range segs.length).filter fun s => decide (pPos segs s ≤ x ∧ x < pPos segs s + (segs.getD s default).pixels)

/-- R368: one plane of the registered line from the channels' strips. -/
def registered (segs : List DSegment) (chan : Nat → List Nat) : List Nat :=
  (List.range (stitchedWidth segs)).map fun x =>
    min 65535 (((covering segs x).map fun s => (chan s).getD (x - pPos segs s) 0).sum)

/-! ### Across-bar resampling (R380 to R383) -/

/-- R381: A. -/
def preAverage (dpi out : Nat) : Nat := if dpi ≤ 4 * out then 1 else 4

/-- R381: a source sample. -/
def sourceAt (a first : Nat) (p : List Nat) (q : Int) : Int :=
  let col (x : Int) : Nat := p.getD (clampI 0 ((p.length : Int) - 1) x).toNat 0
  if a = 1 then (col (first + q) : Nat)
  else (((List.range 4).map fun (i : Nat) => col ((first : Int) + 4 * q + ((i : Nat) : Int))).sum + 2 : Nat) / 4

/-- sin(πx)/(πx) in binary64, with sinc(0) = 1 (R382). -/
def sinc64 (x : Rat) : Rat :=
  if x = 0 then 1 else r64 (sinTurn (x / 2) / r64 (r64 (884279719003555 / 281474976710656) * x))

/-- R382, steps 1 and 2: the raw coefficient of tap `t` at phase `f`. -/
def rawCoef (rho : Rat) (f t : Nat) : Rat :=
  let tau : Rat := ((64 * (t : Int) - 192 - (f : Int) : Int) : Rat) / 64
  let w := r64 (1 / 2 + r64 (cosTurn (tau / 8) / 2))
  r64 (r64 (rho * sinc64 (r64 (rho * tau))) * w)

/-- R382: the derived set of one phase. -/
def derivedPhase (rho : Rat) (f : Nat) : List Int :=
  let h := (List.range 8).map (rawCoef rho f)
  let sum := h.foldl (fun a x => r64 (a + x)) 0
  let c := h.map fun x => let q := r64 (16384 * r64 (x / sum)); roundHalfUp q.num q.den
  let big := (List.range 8).foldl (fun b i => if c.getD b 0 < c.getD i 0 then i else b) 0
  c.set big (c.getD big 0 + (16384 - c.foldl (· + ·) 0))

/-- R381, R382: ρ′ of a declaration, in binary64. -/
def rhoOf (dpi out : Nat) : Rat := r64 (((preAverage dpi out * out : Nat) : Rat) / (max 1 dpi : Nat))

/-- R382: the derived coefficient set, 8 × phase + tap. -/
def derivedSet (dpi out : Nat) : List Int := (List.range 64).flatMap (derivedPhase (rhoOf dpi out))

/-- R381: output pixel `k` of a plane. -/
def resampleAt (dpi out first : Nat) (coef : List Int) (p : List Nat) (k : Nat) : Nat :=
  let a := preAverage dpi out
  let den : Int := (2 * a * out : Nat)
  let num : Int := ((2 * k + 1) * dpi : Nat) - (a * out : Nat)
  let j := num / den
  let f := (64 * 2 * (num - j * den) + den) / (2 * den)
  let j' := if f = 64 then j + 1 else j
  let f' := if f = 64 then 0 else f.toNat
  let z := ((List.range 8).map fun t => coef.getD (8 * f' + t) 0 * sourceAt a first p (j' - 3 + t)).foldl (· + ·) 0
  (clampI 0 65535 ((z + 8192) / 16384)).toNat

/-- R380, R381: an output plane. -/
def resamplePlane (d : Decl) (coef : List Int) (p : List Nat) : List Nat :=
  (List.range (outPixels d)).map fun k =>
    if d.geometry.nativeOnly then p.getD (d.geometry.outFirst + k) 0
    else resampleAt d.system.nativeDpi d.geometry.outDpi d.geometry.outFirst coef p k

/-! ### Formats (R384) -/

/-- R384: an 8-bit sample. -/
def to8 (v : Nat) : Nat := min 255 ((v + 128) / 256)

def interleave (n size : Nat) (f : Nat → Nat) (planes : List (List Nat)) : List Byte :=
  (List.range n).flatMap fun k => (planes.map fun p => leBytes size (f (p.getD k 0))).flatten

/-- R384: the payload of a line; one plane when `plane` names it. -/
def linePayload (format : Nat) (planes : List (List Nat)) (plane : Option Nat) : List Byte :=
  let n := ((planes.head?).map List.length).getD 0
  match plane with
  | some c => (planes.getD c []).flatMap fun v => if format = 3 then leBytes 1 (to8 v) else leBytes 2 v
  | none =>
    match format with
    | 0 => interleave n 2 id planes
    | 1 => interleave n 1 to8 planes
    | 2 => planes.flatMap fun p => p.flatMap (leBytes 2)
    | 3 => planes.flatMap fun p => p.flatMap fun v => leBytes 1 (to8 v)
    | _ => (planes.getD 1 []).flatMap (leBytes 2)

/-- R437: green samples in the delivered format. -/
def greenCodes (format : Nat) (planes : List (List Nat)) : List Nat :=
  (planes.getD 1 []).map fun v => if format = 1 ∨ format = 3 then to8 v else v

end Sys2Proof.Machine
end

