-- ==== Sys2Proof/Machine/Loupe.lean ====
section
/-! DEFINITION. Loupe: stripes (R454 to R459), profiles and histograms (R460, R461), banding bins (R462 to R464), column
anomalies (R465 to R469), overlap correlations (R470 to R472), packets (R473 to R476), alarms (R477 to R479), the
placement loop's demands (R358 to R362) and the LOUPE verbs (R190, R826). -/

namespace Sys2Proof.Machine

/-! ### Zones, bins and profiles (R460) -/

/-- R460: the bounds of a zone. -/
def zoneLo (m z k : Nat) : Nat := k * m / max 1 z
def zoneSize (m z k : Nat) : Nat := zoneLo m z (k + 1) - zoneLo m z k

/-- ⌊sum / count + 1/2⌋; 0 for no count. -/
def meanOf (sum count : Nat) : Nat := if count = 0 then 0 else (2 * sum + count) / (2 * count)

def usedOf (p : Stripe) : Nat := p.rows.length

/-- R460: the column profile of one colour. -/
def columnProfile (p : Stripe) (c : Nat) : List Nat :=
  let cols := p.cols.getD c []
  (List.range (ceilDiv p.m p.colBin)).map fun b =>
    let part := (cols.drop (b * p.colBin)).take p.colBin
    meanOf part.sum (part.length * usedOf p)

/-- Zone sums of one line: zone by zone, red, green, blue. -/
def zoneSums (z : Nat) (planes : List (List Nat)) : List Nat :=
  let m := (planes.getD 0 []).length
  (List.range z).flatMap fun k => (List.range 3).map fun c =>
    (((planes.getD c []).drop (zoneLo m z k)).take (zoneSize m z k)).sum

/-- The zone sums that stand for each position (R460, R463): its own, those of the position before, and at the start
`lead`. -/
def filledRows (lead : List Nat) : List (Option Bool) → List (List Nat) → List (List Nat)
  | [], _ => []
  | none :: ps, r :: rs => r :: filledRows r ps rs
  | _ :: ps, rs => lead :: filledRows lead ps rs

/-- R460: the row profile of one colour, zone by zone for each position. -/
def rowProfile (p : Stripe) (c free : Nat) : List (List Nat) :=
  match p.rows.head? with
  | none => p.positions.map fun _ => List.replicate p.zones (free % 65536)
  | some lead => (filledRows lead p.positions p.rows).map fun r =>
      (List.range p.zones).map fun z => meanOf (r.getD (3 * z + c) 0) (zoneSize p.m p.zones z)

/-! ### Banding bins (R463, R464), in binary64 -/

/-- R463: w(n). -/
def bandWindow (count n : Nat) : Rat :=
  r64 (1 / 2 - r64 (cosTurn (r64 (((2 * n + 1 : Nat) : Rat) / (2 * count : Nat))) / 2))

/-- The Goertzel recursion: (s(n), s(n - 1)) after the inputs. -/
def goertzel (count : Nat) (k : Rat) : Nat → List Rat → Rat × Rat → Rat × Rat
  | _, [], s => s
  | n, x :: xs, s =>
    goertzel count k (n + 1) xs (r64 (r64 (r64 (bandWindow count n * x) + r64 (k * s.1)) - s.2), s.1)

/-- R463, R464: amplitude in 1/16 code and phase in 1/65,536 turn of one signal at frequency `freq` / 2^32. -/
def bandOf (freq : Nat) (xs : List Rat) : Nat × Nat :=
  let n := xs.length
  let f : Rat := (freq : Rat) / 4294967296
  let c := cosTurn f
  let d := sinTurn f
  let s := goertzel n (r64 (2 * c)) 0 xs (0, 0)
  let re := r64 (s.1 - r64 (c * s.2))
  let im := r64 (d * s.2)
  let turn : Rat := f * ((n - 1 : Nat) : Rat)
  let t := r64 (turn - (turn.floor : Rat))
  let cr := cosTurn t
  let ci := sinTurn t
  -- e^(-i 2π f (N - 1)) (re + i im)
  let xr := r64 (r64 (cr * re) + r64 (ci * im))
  let xi := r64 (r64 (cr * im) - r64 (ci * re))
  let mag := sqrt64 (r64 (r64 (xr * xr) + r64 (xi * xi)))
  let a := r64 (r64 (64 * mag) / (max 1 n : Nat))
  let ph := r64 (65536 * (if xr = 0 ∧ xi = 0 then Config.argZero else argTurn xr xi))
  (min (2 ^ 32 - 1) (roundHalfUp a.num a.den).toNat, (roundHalfUp ph.num ph.den % 65536).toNat)

/-- R463, R464: the amplitudes and phases of a stripe, for each zone, colour and bin, with BAND_FLAGS. -/
def bandResults (p : Stripe) : List (Nat × Nat × Nat) :=
  let n := p.positions.length
  let rows := match p.rows.head? with
    | none => []
    | some first => filledRows (p.carry.getD first) p.positions p.rows
  (List.range p.zones).flatMap fun z => (List.range 3).flatMap fun c => p.freq.map fun f =>
    let low := flag (decide (f * n < 2 * 4294967296)) 0
    if rows.isEmpty then (0, 0, low + 2)
    else
      let xs := rows.map fun r => r64 (((r.getD (3 * z + c) 0 : Nat) : Rat) / (max 1 (zoneSize p.m p.zones z) : Nat))
      let b := bandOf f xs
      (b.1, b.2, low)

/-! ### Stripes (R454 to R456) -/

def emptyStripe (s : State) (number firstLine first m join : Nat) : Stripe :=
  let u := s.loupe
  let z := min u.zones (max 1 m)
  let carry := match u.lastInput with
    | some (z', m', l) => if z' = z ∧ m' = m then some l else none
    | none => none
  { number := number, firstLine := firstLine, first := first, lines := u.lines, colBin := u.colBin, zones := z,
    freq := u.freq, m := m, positions := [], cols := List.replicate 3 (List.replicate m 0),
    hist := List.replicate 3 (List.replicate 256 0), rows := [], carry := carry,
    joins := List.replicate join (List.replicate 3 {}), usable := List.replicate join 0, seam := false, epoch := none,
    anomaly := u.anomaly, alarms := u.alarms, baseReset := u.baseReset, isPartial := false, bands := [] }

/-- The overlap columns of a join as Loupe restores them (R470): â and b̂ where usable. -/
def restored (w : Nat → Nat) (va vb : List Nat) (v : Nat) : List (Option (Nat × Nat)) :=
  (List.range v).map fun i =>
    let k := w i
    if 8192 ≤ k ∧ k ≤ 24576 then
      some ((2 * va.getD i 0 * 32768 + k) / (2 * k), (2 * vb.getD i 0 * 32768 + (32768 - k)) / (2 * (32768 - k)))
    else none

/-- R471: one line's pairs added to the sums of displacement `d` (-1, 0 or 1). -/
def addPairs (l : List (Option (Nat × Nat))) (d : Int) (u : CorrSums) : CorrSums :=
  (List.range l.length).foldl (fun (u : CorrSums) (i : Nat) =>
    let j : Int := (i : Int) + d
    if j < 0 then u
    else match l.getD i none, l.getD j.toNat none with
      | some p, some q =>
        { a := u.a + p.1, b := u.b + q.2, aa := u.aa + p.1 * p.1, bb := u.bb + q.2 * q.2, ab := u.ab + p.1 * q.2,
          n := u.n + 1 }
      | _, _ => u) u

/-- What a formed line gives Loupe: its planes, epoch, whether it is excluded or carries SEAM, and each join's restored
columns. -/
structure LoupeLine where
  planes : List (List Nat)
  epoch : Nat
  excluded : Bool
  seam : Bool
  joins : List (List (Option (Nat × Nat)))
  deriving Repr, Inhabited

def addColumns (a b : List Nat) : List Nat := List.zipWith (· + ·) a b

def addHist (h p : List Nat) : List Nat := p.foldl (fun h v => h.set (v / 256) (h.getD (v / 256) 0 + 1)) h

/-- R451, R460, R471: one position of the stripe. None: a gap number. -/
def stripeAdd (x : Option LoupeLine) (p : Stripe) : Stripe :=
  match x with
  | none => { p with positions := p.positions ++ [some true] }
  | some l =>
    let q := { p with seam := p.seam || l.seam }
    if l.excluded then { q with positions := p.positions ++ [some false] }
    else
      { q with
        positions := p.positions ++ [none]
        cols := List.zipWith addColumns p.cols l.planes
        hist := List.zipWith addHist p.hist l.planes
        rows := p.rows ++ [zoneSums p.zones l.planes]
        joins := List.zipWith (fun us r => List.zipWith (fun u d => addPairs r d u) us [(-1 : Int), 0, 1]) p.joins l.joins
        usable := l.joins.map fun r => (r.filter Option.isSome).length
        epoch := some (p.epoch.getD l.epoch) }

def applyLSetting (u : LoupeU) : LSetting → LoupeU
  | .stripe n f b z => { u with lines := n, nextNumber := f, colBin := b, zones := z }
  | .bands f => { u with freq := f }
  | .anomaly a =>
    { u with anomaly := a, baseReset := u.baseReset || (a.on && !u.anomaly.on) }
  | .alarm l => { u with alarms := l }

def Busy.isLoupe : Busy → Bool
  | .loupe => true
  | _ => false

/-- R826: the pending settings apply, in the order taken, and their verbs reply. -/
def applyLoupe (s : State) : State :=
  let n := s.loupe.pendingSet.length
  let t := { s with loupe := { s.loupe.pendingSet.foldl applyLSetting s.loupe with pendingSet := [] } }
  if n = 0 then t else endBusy Busy.isLoupe stOk 0 [] t

/-- R474: before a stripe's packets are written, the half of its number's parity loses what it still holds of an earlier
stripe, whatever that one's number. -/
def discardHalf (number : Nat) (s : State) : State :=
  let old := (s.loupe.packets.filter fun q => q.stripe % 2 == number % 2).map LPacket.stripe
  { s with loupe := { s.loupe with
      packets := s.loupe.packets.filter fun q => !(q.stripe % 2 == number % 2)
      lost := (s.loupe.lost + old.eraseDups.length) % 2 ^ 32 } }

/-- R456, R457: the open stripe ends: hardware completes its results, and pending settings apply (R826). -/
def closeStripe (isPartial : Bool) (s : State) : State :=
  match s.loupe.cur with
  | none => s
  | some p =>
    let q := { p with isPartial := isPartial, bands := bandResults p }
    let lead := match p.rows.head? with
      | none => p.carry
      | some f => (filledRows (p.carry.getD f) p.positions p.rows).getLast?
    let t := { s with loupe := { s.loupe with
      cur := none, finalised := s.loupe.finalised ++ [q], lastInput := lead.map fun l => (p.zones, p.m, l) } }
    applyLoupe (discardHalf p.number t)

def stripeFull (p : Stripe) : Bool := decide (p.lines ≤ p.positions.length)

/-- R456: the open stripe ends early; one that holds all its positions is not PARTIAL. -/
def endStripe (s : State) : State :=
  match s.loupe.cur with
  | some p => closeStripe (!stripeFull p) s
  | none => s

/-- The open stripe, or the one that begins at output line `n` of the run (R454, R455). -/
def openStripe (n m join : Nat) (s : State) : State :=
  let t := match s.loupe.cur with
    | some p => if stripeFull p then closeStripe false s else s
    | none => s
  match t.loupe.cur with
  | some _ => t
  | none =>
    let p := emptyStripe t t.loupe.nextNumber ((t.line.firstLine + n) % 2 ^ 32) n m join
    { t with loupe := { t.loupe with cur := some p, nextNumber := (t.loupe.nextNumber + 1) % 2 ^ 32, baseReset := false } }

/-- A position of the run is formed or fixed as a gap. -/
def loupePosition (x : Option LoupeLine) (s : State) : State :=
  { s with loupe := { s.loupe with cur := s.loupe.cur.map (stripeAdd x) } }

/-! ### Anomalies (R465 to R468) -/

/-- R466: the residuals of a colour: r(b). -/
def residuals (window free : Nat) (u p : List Nat) : List Rat :=
  let d : List Rat := List.zipWith (fun (x y : Nat) => (x : Rat) - (y : Rat) / 256) p u
  (List.range d.length).map fun b =>
    let lo := b - window
    let near := ((List.range (2 * window + 1)).map fun k => lo + k).filter fun k =>
      k != b && decide (k < d.length ∧ k ≤ b + window)
    let mean : Rat := if near.isEmpty then (free : Rat) else (near.map fun k => d.getD k 0).foldl (· + ·) 0 / (near.length : Nat)
    d.getD b 0 - mean

def ratAbs (q : Rat) : Rat := if q < 0 then -q else q

/-- R467: descending |r|, then lower bin, then lower colour. -/
def insertAnomaly (x : Nat × Nat × Rat) : List (Nat × Nat × Rat) → List (Nat × Nat × Rat)
  | [] => [x]
  | y :: ys =>
    let before := decide (ratAbs y.2.2 < ratAbs x.2.2) ||
      (ratAbs y.2.2 == ratAbs x.2.2 && (decide (x.1 < y.1) || (x.1 == y.1 && decide (x.2.1 < y.2.1))))
    if before then x :: y :: ys else y :: insertAnomaly x ys

/-- R466, R467: every anomalous (bin, colour, r) of a stripe, in order. -/
def anomaliesOf (a : LAnomaly) (free : Nat) (base : List (Option (List Nat))) (p : Stripe) : List (Nat × Nat × Rat) :=
  if !a.on || usedOf p == 0 then []
  else
    ((List.range 3).flatMap fun c =>
      match base.getD c none with
      | none => []
      | some u =>
        if !bit a.colours c then []
        else ((residuals a.window free u (columnProfile p c)).mapIdx fun b r => (b, c, r)).filter fun x =>
          decide (((a.thresh : Nat) : Rat) ≤ ratAbs x.2.2)).foldl (fun l x => insertAnomaly x l) []

/-- R468, R469: the baselines after a stripe. -/
def nextBaseline (a : LAnomaly) (base : List (Option (List Nat))) (p : Stripe) : List (Option (List Nat)) :=
  if !a.on || usedOf p == 0 then base
  else base.mapIdx fun c o =>
    if !bit a.colours c then o
    else match o with
      | none => some ((columnProfile p c).map fun v => 256 * v)
      | some u =>
        if a.frozen then some u
        else some (List.zipWith (fun (x y : Nat) => ((x : Int) + (256 * (y : Int) - x) / ((2 ^ a.baseLog2 : Nat) : Int)).toNat)
          u (columnProfile p c))

/-! ### Overlap estimates (R471, R472) and the formulas of R437 -/

/-- R437: C(d) in binary64, and a free value where the spread of one side is 0. -/
def corrOf (free : Nat) (u : CorrSums) : Rat :=
  let v (x y xy : Nat) : Rat := r64 (r64 (r64 u.n * r64 xy) - r64 (r64 x * r64 y))
  let va := v u.a u.a u.aa
  let vb := v u.b u.b u.bb
  if va ≤ 0 || vb ≤ 0 then ((free % 2001 : Nat) : Rat) / 1000 - 1
  else r64 (v u.a u.b u.ab / sqrt64 (r64 (va * vb)))

/-- R437: the curvature C(-1) - 2 C(0) + C(1). -/
def curvature (m z p : Rat) : Rat := r64 (r64 (m - r64 (2 * z)) + p)

/-- R437: δ, clamped to ±1; a free value where the curvature is 0. -/
def deltaOf (free : Nat) (m z p : Rat) : Rat :=
  let k := curvature m z p
  if k = 0 then ((free % 2001 : Nat) : Rat) / 1000 - 1
  else
    let d := r64 (r64 (m - p) / r64 (2 * k))
    if d < -1 then -1 else if 1 < d then 1 else d

/-- The standard deviation of the a samples is below `limit`. -/
def sdBelow (limit : Nat) (u : CorrSums) : Bool :=
  decide (((u.n * u.aa : Nat) : Int) - ((u.a * u.a : Nat) : Int) < ((limit * limit * u.n * u.n : Nat) : Int)) || u.n == 0

/-- R471, R472: e_k and q_k of a join. -/
def estimateOf (free used usable : Nat) (us : List CorrSums) : Int × Nat :=
  let m := corrOf free (us.getD 0 {})
  let z := corrOf free (us.getD 1 {})
  let p := corrOf free (us.getD 2 {})
  let e := r64 (1024 * deltaOf free m z p)
  let top := if m < z then (if z < p then p else z) else (if m < p then p else m)
  let bad := decide (usable < 16) || decide (used < 64) || sdBelow 64 (us.getD 1 {}) || decide (0 ≤ curvature m z p)
  (roundHalfUp e.num e.den, if bad then 0 else min 255 (max 0 (r64 (256 * top)).floor).toNat)

/-! ### Packets (R475, R476) -/

/-- R475: a packet with LOST_BEFORE clear and CRC 0. -/
def loupePacket (p : Stripe) (kind colour chunk count : Nat) (body : List Byte) : LPacket :=
  let pad := body ++ List.replicate ((8 - body.length % 8) % 8) 0#8
  let last := p.firstLine + (p.positions.length - 1)
  let flags := flag p.isPartial 0 + flag p.seam 1 + flag (usedOf p == 0) 2
  { stripe := p.number, kind := kind
    bytes := leBytes 4 (32 + pad.length) ++ [b8 kind, b8 colour] ++ leBytes 2 flags ++ leBytes 4 p.number ++
      leBytes 4 p.firstLine ++ leBytes 4 last ++ leBytes 2 chunk ++ leBytes 2 count ++ leBytes 4 (p.epoch.getD 0) ++
      leBytes 4 0 ++ pad }

/-- Chunks of a list of bodies. -/
def loupeChunks (p : Stripe) (kind colour : Nat) (bodies : List (List Byte)) : List LPacket :=
  bodies.mapIdx fun i b => loupePacket p kind colour i bodies.length b

def chunksOf {α : Type} (n : Nat) (l : List α) : List (List α) :=
  (List.range (ceilDiv l.length (max 1 n))).map fun i => (l.drop (i * max 1 n)).take (max 1 n)

/-- R476: KIND 1. STRIPES_LOST is 0 until delivery. -/
def summaryBody (p : Stripe) (anoms free : Nat) : List Byte :=
  let n := p.positions.length
  let gaps := (p.positions.filter fun x => x == some true).length
  let mean (c : Nat) : Nat := if usedOf p = 0 then free % 65536 else meanOf (p.cols.getD c []).sum (p.m * usedOf p)
  leBytes 4 n ++ leBytes 4 (usedOf p) ++ leBytes 4 (n - usedOf p) ++ leBytes 4 gaps ++ leBytes 4 p.m ++
  leBytes 4 (ceilDiv p.m p.colBin) ++ leBytes 4 anoms ++ leBytes 4 0 ++ leBytes 2 p.colBin ++ [b8 p.zones, b8 p.freq.length] ++
  leBytes 2 (mean 0) ++ leBytes 2 (mean 1) ++ leBytes 2 (mean 2) ++ leBytes 2 0

/-- KIND 4: the exclusion map. -/
def excludedBody (p : Stripe) : List Byte :=
  (chunksOf 8 p.positions).map fun l => b8 ((l.mapIdx fun i x => flag x.isSome i).sum)

/-- R475, R476: BANDS goes into one packet where its body, of at most 32,768 bytes, fits; else 40 zones to a packet. -/
def bandChunks (p : Stripe) : List (List (Nat × Nat × Nat)) :=
  if p.bands.length * 8 ≤ 32768 then [p.bands] else chunksOf (40 * 3 * p.freq.length) p.bands

/-- R476: every packet of a stripe, in the order of its table. -/
def stripePackets (p : Stripe) (det : LAnomaly) (anoms : List (Nat × Nat × Rat)) (ests : List (Int × Nat)) (free : Nat) :
    List LPacket :=
  loupeChunks p 1 255 [summaryBody p anoms.length free] ++
  ((List.range 3).flatMap fun c =>
    loupeChunks p 2 c ((chunksOf 16384 (columnProfile p c)).map fun l => l.flatMap (leBytes 2))) ++
  ((List.range 3).flatMap fun c =>
    loupeChunks p 3 c ((chunksOf (16384 / max 1 p.zones) (rowProfile p c free)).map fun l => l.flatten.flatMap (leBytes 2))) ++
  loupeChunks p 4 255 [excludedBody p] ++
  loupeChunks p 5 255 [p.hist.flatMap fun h => h.flatMap (leBytes 8)] ++
  (if p.freq.isEmpty then []
   else loupeChunks p 6 255 ((bandChunks p).map fun l =>
     l.flatMap fun b => leBytes 4 b.1 ++ leBytes 2 b.2.1 ++ leBytes 2 b.2.2)) ++
  (if !det.on then []
   else loupeChunks p 7 255 [(anoms.take det.maxList).flatMap fun x =>
     leBytes 4 x.1 ++ [b8 x.2.1, 0#8] ++ leInt 2 (clampI (-32768) 32767 (roundHalfUp x.2.2.num x.2.2.den))]) ++
  (if ests.isEmpty then []
   else loupeChunks p 8 255 [(ests.mapIdx fun k e =>
     leInt 4 e.1 ++ [b8 e.2, 0#8] ++ leBytes 2 (p.usable.getD k 0) ++ leBytes 4 (usedOf p)).flatten])

/-- R474, R475: a packet as it leaves: STRIPES_LOST, LOST_BEFORE and CRC filled in. -/
def sealPacket (lost : Nat) (q : LPacket) : List Byte :=
  let b := if q.kind = 1 then putBytes q.bytes 60 (leBytes 4 lost) else q.bytes
  let b := if lost = 0 then b else putBytes b 6 (leBytes 2 (uAt b 6 2 + 8))
  putBytes b 0x1C (wordBytes (crc32 (b.take 28 ++ b.drop 32)))

/-! ### The placement loop (R358 to R362) -/

/-- R359: the mean of the most recent estimates, or none on a broken join. -/
def joinMean (s : State) (k : Nat) : Option Int :=
  let n := s.achr.par.placeAvg
  let l := (vget s.achr.hist k).take n
  if l.length < n then none else some (roundHalfUp (l.foldl (· + ·) 0) n)

/-- R359: an estimate of enough confidence is kept. -/
def keepEstimate (k : Nat) (e : Int × Nat) (s : State) : State :=
  if s.achr.par.placeConf ≤ e.2 then
    { s with achr := { s.achr with hist := vmod s.achr.hist k fun l => (e.1 :: l).take 16 } }
  else s

/-- R360, step 1: the first segment of the group that holds `i`, given the joins' means. -/
def groupStart (means : List (Option Int)) : Nat → Nat
  | 0 => 0
  | i + 1 => match means.getD i none with
    | some _ => groupStart means i
    | none => i + 1

/-- R360, step 2: E_s from the group's first segment. -/
def groupE (means : List (Option Int)) (a : Nat) : Nat → Int
  | 0 => 0
  | i + 1 => if i + 1 ≤ a then 0 else groupE means a i + (means.getD i none).getD 0

/-- R360: the unclamped demand ⌊T_s / 16 + 1/2⌋ of a segment; none in a group of one. -/
def demandOf (s : State) (n : Nat) (means : List (Option Int)) (i : Nat) : Option Int :=
  let a := groupStart means i
  let grp := (List.range n).filter fun j => groupStart means j == a
  if grp.length ≤ 1 then none
  else
    let e (j : Nat) : Int := groupE means a j
    let m : Int := match grp.find? fun j => (vget s.achr.place j).frozen with
      | some f => e f
      | none => roundHalfUp ((grp.map e).foldl (· + ·) 0) grp.length
    some ((16 * (vget s.achr.place i).shift - e i + m + 8) / 16)

/-- R360, R362: the demands after a stripe, with RPT.PLACE_LIMIT of each newly clamped one. -/
def placementDemands (stripe : Nat) (s : State) : State :=
  let n := (dSegments s).length
  let native := match s.decl with | some d => d.geometry.nativeOnly | none => true
  if native then s
  else
    let means := (List.range (n - 1)).map (joinMean s)
    (List.range n).foldl (fun t i =>
      let pl := vget s.achr.place i
      if pl.frozen then t
      else
        let raw := (demandOf s n means i).getD pl.shift
        let d := clampI (-32) 32 raw
        let cl := d != raw
        let u := { t with achr := { t.achr with place := vmod t.achr.place i fun q => { q with demand := some d, clamped := cl } } }
        if cl && !pl.clamped then
          report 0x0030 [i + fld (unsignedOf 8 (clampI (-128) 127 raw)) 8 8 + fld (unsignedOf 8 pl.shift) 16 8, stripe,
            lastAdm u, 0] u
        else u) s

/-! ### Alarms (R477 to R479) -/

/-- What an entry measures on a stripe: (tripped, zone or join, colour, value). -/
def alarmOf (p : Stripe) (anoms : Nat) (ests : List (Int × Nat)) (a : LAlarm) : Bool × Nat × Nat × Nat :=
  let colours := if a.colour = 3 then [0, 1, 2] else [a.colour]
  match a.kind with
  | 1 =>
    if p.freq.length ≤ a.index || usedOf p == 0 then (false, 255, a.colour, 0)
    else
      let all := (List.range p.zones).flatMap fun z => colours.map fun c =>
        (z, c, (p.bands.getD ((3 * z + c) * p.freq.length + a.index) (0, 0, 0)).1)
      let best := all.foldl (fun b x => if b.2.2 < x.2.2 then x else b) (all.headD (0, 0, 0))
      (decide (a.level ≤ best.2.2), best.1, best.2.1, best.2.2)
  | 2 => (usedOf p != 0 && decide (a.level ≤ anoms), 255, a.colour, anoms)
  | 3 =>
    let total := p.m * usedOf p
    let all := colours.map fun c => (c, (p.hist.getD c []).getD 0 0 + (p.hist.getD c []).getD 255 0)
    let best := all.foldl (fun b x => if b.2 < x.2 then x else b) (all.headD (0, 0))
    (total != 0 && decide (a.level * total ≤ 1000 * best.2), 255, best.1, 1000 * best.2 / max 1 total)
  | _ =>
    let all := (ests.mapIdx fun k e => (k, e.2)).filter fun x => a.index == 0xFFFF || x.1 == a.index
    match all.head? with
    | none => (false, 255, a.colour, 0)
    | some h =>
      let best := all.foldl (fun b x => if x.2 < b.2 then x else b) h
      (decide (best.2 < a.level), best.1, a.colour, best.2)

/-- R478, R479: the alarms of a finalised stripe, by the entries in force for it (R826). -/
def evalAlarms (p : Stripe) (anoms : Nat) (ests : List (Int × Nat)) (s : State) : State :=
  let res := p.alarms.map (alarmOf p anoms ests)
  let set := (res.mapIdx fun e r => flag r.1 e).sum
  let t := { s with loupe := { s.loupe with tripped := set } }
  if set = s.loupe.tripped then t
  else
    let e := (List.range res.length).find? fun i => (res.getD i (false, 0, 0, 0)).1
    let r := match e with | some i => res.getD i (false, 0, 0, 0) | none => (false, 255, 0, 0)
    fwReport 0x0050 [p.number, set + fld s.loupe.tripped 16 16, p.firstLine, p.firstLine + (p.positions.length - 1),
      e.getD 255 + fld r.2.1 8 8 + fld r.2.2.1 16 8, r.2.2.2] t

/-! ### The rows STRIPE_FINALISE and LOUPE_FIRMWARE_RESULTS -/

/-- STRIPE_FINALISE (R457): every position of the open stripe has been formed or fixed as a gap. A stripe that ends early
(R456) is closed where the run ends. -/
def execStripeFinalise (s : State) : Host.Outcome State Fault Refusal :=
  settled (match s.loupe.cur with
    | some p => if stripeFull p then closeStripe false s else s
    | none => s)

/-- R352, R358: the loop takes a stripe's estimates, unless it does not run. -/
def keepEstimates (ests : List (Int × Nat)) (s : State) : State :=
  match s.decl with
  | some d => if d.geometry.nativeOnly then s else (List.range ests.length).foldl (fun t k => keepEstimate k (ests.getD k (0, 0)) t) s
  | none => s

/-- LOUPE_FIRMWARE_RESULTS (R457, R466 to R468, R471, R472, R358, R478) on the oldest stripe finalised, under the settings that
were in force for it (R826). -/
def loupeResults (q : Stripe) (s : State) : State :=
  let f := takeFree s
  let p := { q with epoch := some (q.epoch.getD (f.1 % 2 ^ 32)) }
  let u := f.2.loupe
  let bins := (ceilDiv p.m p.colBin, p.colBin)
  let same := u.lastBins = none ∨ u.lastBins = some bins
  let base := if same ∧ !p.baseReset then u.baseline else [none, none, none]
  let anoms := anomaliesOf p.anomaly f.1 base p
  let ests := (List.range p.joins.length).map fun k => estimateOf f.1 (usedOf p) (p.usable.getD k 0) (p.joins.getD k [])
  let t := discardHalf p.number { f.2 with loupe := { u with
    baseline := nextBaseline p.anomaly base p, lastBins := some bins } }
  let t := { t with loupe := { t.loupe with packets := t.loupe.packets ++ stripePackets p p.anomaly anoms ests f.1 } }
  evalAlarms p anoms.length ests (placementDemands p.number (keepEstimates ests t))

def execLoupeFirmwareResults (s : State) : Host.Outcome State Fault Refusal :=
  settled (match s.loupe.finalised with
    | p :: ps => if fwRunning s then loupeResults p { s with loupe := { s.loupe with finalised := ps } } else s
    | [] => s)

/-! ### The verbs (R190, R459, R462, R465, R477, R826) -/

/-- R826: the settings apply at once, or when the open stripe ends. -/
def setLoupe (x : LSetting) (s : State) : Ans × State :=
  if s.loupe.cur.isSome then (.wait .loupe, { s with loupe := { s.loupe with pendingSet := s.loupe.pendingSet ++ [x] } })
  else done [] { s with loupe := applyLSetting s.loupe x }

def vLoupeStripe (c : Cmd) (s : State) : Ans × State :=
  let lines := pu c 0 4
  let bin := pu c 8 1
  let zones := pu c 9 1
  checked [objIs [kDevice] c s, modsIn 0 c, shape [.u 4, .u 4, .u 1, .u 1] c,
      need (decide (16 ≤ lines ∧ lines ≤ 65536 ∧ 1 ≤ bin ∧ bin ≤ 64 ∧ 1 ≤ zones ∧ zones ≤ 64)) stBadArg 0,
      need (decide (lines * zones ≤ 524288)) stBadArg 0, declared s] s
    (setLoupe (.stripe lines (pu c 4 4) bin zones) s)

def vLoupeBands (c : Cmd) (s : State) : Ans × State :=
  let n := pu c 0 1
  let f := (List.range n).map fun i => pu c (4 + 4 * i) 4
  let fields := Fd.u 1 :: List.replicate n (Fd.u 4)
  checked [objIs [kDevice] c s, modsIn 0 c, need (!c.req.payload.isEmpty && decide (n ≤ 32)) stBadArg 0, shape fields c,
      need (f.all fun x => decide (1 ≤ x ∧ x ≤ 2147483647)) stBadArg 0, declared s] s
    (setLoupe (.bands f) s)

def vLoupeAnomaly (c : Cmd) (s : State) : Ans × State :=
  let en := pu c 0 1
  let col := pu c 3 1
  let a : LAnomaly := { on := bit en 0, frozen := bit en 1, baseLog2 := pu c 1 1, window := pu c 2 1, colours := col,
                        thresh := pu c 4 2, maxList := pu c 6 2 }
  checked [objIs [kDevice] c s, modsIn 0 c, shape [.u 1, .u 1, .u 1, .u 1, .u 2, .u 2] c,
      need (decide (en < 4 ∧ col < 8)) stBadArg 4,
      need (decide (a.baseLog2 ≤ 8 ∧ 1 ≤ a.window ∧ a.window ≤ 32 ∧ 1 ≤ a.thresh ∧ a.maxList ≤ 1024) && (!a.on || col != 0))
        stBadArg 0, declared s] s
    (setLoupe (.anomaly a) s)

/-- R477: the ranges of an entry. -/
def alarmOk (a : LAlarm) : Bool :=
  match a.kind with
  | 1 => decide (a.colour ≤ 3 ∧ a.index < 32 ∧ 1 ≤ a.level)
  | 2 => a.colour == 0 && a.index == 0 && decide (1 ≤ a.level)
  | 3 => decide (a.colour ≤ 3) && a.index == 0 && decide (1 ≤ a.level ∧ a.level ≤ 1000)
  | 4 => a.colour == 0 && decide (1 ≤ a.level ∧ a.level ≤ 256)
  | _ => false

def vLoupeAlarm (c : Cmd) (s : State) : Ans × State :=
  let n := pu c 0 1
  let l := (List.range n).map fun i =>
    ({ kind := pu c (4 + 8 * i) 1, colour := pu c (5 + 8 * i) 1, index := pu c (6 + 8 * i) 2,
       level := pu c (8 + 8 * i) 4 } : LAlarm)
  let fields := [Fd.u 1, .r 1, .r 1, .r 1] ++ (List.range n).flatMap fun _ => [Fd.u 1, .u 1, .u 2, .u 4]
  checked [objIs [kDevice] c s, modsIn 0 c, need (!c.req.payload.isEmpty && decide (n ≤ 16)) stBadArg 0, shape fields c,
      need (l.all alarmOk) stBadArg 0, declared s] s
    (setLoupe (.alarm l) s)

end Sys2Proof.Machine
end

