-- ==== Sys2Proof/Machine/Deliver.lean ====
section
/-! DEFINITION. Delivery: mirror records (R385 to R390), the seam ring's slots (R395, R396, R401), line headers (R413,
R414), the gap log (R416 to R419), what each ring has to deliver (R410, R415, R443) and the rows LINE_DELIVERY,
CAMERA_CHUNK_DELIVERY, GAP_RECORD_FLUSH and HOST_STALL_TIMEOUT. -/

namespace Sys2Proof.Machine

/-! ### Mirrors (R385 to R390) -/

/-- R385: a mirror so chosen copies this line of this segment at this point. -/
def mirrorWants (m : MirrorSel) (point number : Nat) (seg : Option Nat) : Bool :=
  m.point == point && number % max 1 m.decimate == 0 &&
    (match seg, m.seg with
     | some n, some k => n == k
     | _, _ => true)

def mirrorBytes (l : List MirrorRec) : Nat := (l.map fun r => 32 + r.samples.length).sum

/-- R390: the record enters the mirror buffer of 64 MiB, or is dropped whole and counted. -/
def mirrorPut (r : MirrorRec) (s : State) : State :=
  let m := s.achr.mirror
  let m' := if mirrorBytes m.buf + 32 + r.samples.length ≤ 67108864 then { m with buf := m.buf ++ [r] }
    else { m with dropped := (m.dropped + 1) % 2 ^ 32 }
  { s with achr := { s.achr with mirror := m' } }

/-- R387: the bytes of a record as it is delivered. -/
def mirrorRecBytes (dropped : Nat) (r : MirrorRec) : List Byte :=
  [b8 r.point, b8 r.seg, b8 r.exp, b8 r.flags] ++ leBytes 4 r.line ++ leBytes 4 r.pixels ++ leBytes 4 dropped ++
    leInt 8 r.position ++ leBytes 8 r.timeNs ++ r.samples

/-! ### Slots (R395, R396, R401) -/

def occupancy (s : State) : Nat := s.deliv.old.length + s.deliv.slots.length

def modDeliv (f : DelivU → DelivU) (s : State) : State := { s with deliv := f s.deliv }

/-- A slot becomes free. -/
def freeSlot (n : Nat) (s : State) : State := modDeliv (fun u => { u with slots := u.slots.filter fun x => x.n != n }) s

/-- JOIN_LINES of the declaration; 0 in follower mode, where a delivered line's slot becomes free at once. -/
def retainLines (s : State) : Nat := match s.decl with | some d => if d.system.scan then d.system.joinLines else 0 | none => 0

/-- R396: a delivered slot is retained until JOIN_LINES later lines have been formed. -/
def settleSlots (s : State) : State :=
  let j := retainLines s
  modDeliv (fun u => { u with slots := (u.slots.map fun x =>
      if x.st == .filled && x.owed.isEmpty then { x with st := .retained } else x).filter fun x =>
        !(x.st == .retained && decide (j ≤ x.later)) }) s

/-- A line is written to its slot (R396), and every line formed before it has one more after it. -/
def fillSlot (n : Nat) (l : OutLine) (s : State) : State :=
  settleSlots (modDeliv (fun u => { u with slots := u.slots.map fun x =>
    if x.n = n then { x with st := .filled, line := some l, owed := u.streams, later := 0 }
    else if x.n < n then { x with later := x.later + 1 } else x }) s)

def lastDeliv (s : State) : Nat := s.line.lastDelivered.getD 0xFFFFFFFF
def firstLine (s : State) : Nat := s.line.firstLine
/-- The output number of a run's line. -/
def outNumber (s : State) (n : Nat) : Nat := (s.line.firstLine + n) % 2 ^ 32

/-! ### Line headers (R413, R414) -/

/-- R413: the 64-byte header of a line or plane buffer. -/
def lineHeader (number plane : Nat) (l : OutLine) : List Byte :=
  let h := leBytes 4 number ++ leBytes 4 l.epoch ++ leBytes 8 l.timeNs ++ leInt 8 l.position ++ leBytes 4 l.flags ++
    leBytes 4 l.stripe ++ leBytes 2 l.expL ++ leBytes 2 l.expS ++ [b8 l.expSet, b8 l.speed, b8 l.format, b8 plane] ++
    leBytes 4 ((l.planes.headD []).length) ++ leBytes 4 l.seamCount ++ leBytes 2 l.faultStrings ++ [0#8, 0#8] ++
    leBytes 4 l.firstCol ++ leBytes 4 l.lastCol
  h ++ wordBytes (crc32 h)

/-- R405, R410: what a buffer of a line-data stream holds. -/
def lineBuffer (stream number : Nat) (l : OutLine) : List Byte :=
  if stream = 1 then lineHeader number 0xFF l ++ linePayload l.format l.planes none
  else lineHeader number (stream - 2) l ++ linePayload l.format l.planes (some (stream - 2))

/-! ### The gap log (R416 to R419) -/

/-- R418: the open record is closed. -/
def closeGap (s : State) : State := modDeliv (fun u => { u with gapOpen := none }) s

def openGapRec (r : GapRec) (s : State) : State :=
  modDeliv (fun u => { u with gapLog := u.gapLog ++ [r], gapOpen := some s.localNs }) s

/-- R418, R419: an output number is fixed as a gap. -/
def addGap (r : GapRec) (s : State) : State :=
  let u := s.deliv
  let t := { s with line := { s.line with gaps := (s.line.gaps + 1) % 2 ^ 32 },
                    live := { s.live with life := { s.live.life with gaps := satInc s.live.life.gaps } } }
  match u.gapLog.getLast? with
  | none => openGapRec r t
  | some l =>
    let put (x : GapRec) : State := modDeliv (fun u => { u with gapLog := u.gapLog.dropLast ++ [x] }) t
    if u.gapOpen.isSome && (l.first + l.count) % 2 ^ 32 == r.first && l.cause == r.cause then put { l with count := l.count + 1 }
    else if 65536 ≤ u.gapLog.length then
      put { l with count := (r.first + 2 ^ 32 - l.first) % 2 ^ 32 + 1, span := true, cause := if l.cause = r.cause then l.cause else 5 }
    else openGapRec r t

/-- R416: a record's bytes. -/
def gapBytes (r : GapRec) : List Byte :=
  leBytes 4 r.first ++ leBytes 4 r.count ++ [b8 r.cause, b8 (flag r.span 0), 0#8, 0#8] ++ leBytes 4 r.epoch ++
    leBytes 8 r.timeNs ++ leInt 8 r.position

/-- Closed records still in the area. -/
def closedGaps (u : DelivU) : List GapRec := if u.gapOpen.isSome then u.gapLog.dropLast else u.gapLog

/-! ### Buffers of whole records (R410) -/

/-- A buffer is completed (R407): its status OK. -/
def completeBuf (b : FillBuf) (s : State) : State := completeDesc b.ring b.desc 0 b.count b.bytes s

def flushGapBuf (s : State) : State :=
  match s.deliv.gapBuf with
  | some b => completeBuf b (modDeliv (fun u => { u with gapBuf := none }) s)
  | none => s

def flushLoupeBuf (s : State) : State :=
  match s.deliv.loupeBuf with
  | some b => completeBuf b (modDeliv (fun u => { u with loupeBuf := none }) s)
  | none => s

/-- The closed records that the buffer still holds room for go into it. -/
def placeGaps (b : FillBuf) (s : State) : State :=
  let fit := min ((b.desc.len - b.bytes.length) / 32) (closedGaps s.deliv).length
  let b' := { b with bytes := b.bytes ++ ((closedGaps s.deliv).take fit).flatMap gapBytes, count := b.count + fit }
  modDeliv (fun u => { u with gapLog := u.gapLog.drop fit, gapBuf := some b' }) s

/-- R410, R411: closed gap records go into the buffer, which is completed when the next record would not fit; the run's end and
DELIVER_FLUSH_MS complete it otherwise. -/
def deliverGaps (k : Nat) (d : Desc) (s : State) : State :=
  let b := s.deliv.gapBuf.getD { ring := k, desc := d, bytes := [], count := 0, since := s.localNs }
  if b.desc.len < 32 then completeDesc k b.desc 2 0 [] (modDeliv (fun u => { u with gapBuf := none }) s)
  else
    let t := placeGaps b s
    let full := match t.deliv.gapBuf with
      | some b' => decide (b.desc.len < b'.bytes.length + 32)
      | none => false
    if full then flushGapBuf t else t

/-- R474, R475: the next Loupe packet as it leaves, with the counts its delivery moves. -/
def nextLoupe (u : LoupeU) : Option (List Byte × LoupeU) :=
  match u.packets with
  | [] => none
  | q :: qs =>
    let lost := if q.kind = 1 then u.lost else if u.lostIn.1 = q.stripe then u.lostIn.2 else 0
    some (sealPacket lost q,
      { u with packets := qs, lost := if q.kind = 1 then 0 else u.lost, lostIn := if q.kind = 1 then (q.stripe, u.lost) else u.lostIn })

/-- One Loupe packet goes into the buffer, or the buffer is completed. -/
def deliverLoupeOne (k : Nat) (d : Desc) (s : State) : State :=
  let b := s.deliv.loupeBuf.getD { ring := k, desc := d, bytes := [], count := 0, since := s.localNs }
  match nextLoupe s.loupe with
  | none => s
  | some (bytes, u') =>
    if b.desc.len < bytes.length then
      (if b.count = 0 then completeDesc k b.desc 2 0 [] (modDeliv (fun u => { u with loupeBuf := none }) s) else flushLoupeBuf s)
    else if b.desc.len < b.bytes.length + bytes.length then flushLoupeBuf s
    else
      let b' := { b with bytes := b.bytes ++ bytes, count := b.count + 1 }
      let t := modDeliv (fun u => { u with loupeBuf := some b' }) { s with loupe := u' }
      if b.desc.len < b'.bytes.length + 32 then flushLoupeBuf t else t

/-- Packets go into one buffer while it takes them. -/
def deliverLoupe (k : Nat) (d : Desc) (s : State) : State :=
  let t := deliverLoupeOne k d s
  (List.range s.loupe.packets.length).foldl (fun t _ => if t.deliv.loupeBuf.isSome then deliverLoupeOne k d t else t) t

/-! ### What a ring has to deliver (R410, R415, R443) -/

/-- A line of an earlier run still owed on a stream. -/
def nextOld (s : State) (stream : Nat) : Option Slot := s.deliv.old.find? fun x => x.owed.contains stream

/-- The lowest slot still owed on a stream. -/
def nextSlot (s : State) (stream : Nat) : Option Slot :=
  (nextOld s stream).or (s.deliv.slots.find? fun x =>
    x.owed.contains stream || (x.st == .claimed && s.deliv.streams.contains stream))

/-- The line that a line-data stream delivers next, when it is formed. -/
def nextLine (s : State) (stream : Nat) : Option (Slot × OutLine) :=
  match nextSlot s stream with
  | some x => x.line.map fun l => (x, l)
  | none => none

/-- The ring holds data (R445). -/
def ringHolds (s : State) (k : Nat) : Bool :=
  let r := ring s k
  ringOn r && !bit r.ctrl.toNat 1 &&
    (match ringStream r with
     | 1 => (nextLine s 1).isSome
     | 2 => (nextLine s 2).isSome
     | 3 => (nextLine s 3).isSome
     | 4 => (nextLine s 4).isSome
     | 5 => !(closedGaps s.deliv).isEmpty
     | 6 => !s.loupe.packets.isEmpty
     | 7 => !s.achr.mirror.buf.isEmpty
     | 8 => (deliverable s 0).isSome
     | 9 => (deliverable s 1).isSome
     | _ => false)

/-- R443: it has work: data, and a descriptor to take it. -/
def ringWork (s : State) (k : Nat) : Bool := ringHolds s k && ringReady (ring s k)

/-- R443: a ring may take the next turn: rings in turn in ascending number, the mirror's only when no other has work. -/
def ringTurn (s : State) (k : Nat) : Bool :=
  let mirror (j : Nat) : Bool := ringStream (ring s j) == 7
  let others := (List.range 16).filter fun j => ringWork s j && !mirror j
  if mirror k then ringWork s k && others.isEmpty
  else
    let after := others.filter fun j => decide (s.deliv.turn < j)
    match after.head? with
    | some j => j == k
    | none => others.head? == some k

/-- The first slot owed on a stream is owed on it no more. -/
def oweLess (stream : Nat) : List Slot → List Slot
  | [] => []
  | x :: xs => if x.owed.contains stream then { x with owed := x.owed.filter fun y => y != stream } :: xs
    else x :: oweLess stream xs

/-- R410, R411: one line of a line-data stream. -/
def deliverLine (k : Nat) (d : Desc) (s : State) : State :=
  let stream := ringStream (ring s k)
  match nextLine s stream with
  | none => s
  | some (x, l) =>
    let num := x.num
    let bytes := lineBuffer stream num l
    let t := completeDesc k d (if d.len < bytes.length then 1 else 0) num (bytes.take d.len) s
    let owed := x.owed.filter fun y => y != stream
    let t := modDeliv (fun u =>
      if (nextOld s stream).isSome then { u with old := (oweLess stream u.old).filter fun y => !y.owed.isEmpty }
      else { u with slots := u.slots.map fun y => if y.n = x.n then { y with owed := owed } else y }) t
    settleSlots (if owed.isEmpty then { t with line := { t.line with lastDelivered := some num } } else t)

/-- R387, R390, R410: the oldest mirror record. -/
def deliverMirror (k : Nat) (d : Desc) (s : State) : State :=
  match s.achr.mirror.buf with
  | [] => s
  | r :: rs =>
    let bytes := mirrorRecBytes s.achr.mirror.dropped r
    completeDesc k d (if d.len < bytes.length then 1 else 0) r.line (bytes.take d.len)
      { s with achr := { s.achr with mirror := { s.achr.mirror with buf := rs, dropped := 0 } } }

/-- R411: a posted GAP_LOG or LOUPE descriptor that cannot hold one whole record, or even a packet's header. -/
def tooShort (k : Nat) (d : Desc) (s : State) : Bool :=
  let r := ring s k
  ringReady r && !bit r.ctrl.toNat 1 && decide (d.len < 32) &&
    (ringStream r == 5 && s.deliv.gapBuf.isNone || ringStream r == 6 && s.deliv.loupeBuf.isNone)

/-- LINE_DELIVERY (R406 to R415, R443): a finished line or record and a posted descriptor are both present on a ring; or the
descriptor is too short for any (R411). -/
def execLineDelivery (k : Nat) (d : Desc) (s : State) : Host.Outcome State Fault Refusal :=
  settled (
    if !rootClks s || s.power.present == .doze || !hostReach s then s
    else if tooShort k d s then completeDesc k d 2 0 [] s
    else if !ringTurn s k then s
    else
      let t := match ringStream (ring s k) with
        | 5 => deliverGaps k d s
        | 6 => deliverLoupe k d s
        | 7 => deliverMirror k d s
        | 8 => s
        | 9 => s
        | _ => deliverLine k d s
      if 8 ≤ ringStream (ring s k) then s else modDeliv (fun u => { u with turn := k }) t)

/-- CAMERA_CHUNK_DELIVERY (R443, R652, R655): a descriptor of a camera ring, in the rings' turn. -/
def execCameraChunkDelivery (rx : Nat) (d : Desc) (s : State) : Host.Outcome State Fault Refusal :=
  settled <| match deliverable s rx, ringOf s (8 + rx) with
  | some o, some k =>
    if !(decide (rx < 2) && ringTurn s k && hostReach s && dpClk s) then s
    else
      let served := modDeliv (fun u => { u with turn := k })
      match nextChunk o d.len with
      | none => served (completeDesc k d 2 o.number [] s)
      | some (bytes, o', last) =>
        let t := modRx rx (fun r =>
          let q := if last then r.outQ.drop 1 else o' :: r.outQ.drop 1
          { r with outQ := q
                   tapBusy := r.tapBusy && !(o.cause == 0 && !o.taps.isEmpty && o'.tapsDone == o.taps.length) }) s
        served (camPump (completeDesc k d 0 o.number bytes t))
  | _, _ => s

/-- GAP_RECORD_FLUSH (R410, R418): DELIVER_FLUSH_MS has passed since the open record was begun, or since the first record
was placed in a gap-log or Loupe buffer. -/
def execGapRecordFlush (s : State) : Host.Outcome State Fault Refusal :=
  let old (t0 : Nat) : Bool := decide (t0 + s.deliv.par.flushMs * 1000000 ≤ s.localNs)
  let buf (o : Option FillBuf) : Bool := match o with | some b => decide (0 < b.count) && old b.since | none => false
  let t := if (match s.deliv.gapOpen with | some t0 => old t0 | none => false) then closeGap s else s
  let t := if buf s.deliv.gapBuf then flushGapBuf t else t
  settled (if buf s.deliv.loupeBuf then flushLoupeBuf t else t)

/-- The drain estimate as a report word. -/
def drainWord (s : State) : Nat := s.deliv.drain.floor.toNat % 2 ^ 32

def speedByte (s : State) : Nat := if isScan s then s.line.speed else 0xFF

/-- R448: RPT.HOST_STALL. -/
def hostStall (ringNo cause : Nat) (s : State) : State :=
  reportStall [ringNo + fld cause 4 4 + fld (speedByte s) 8 8, lastDeliv s, occupancy s, drainWord s] s

/-- A ring is stalled: it has held data for HOST_STALL_MS with no descriptor to take it (R445). -/
def stallDue (s : State) (k : Nat) : Bool :=
  let r := ring s k
  !r.stallReported && ringStream r != 7 && ringHolds s k && r.head == r.posted &&
    (match r.stallSince with | some t => decide (t + s.deliv.par.stallMs * 1000000 ≤ s.localNs) | none => false)

/-- HOST_STALL_TIMEOUT (R150, R445). -/
def execHostStallTimeout (s : State) : Host.Outcome State Fault Refusal :=
  settled (match (List.range 16).find? (stallDue s) with
    | some k => hostStall k 1 (modRing k (fun r => { r with stallReported := true }) s)
    | none => s)

/-- R445: since when each ring has held data with no descriptor; kept as time passes. -/
def trackStalls (s : State) : State :=
  (List.range 16).foldl (fun t k =>
    let r := ring s k
    let stalled := ringStream r != 7 && ringHolds s k && r.head == r.posted
    if stalled == r.stallSince.isSome then t
    else modRing k (fun r => { r with stallSince := if stalled then some s.localNs else none,
                                      stallReported := r.stallReported && stalled }) t) s

end Sys2Proof.Machine
end

