-- ==== Sys2Proof/Machine/Form.lean ====
section
/-! DEFINITION. Forming output lines: the captures stored in the delay line (R364, R372), the Achromat's reads for a line
(R365 to R371), the line handed to delivery and Loupe (R370, R413, R414, R450, R470), gaps (R371, R374, R417), the
window of R393, and the row ACHROMAT_FORM_LINE. -/

namespace Sys2Proof.Machine

def modAchr (f : AchrU → AchrU) (s : State) : State := { s with achr := f s.achr }

/-! ### Positions (R364, R366, R370) -/

/-- R364: C₀, the integer part of the compare position of the run's first trigger. -/
def originCounts (s : State) : Int := (s.motion.cmp.g0.getD 0) / 4294967296

/-- G_i in units: the compare position of a grid index. -/
def gridUnits (d : Decl) (s : State) (i : Nat) : Int :=
  unitsOfFixed d (s.motion.cmp.g0.getD 0 + (i : Int) * (s.motion.cmp.gridPitch : Int) - originCounts s * 4294967296)

/-- R375, R573: CAPTURE_PITCH of the grid in force: a LINE.RECONFIGURE changes the grid only at the next LINE.START without
RESUME. -/
def gridPitch (s : State) : Nat := max 1 s.motion.cmp.capPitch

/-- R366, R375: Y_n. -/
def outPos (d : Decl) (s : State) (n : Nat) : Int :=
  match s.achr.base with
  | some (k, y) => y + ((n : Int) - (k : Int)) * (d.geometry.outPitch : Int)
  | none => gridUnits d s 0 + ((marginOf d * gridPitch s : Nat) : Int) - oMin d + ((n * d.geometry.outPitch : Nat) : Int)

/-- R370: the position of an output line in counts. -/
def outCounts (d : Decl) (s : State) (n : Nat) : Int := originCounts s + countsOfUnits d (outPos d s n)

/-- R367: the capture that a channel reads in the native-only configuration. -/
def nativeIndex (d : Decl) (s : State) (n seg c : Nat) : Nat :=
  ((outPos d s n + chanOffset d seg c - gridUnits d s 0) / (gridPitch s : Nat)).toNat

/-! ### The delay line (R364, R372, R430) -/

/-- Captures of the run. -/
def runCaps (s : State) : List Capture := s.caps.filter fun c => !c.cal

def capAt (s : State) (i : Nat) : Option Capture := s.caps.find? fun c => !c.cal && c.index == i

/-- R199, R260: the bubble policy in force: 1 SINGLE, 2 RECAPTURE, 3 DROP. -/
def bubblePolicy (d : Decl) : Nat :=
  if d.system.bubblePolicy = 0 then (if d.system.scan then 2 else 1) else d.system.bubblePolicy

/-- A run in which triggers may still come: armed, or frozen with a resume point held. -/
def runOpen (s : State) : Bool :=
  (inRun s || (s.line.st == .frozen && s.line.resume.isSome)) &&
    (match s.line.drain with
     | .none => true
     | .stopSeam _ => true
     | _ => s.line.admitting)

/-- Every capture of the run has been stored or classed missing. -/
def allStored (s : State) : Bool := (runCaps s).all fun c => decide (c.index < s.achr.stored)

/-- What the Achromat sees of the delay line. A capture that is missing stands at its trigger position G_i (R364). Under
RECAPTURE none that is missing is bridged (R430). -/
def gridOf (d : Decl) (s : State) : Grid :=
  let recapture := d.system.scan && bubblePolicy d == 2 && runOpen s
  { first := s.achr.first, stored := s.achr.stored, ended := !runOpen s && allStored s,
    caps := ((runCaps s).filter fun c => decide (s.achr.first ≤ c.index ∧ c.index < s.achr.stored)).map fun c =>
      { index := c.index, x := if c.gap = 0 then unitsOfCounts d (c.pos.getD 0 - originCounts s) else gridUnits d s c.index,
        present := c.gap == 0 },
    bridgeMax := s.achr.par.bridgeMax,
    hold := fun i => recapture && (match capAt s i with | some c => c.gap != 0 | none => false) }

/-- R364, R372: the next capture, once its readouts have been disposed of, is written into the delay line; one whose
position does not advance is classed missing in the interpolated configurations. -/
def storeOne (d : Decl) (s : State) : State :=
  match capAt s s.achr.stored with
  | none => s
  | some c =>
    if !c.done || (c.gap == 0 && c.pos.isNone) then s
    else
      let p := c.pos.getD 0
      let back := c.gap == 0 && !d.geometry.nativeOnly && (match s.achr.lastPos with | some q => decide (p ≤ q) | none => false)
      let t := modAchr (fun a => { a with
        stored := a.stored + 1
        lastPos := if c.gap == 0 && !back then some p else a.lastPos
        counts := { a.counts with discards := a.counts.discards + (if back then 1 else 0) } }) s
      if back then { t with caps := t.caps.map fun x => if !x.cal && x.index == c.index then { x with gap := 4 } else x } else t

def storeCaptures (d : Decl) (s : State) : State := (List.range s.caps.length).foldl (fun t _ => storeOne d t) s

/-! ### A line's reads (R365 to R371) -/

/-- The channels of a declaration. -/
def channels (d : Decl) : List (Nat × Nat) :=
  (List.range d.segments.length).flatMap fun x => (List.range 3).map fun c => (x, c)

/-- What a channel reads for line `n`. -/
def chanRead (d : Decl) (s : State) (g : Grid) (n : Nat) (ch : Nat × Nat) : ChanRead :=
  if d.geometry.nativeOnly then readNative g (nativeIndex d s n ch.1 ch.2)
  else readInterp g d.geometry.cubic (gridPitch s) (outPos d s n + chanOffset d ch.1 ch.2)

/-- R367: the captures that a channel needs in the interpolated configurations, missing ones at their trigger positions. -/
def neededAt (cubic : Bool) (g : Grid) (t : Int) : List Nat :=
  match (g.caps.filter fun c => decide (c.x ≤ t)).getLast? with
  | none => [g.first]
  | some a =>
    -- φ = 256 advances i by one
    let full := a.present && (match gridAt g (a.index + 1) with
      | some b => b.present && decide (256 ≤ phaseOf t a.x b.x)
      | none => false)
    let i := if full then a.index + 1 else a.index
    if cubic then [i - 1, i, i + 1, i + 2] else [i, i + 1]

/-- R417: the first missing capture, in ascending grid index, among those a channel needs. -/
def chanMissing (d : Decl) (s : State) (g : Grid) (n : Nat) (ch : Nat × Nat) : Option Nat :=
  let missing (i : Nat) : Bool := decide (g.first ≤ i ∧ i < g.stored) && !present g i
  let need := if d.geometry.nativeOnly then [nativeIndex d s n ch.1 ch.2]
    else neededAt d.geometry.cubic g (outPos d s n + chanOffset d ch.1 ch.2)
  (need.find? missing).or (match (chanRead d s g n ch).take with | .gap k => some k | _ => none)

/-- A line's reads, channel by channel. -/
def lineReads (d : Decl) (s : State) (g : Grid) (n : Nat) : List ((Nat × Nat) × ChanRead) :=
  (channels d).map fun ch => (ch, chanRead d s g n ch)

def readsWait (l : List ((Nat × Nat) × ChanRead)) : Bool := l.any fun x => x.2.take == .wait
def isGap : ChanTake → Bool
  | .gap _ => true
  | _ => false
def readsGap (l : List ((Nat × Nat) × ChanRead)) : Bool := l.any fun x => isGap x.2.take

/-- The stored strip of a channel of a capture. -/
def capStrip (s : State) (i seg c : Nat) : List Nat :=
  match capAt s i with
  | some x => match x.segs.find? fun y => y.seg == seg with
    | some y => (y.planes.getD []).getD c []
    | none => []
  | none => []

/-- R367: a channel's values. -/
def chanStrip (d : Decl) (s : State) (ch : Nat × Nat) (t : ChanTake) : List Nat :=
  let strips := (readIndices t).map fun i => (i, capStrip s i ch.1 ch.2)
  let at_ (j i : Nat) : Nat := ((assoc strips i).getD []).getD j 0
  (List.range (d.segments.getD ch.1 default).pixels).map fun j => chanValue (at_ j) t

/-! ### The line formed (R368, R370, R380, R413, R414) -/

/-- R382, R383: the coefficients in force. -/
def rsCoef (d : Decl) (s : State) : List Int := s.achr.custom.getD (derivedSet d.system.nativeDpi d.geometry.outDpi)

/-- R205, R413: the columns of the strings faulted in a capture read: lowest FIRST_COL, highest LAST_COL. -/
def faultCols (d : Decl) (mask : Nat) : Nat × Nat :=
  let l := (d.strings.filter fun p => bit mask p.1).flatMap fun p => p.2.map
  match l with
  | [] => (0, 0)
  | x :: xs => (xs.foldl (fun m y => min m y.firstCol) x.firstCol, xs.foldl (fun m y => max m y.lastCol) x.lastCol)

/-- E_L and E_S of each declared segment at a capture. -/
def expsOf (d : Decl) (c : Capture) : List (Nat × Nat) :=
  d.segments.mapIdx fun i g => (expL g (vget c.par.segs i), expS g (vget c.par.segs i))

/-- R414: the flags that the captures read give a line. -/
def capFlags (d : Decl) (l : List Capture) : Nat :=
  let cls (k : RClass) : Bool := l.any fun c => c.segs.any fun x => x.readouts.any fun r => r.cls == some k
  let mixed := l.any fun c => match expsOf d c with
    | [] => false
    | e :: es => es.any fun x => x != e
  flag (cls .short) 2 + flag (cls .long) 3 + flag (l.any fun c => c.segs.any fun x => x.partialMerge) 4 +
    flag (l.any fun c => c.faultStrings != 0) 5 + flag mixed 8 + flag (l.any fun c => c.timeSlew) 9

/-- What forming line `n` gives: the registered planes, the output line, and what Loupe takes of it. -/
structure Formed where
  reg : List (List Nat)
  line : OutLine
  loupe : LoupeLine
  /-- Lowest grid index read. -/
  low : Nat
  deriving Repr, Inhabited

/-- The line `n` formed from its reads (R367, R368, R370, R380). -/
def formLine (d : Decl) (s : State) (n : Nat) (reads : List ((Nat × Nat) × ChanRead)) : Formed :=
  let strips := reads.map fun x => (x.1, chanStrip d s x.1 x.2.take)
  let strip (seg c : Nat) : List Nat := ((strips.find? fun y => y.1.1 == seg && y.1.2 == c).map Prod.snd).getD []
  let reg := (List.range 3).map fun c => registered d.segments (fun x => strip x c)
  let idx := (reads.flatMap fun x => readIndices x.2.take).eraseDups
  let top := idx.foldl max 0
  let caps := idx.filterMap (capAt s)
  let hi := (capAt s top).getD default
  let faults := caps.foldl (fun m c => m ||| c.faultStrings) 0
  let gap := reads.any fun x => x.2.bridged || x.2.stretch
  let trans := match s.achr.transition with | some (a, b) => decide (a ≤ n ∧ n < b) | none => false
  let mark := s.deliv.seam.mark
  let cols := faultCols d faults
  let epoch := match s.achr.epochFrom with
    | some (l, e, k) => if l ≤ n ∧ top < k then e else hi.epoch
    | none => hi.epoch
  let exps := (expsOf d hi).headD (0, 0)
  let planes := reg.map (resamplePlane d (rsCoef d s))
  let weights := (vget s.cal.banks hi.bank).weights
  let joins := (List.range (d.segments.length - 1)).map fun k =>
    let v := (d.segments.getD k default).overlapNext
    restored (joinWeight weights d.segments k 1) ((strip k 1).drop ((d.segments.getD k default).pixels - v)) ((strip (k + 1) 1).take v) v
  { reg := reg
    line := { epoch := epoch, timeNs := hi.issueNs, position := outCounts d s n,
              flags := flag mark 0 + flag gap 1 + capFlags d caps + flag trans 6 + flag (mark && s.deliv.seam.offset) 7,
              stripe := (s.loupe.cur.map Stripe.number).getD 0, expL := exps.1, expS := exps.2, expSet := hi.expSet,
              speed := if d.system.scan then hi.speed else 0xFF, format := d.geometry.format, seamCount := s.line.seams,
              faultStrings := faults, firstCol := cols.1, lastCol := cols.2, planes := planes }
    loupe := { planes := planes, epoch := epoch, excluded := gap || trans, seam := mark, joins := joins }
    low := idx.foldl min top }

/-! ### The window of R393 -/

def achrReport (s : State) : State :=
  let c := s.achr.counts
  let sat (v : Nat) : Nat := min v 65535
  if c == {} || !fwRunning s then s
  else
    fwReport 0x0031 [s.achr.winNum, sat c.bridged + 65536 * sat c.unformed, sat c.discards + 65536 * sat c.stretches,
      lastAdm s] s

/-- A window ends. -/
def achrWindow (s : State) : State :=
  modAchr (fun a => { a with winFirst := a.next, winNum := outNumber s a.next, counts := {} }) (achrReport s)

/-- The line `next` has been formed or fixed as a gap. -/
def achrAdvance (s : State) : State :=
  let t := modAchr (fun a => { a with next := a.next + 1 }) s
  if t.achr.winFirst + 1024 ≤ t.achr.next then achrWindow t else t

/-! ### Forming, and fixing gaps -/

/-- The least grid index whose G_i is at or beyond `t` units. -/
def gridFrom (d : Decl) (s : State) (t : Int) : Nat :=
  let near := ((t - gridUnits d s 0) / (gridPitch s : Nat)).toNat - 2
  (((List.range 8).map fun i => near + i).find? fun i => decide (t ≤ gridUnits d s i)).getD (near + 8)

/-- R178, R367: the grid index of the last capture that output line `n` needs, reckoned by the trigger positions G_i: those that
R237 latches are not known yet at the trigger that R178 asks about (DESIGN CHOICE, log 88). -/
def lastNeeded (d : Decl) (s : State) (n : Nat) : Nat :=
  if d.geometry.nativeOnly then (channels d).foldl (fun m ch => max m (nativeIndex d s n ch.1 ch.2)) 0
  else gridFrom d s (outPos d s n + oMax d + 1) + (if d.geometry.cubic then 1 else 0)

/-- The lowest grid index that output line `n` can need. -/
def firstNeededOf (d : Decl) (s : State) (n : Nat) : Nat :=
  if d.geometry.nativeOnly then
    (channels d).foldl (fun m ch => min m (nativeIndex d s n ch.1 ch.2)) (nativeIndex d s n 0 0)
  else s.achr.first

/-- Captures that no later line can need leave the delay line's list. -/
def pruneCaps (low : Nat) (s : State) : State := { s with caps := s.caps.filter fun c => c.cal || decide (low ≤ c.index + 64) }

/-- R371, R401, R417, R418: the line is fixed as a gap. A number for which no slot has been claimed yet takes none (log 96). -/
def fixGap (d : Decl) (n : Nat) (g : Grid) (s : State) : State :=
  let miss := (channels d).filterMap (chanMissing d s g n)
  let first := miss.foldl min (miss.headD 0)
  let c := (capAt s first).getD default
  let t := modAchr (fun a => { a with counts := { a.counts with unformed := a.counts.unformed + 1 } }) s
  let t := openStripe n (outPixels d) (d.segments.length - 1) t
  let t := loupePosition none t
  let t := modDeliv (fun u => { u with claim := max u.claim (n + 1) }) t
  achrAdvance (freeSlot n (addGap { first := outNumber s n, count := 1, cause := if c.gap = 0 then 2 else c.gap, span := false, epoch := c.epoch,
                                    timeNs := c.issueNs, position := outCounts d s n } t))

/-- R385, R386: the mirror's copy of a registered line. -/
def mirrorLine (d : Decl) (n : Nat) (f : Formed) (s : State) : State :=
  let num := outNumber s n
  if !mirrorWants s.achr.mirror.sel 5 num none then s
  else
    let cut (p : List Nat) : List Nat := match s.achr.mirror.sel.seg with
      | some k => (p.drop (pPos d.segments k)).take (d.segments.getD k default).pixels
      | none => p
    let ps := f.reg.map cut
    let px := (ps.headD []).length
    mirrorPut { point := 5, seg := s.achr.mirror.sel.seg.getD 0xFF, exp := 2,
                flags := flag (bit f.line.flags 4) 1 + flag (bit f.line.flags 2) 2 + flag (bit f.line.flags 3) 3 +
                  flag (bit f.line.flags 1) 4,
                line := num, pixels := px, position := f.line.position, timeNs := f.line.timeNs,
                samples := interleave px 2 id ps } s

/-- The line is formed and written to its slot; Loupe reads it (R450). -/
def writeLine (d : Decl) (n : Nat) (reads : List ((Nat × Nat) × ChanRead)) (s : State) : State :=
  let t := openStripe n (outPixels d) (d.segments.length - 1) s
  let f := formLine d t n reads
  let b := reads.any fun x => x.2.bridged
  let st := reads.any fun x => x.2.stretch
  let t := modAchr (fun a => { a with counts := { a.counts with
    bridged := a.counts.bridged + (if b then 1 else 0), stretches := a.counts.stretches + (if st then 1 else 0) } }) t
  let t := mirrorLine d n f (loupePosition (some f.loupe) (closeGap t))
  let t := fillSlot n f.line (modDeliv (fun u => { u with seam := { u.seam with mark := false, offset := false } }) t)
  pruneCaps f.low (achrAdvance t)

/-- R432, step 9: a line below n_r is formed again from the captures of the resume: its green samples are kept for the
join check, and nothing of it is delivered. A line that cannot be formed again leaves an empty copy. -/
def reformLine (d : Decl) (n : Nat) (reads : List ((Nat × Nat) × ChanRead)) (s : State) : State :=
  let copy := if readsGap reads then [] else greenCodes d.geometry.format (formLine d s n reads).line.planes
  modAchr (fun a => { a with next := a.next + 1 })
    (modDeliv (fun u => { u with seam := { u.seam with copies := u.seam.copies ++ [copy] } }) s)

/-- The next line is one of the run that may be formed or fixed as a gap: a position is known for it, LINE_COUNT is not past,
and no join check is awaited. -/
def lineOpen (s : State) : Bool :=
  s.deliv.seam.phase != .join && (s.line.lineCount == 0 || decide (s.achr.next < s.line.lineCount)) && s.motion.cmp.g0.isSome

/-- The next line may be formed: it has a slot claimed for it, or is one that a seam forms again. -/
def formOpen (s : State) : Bool :=
  let n := s.achr.next
  (s.deliv.seam.phase == .join && decide (n < s.deliv.seam.nr)) ||
    (lineOpen s && s.deliv.slots.any fun x => x.n == n && x.st == .claimed)

/-- R371, R374: the next line, for which no slot has been claimed since its triggers were not admitted, can only become a gap
(log 96). -/
def gapOpen (s : State) : Bool := lineOpen s && s.achr.next == s.deliv.claim

/-- The next line's reads, when the Achromat can form it or fix it as a gap now (R369, R374). -/
def formable (d : Decl) (s : State) : Option (List ((Nat × Nat) × ChanRead)) :=
  if !(formOpen s || gapOpen s) then none
  else
    let r := lineReads d s (gridOf d s) s.achr.next
    if readsWait r || !(formOpen s || readsGap r) then none else some r

/-- ACHROMAT_FORM_LINE (R369): one output line, once every capture it needs is present or missing. -/
def formNext (s : State) : State :=
  match s.decl with
  | none => s
  | some d =>
    let t := storeCaptures d s
    match formable d t with
    | none => t
    | some r =>
      let n := t.achr.next
      if t.deliv.seam.phase == .join && decide (n < t.deliv.seam.nr) then reformLine d n r t
      else if readsGap r then fixGap d n (gridOf d t) t
      else writeLine d n r t

end Sys2Proof.Machine
end

