-- ==== Sys2Proof/Machine/Lamp.lean ====
section
/-! DEFINITION. Lamp strings: R480 to R489, R510 to R527, R781, R782. -/

namespace Sys2Proof.Machine

/-! ### Codes, levels and ceilings -/

/-- The threshold code of a current: C(I) = ⌊I × SENSE_UOHM / 195,312.5 + 1/2⌋ (R481). -/
def senseCode (uohm ma : Nat) : Nat := (4 * ma * uohm + 390625) / 781250

/-- The current of a target code, in mA, rounded half up. -/
def codeMa (uohm : Nat) (code : Rat) : Nat :=
  if uohm = 0 then 0 else ((code * 390625 / 2 / (uohm : Rat)) + 1 / 2).floor.toNat

/-- R488: I_set in mA of a level. -/
def iSetOf (d : DString) (level : Nat) : Nat :=
  if 2500 ≤ level then (d.iNom * level + 5000) / 10000 else (d.iNom + 2) / 4

/-- R488: the dimming fraction b of a level; of a string that no LAMP.SET has set (level 0), nothing is dimmed (DESIGN CHOICE,
log 99). -/
def dimOf (level : Nat) : Rat := if 2500 ≤ level || level = 0 then 0 else 1 - (level : Rat) / 2500

def modStr (n : Nat) (f : LampStr → LampStr) (s : State) : State := { s with lamps := vmod s.lamps n f }
def str (s : State) (n : Nat) : LampStr := vget s.lamps n

/-- The derating ceiling (R522, R523): I_NOM_MA unless lowered. -/
def derateCeil (d : DString) (x : LampStr) : Nat := x.derated.getD d.iNom

/-- The present ceiling in mA: the lower of the limit-block ceiling and the derating ceiling (R488). -/
def ceilingMa (s : State) (n : Nat) (d : DString) : Nat := min (limitN (.strI n) s) (derateCeil d (str s n))

/-- R488: C_set at a string's level. -/
def cSet (s : State) (n : Nat) (d : DString) : Nat :=
  senseCode d.senseUohm (min (iSetOf d (str s n).level) (ceilingMa s n d))

/-- R518, R782: the target in RECOVERY, in mA. -/
def recoverMa (s : State) (n : Nat) (d : DString) : Nat :=
  min (min d.iRecover (iSetOf d (str s n).level)) (ceilingMa s n d)

/-- The code a string in STARTING moves toward (R516, R520). -/
def goalCode (s : State) (n : Nat) (d : DString) : Nat :=
  if (str s n).restart then senseCode d.senseUohm (recoverMa s n d) else cSet s n d

/-- R519: the overcurrent code C_oc = ⌊1.25 × C(ceiling)⌋. -/
def ocCode (s : State) (n : Nat) (d : DString) : Nat := 5 * senseCode d.senseUohm (ceilingMa s n d) / 4

/-- R485: the threshold of a period in which `lit` lamps are lit. -/
def periodThreshold (s : State) (n : Nat) (d : DString) (lit : Nat) : Int :=
  let x := str s n
  clampI 0 ((ocCode s n d : Int) - 32) (x.target.floor + vget x.ff lit)

/-- The stage switches in these states (R512), and during a V-I test (R517). -/
def switching (x : LampStr) : Bool :=
  x.test.isSome || (match x.st with
    | .starting => true
    | .on => true
    | .recovery => true
    | _ => false)

def strCode : StrState → Nat
  | .off => 0
  | .starting => 1
  | .on => 2
  | .recovery => 3
  | .safe => 4
  | .fault => 5

/-- R489: the limit block's duty ceiling of a string, at most 1,228. -/
def dutyCeiling (s : State) (n : Nat) : Nat := min 1228 (limitN (.strDuty n) s)

/-- R489: F_j set to `duty`, with the trim kept so that F_j + t_j stays within 0 and the ceiling. -/
def setDuty (ceil duty : Nat) (l : Lamp) : Lamp :=
  { l with duty := duty, trim := clampI (-(duty : Int)) ((ceil : Int) - (duty : Int)) l.trim }

/-- R489: the lamp's bypass fraction β_j. -/
def betaOf (x : LampStr) (l : Lamp) : Rat :=
  let b := dimOf x.level
  let f : Rat := (((l.duty : Int) + l.trim : Int) : Rat) / 4096
  b + f - b * f

/-- R507: D_j at κ, and whether it saturates. -/
def dutyOf (kappa : Rat) (x : LampStr) (l : Lamp) : Nat × Bool :=
  let d := (4096 * betaOf x l / kappa + 1 / 2).floor.toNat
  (min 4095 d, decide (4095 < d))

/-- R525: a capture now would carry the string in FAULT_STRINGS. -/
def strMarked (s : State) (n : Nat) : Bool :=
  let x := str s n
  match dString? s n with
  | none => false
  | some d =>
    (x.st == .starting && x.setInRun) || x.st == .recovery || x.st == .safe || x.st == .fault ||
    (switching x && decide (derateCeil d x < iSetOf d x.level)) || x.markRetired || x.markRebalanced

/-- R525: the strings a capture carries in FAULT_STRINGS at this moment. -/
def faultStrings (s : State) : Nat :=
  (List.range 16).foldl (fun m n => m + flag (strMarked s n) n) 0

/-- Captures still integrating carry every string marked at any moment of their integration (R525). -/
def markCaptures (s : State) : State :=
  let m := faultStrings s
  { s with caps := s.caps.map fun c => if s.localNs ≤ c.intEnd then { c with faultStrings := c.faultStrings ||| m } else c }

/-! ### Reports -/

/-- R526: RPT.LAMP_EVENT. -/
def lampEvent (n ev before after lamp dev sw : Nat) (advised : Bool) (s : State) : State :=
  let x := str s n
  let ceil := match dString? s n with | some d => ceilingMa s n d | none => 0
  fwReport 0x0060 [fld n 0 8 + fld ev 8 8 + fld before 16 8 + fld after 24 8,
    fld lamp 0 16 + fld dev 16 8 + fld sw 24 8, fld x.meanMa 0 16 + fld (x.meanMv / 10) 16 16,
    fld ceil 0 16 + flag advised 16, lastAdm s] s

/-- An event of a string that names no lamp. -/
def strEvent (n ev before after : Nat) (s : State) : State := lampEvent n ev before after 0xFFFF 0xFF 0 false s

/-- An event of the lamp link or of a bypass device. -/
def linkEvent (ev dev : Nat) (s : State) : State := lampEvent 0xFF ev 0 0 0xFFFF dev 0 false s

/-! ### Verbs in progress -/

def Busy.lampOn (n : Nat) : Busy → Bool
  | .lampSet l => l.contains n
  | _ => false

def Busy.testOn (n : Nat) : Busy → Bool
  | .lampTest m => m == n
  | _ => false

def Busy.recoverOn (n : Nat) : Busy → Bool
  | .lampRecover m _ => m == n
  | _ => false

/-- The field list of LAMP.TEST's reply: u16 mA and u32 mV for each point (R163, R187). -/
def testReply (m : List (Nat × Nat)) : List Byte :=
  m.flatMap fun p => leBytes 2 p.1 ++ [0#8, 0#8] ++ leBytes 4 p.2

/-- R194, R517: a V-I test of the string ends early with the points measured so far. -/
def abortTest (n : Nat) (s : State) : State :=
  match (str s n).test with
  | none => s
  | some t => endBusy (Busy.testOn n) stState 0x0100 (testReply t.measured) (modStr n (fun x => { x with test := none }) s)

/-- LAMP.SET and LAMP.RECOVER reply when every string addressed is at level (R187). -/
def lampSettled (s : State) : State :=
  match s.fw.busy with
  | some (_, .lampSet l) =>
    if l.all fun n => (str s n).st != .starting then endBusy (fun _ => true) stOk 0 [] s else s
  | some (_, .lampRecover n _) =>
    if (str s n).st != .starting then endBusy (fun _ => true) stOk 0 [] s else s
  | _ => s

/-! ### The stage off, on, and its claim -/

/-- The stage is off: both gates low, the target 0, its grant and claim returned. -/
def stageOff (n : Nat) (s : State) : State :=
  dropClaims (.string n) (returnGrants (.string n) (unwaitGrant (.string n) .lampRise
    (modStr n (fun x => { x with gh := false, gl := false, periodAt := none, target := 0, held := false, restart := false, stepWanted := false }) s)))

/-- R515: the standing claim: VX[N] in V times the present current target in mA. -/
def claimLamp (n : Nat) (d : DString) (s : State) : Bool × State :=
  let x := str s n
  setClaim (.string n) d.budget (vget x.vx d.lamps * codeMa d.senseUohm x.target / 1000) s

/-- A string enters RECOVERY (R518): its target falls at once to the recovery current. -/
def enterRecovery (n : Nat) (s : State) : State :=
  match dString? s n with
  | none => s
  | some d =>
    let c : Rat := senseCode d.senseUohm (recoverMa s n d)
    let t := modStr n (fun x => { x with st := .recovery, target := if x.target < c then x.target else c,
                                         updated := s.localNs, held := false, restart := false }) s
    (claimLamp n d (returnGrants (.string n) t)).2

/-- R519, R527: a fault that stops the stage. `bitNo` is the fault flag, `ev` the event. -/
def strFault (n bitNo ev : Nat) (open_ : Bool) (s : State) : State :=
  let before := strCode (str s n).st
  let wasOn := (str s n).st == .on
  let t := abortTest n (stageOff n s)
  let t := modStr n (fun x => { x with st := .fault, flags := x.flags ||| 2 ^ bitNo, causeOpen := open_ }) t
  let t := strEvent n ev before 5 t
  let t := fwLog 0x0006 [n, ev] t
  let t := endBusy (Busy.lampOn n) stState 0x0101 [] t
  let t := endBusy (Busy.recoverOn n) stState 0x0101 [] t
  markCaptures (if wasOn then calLampLost 0x0101 t else t)

/-- R106, R513: the effect of LAMPS.SAFE. The stages are off until a lamp verb for the string is accepted; an OFF string
stays OFF. The verbs it meets fare as R194 states. -/
def lampsSafe (s : State) : State :=
  let t := (List.range 16).foldl (fun t n =>
    let t := abortTest n (stageOff n t)
    modStr n (fun x => { x with safed := true, st := if x.st = .off then .off else .safe }) t) s
  let t := match t.fw.busy with
    | some (_, .lampSet _) => abortBusy (fun _ => true) t
    | some (_, .lampRecover _ _) => abortBusy (fun _ => true) t
    | _ => t
  markCaptures (calLampLost 0x0100 t)

/-! ### Rises and falls -/

/-- R515, R749: the grant for a start or a rise to a current. -/
def askRise (n : Nat) (d : DString) (ma : Nat) (s : State) : Bool × State :=
  askGrant (.string n) .lampRise [(d.budget, d.vMax * ma / 1000)] ((d.softMs + 100) * 1000000) s

/-- R754: the running ageing records of some lamps of a string. -/
def countLamps (n : Nat) (f : LampRecord → LampRecord) (js : List Nat) (s : State) : State :=
  let put (l : List (Nat × LampRecord)) (j : Nat) : List (Nat × LampRecord) :=
    let k := 24 * n + j
    (l.filter fun p => p.1 != k) ++ [(k, f ((assoc l k).getD {}))]
  { s with live := { s.live with lamps := js.foldl put s.live.lamps } }

/-- The lamps of a declared string. -/
def lampsOf (s : State) (n : Nat) : List Nat := List.range (((dString? s n).map DString.lamps).getD 0)

/-- A string enters STARTING toward its goal (R513, R516). -/
def startStr (n : Nat) (lit : Bool) (s : State) : State :=
  let wasOn := (str s n).st == .on
  let t := if lit then countLamps n (fun r => { r with starts := min (r.starts + 1) (2 ^ 32 - 1) }) (lampsOf s n) s else s
  let t := modStr n (fun x => { x with st := .starting, updated := s.localNs, held := false, allLit := lit || x.allLit,
                                       safed := false }) t
  -- R343: no urgent verb takes a string from ON to STARTING.
  if wasOn then calLampLost 0x0101 t else t

/-- R516: the goal reached: ON, or RECOVERY after a restart under R520; the grant is returned, the claim follows; the
first ON after a declaration spreads the feed-forward table (R487). -/
def arriveStr (n : Nat) (d : DString) (s : State) : State :=
  let t := returnGrants (.string n) (unwaitGrant (.string n) .lampRise s)
  let t := modStr n (fun x =>
    if x.restart then { x with st := .recovery, restart := false }
    else
      let ffN := vget x.ff d.lamps
      let ff := if x.learned then x.ff else
        vmapIdx (fun i f => if i < d.lamps then (2 * ffN * i + d.lamps) / (2 * (d.lamps : Int)) else f) x.ff
      { x with st := .on, allLit := false, learned := true, ff := ff, loopArm := x.loop,
               lamps := vmap (fun l => { l with found := false }) x.lamps }) t
  lampSettled (claimLamp n d t).2

/-- R484, R514: at a line mark the target of a string in RECOVERY falls to the recovery current of its stored level. -/
def lowerTarget (n : Nat) (d : DString) (s : State) : State :=
  let c : Rat := senseCode d.senseUohm (recoverMa s n d)
  if c < (str s n).target then (claimLamp n d (modStr n (fun y => { y with target := c }) s)).2 else s

/-- R484, R517: at a line mark a V-I test's next point becomes the target. -/
def testTarget (n : Nat) (d : DString) (t : LampTest) (s : State) : State :=
  if t.since.isSome then s
  else modStr n (fun x => { x with test := some { t with since := some s.localNs }
                                   target := (senseCode d.senseUohm (t.points.getD t.measured.length 0) : Rat) }) s

/-- R484, R516: at a line mark a starting string's target moves in a straight line toward its goal, at C(I_NOM_MA) per
SOFTSTART_MS; a target whose standing claim is refused is held (R749). -/
def moveTarget (n : Nat) (s : State) : State :=
  let x := str s n
  match dString? s n with
  | none => s
  | some d =>
    if let some t := x.test then testTarget n d t s
    else if x.st == .recovery then lowerTarget n d s
    else if x.st != .starting then s
    else
      let goal : Rat := goalCode s n d
      let step : Rat := (senseCode d.senseUohm d.iNom : Rat) * ((s.localNs - x.updated : Nat) : Rat) /
        ((d.softMs * 1000000 : Nat) : Rat)
      let next : Rat := if x.target < goal then (if x.held then x.target else min goal (x.target + step))
        else max goal (x.target - step)
      let t := modStr n (fun x => { x with target := next, updated := s.localNs }) s
      let c := claimLamp n d t
      if c.1 then (if next = goal then arriveStr n d c.2 else c.2)
      else modStr n (fun y => { y with target := x.target }) c.2

/-- R524: a ceiling that has fallen below a string's target takes the target with it at once. -/
def capTarget (n : Nat) (s : State) : State :=
  match dString? s n with
  | none => s
  | some d =>
    let x := str s n
    let c : Rat := senseCode d.senseUohm (ceilingMa s n d)
    if switching x && decide (c < x.target) then
      (claimLamp n d (modStr n (fun x => { x with target := c }) s)).2
    else s

/-! ### Fault detection events (R519 to R521) -/

/-- The columns of two lamps touch or overlap (R521). -/
def colsTouch (a b : DLamp) : Bool := decide (a.firstCol ≤ b.lastCol + 1 ∧ b.firstCol ≤ a.lastCol + 1)

/-- R521: duties of the lamps of other strings whose columns touch the faulted lamp's are set to 0. -/
def rebalance (n lamp : Nat) (s : State) : State :=
  match (dString? s n).bind fun d => d.map[lamp]? with
  | none => s
  | some l =>
    (dStrings s).foldl (fun t p =>
      if p.1 = n then t
      else
        let hit := (List.range p.2.lamps).filter fun j => match p.2.map[j]? with
          | some k => colsTouch l k && (vget (str t p.1).lamps j).duty != 0
          | none => false
        if hit.isEmpty then t
        else modStr p.1 (fun x => { x with
          lamps := hit.foldl (fun v j => vmod v j (setDuty (dutyCeiling s p.1) 0)) x.lamps, markRebalanced := true }) t) s

/-- The bypass device and switch of a lamp. -/
def lampSwitch (s : State) (n lamp : Nat) : Nat × Nat :=
  match (dString? s n).bind fun d => d.map[lamp]? with
  | some l => (l.device, l.sw)
  | none => (0xFF, 0)

/-- A lamp is retired: its switch is to be held closed through BYP_FORCE (R518, R520). -/
def retireLamp (n lamp : Nat) (s : State) : State :=
  modStr n (fun x => { x with lamps := vmod x.lamps lamp fun l => { l with retired := true }, markRetired := true }) s

def noteFound (n : Nat) (found : List Nat) (s : State) : State :=
  modStr n (fun x => { x with lamps := found.foldl (fun v j => vmod v j fun l => { l with found := true }) x.lamps }) s

/-! ### LAMP verbs (R187) -/

/-- The strings an object addresses: one, or every declared one. -/
def strsOf (c : Cmd) (s : State) : List Nat :=
  if objKind c.req.obj = kString then [objIdx c.req.obj] else (dStrings s).map Prod.fst

/-- "Declared except CALIBRATING" (R187, R193). -/
def notCal (s : State) : Check :=
  if s.line.st = .booted then some (stState, 0)
  else need (s.line.st != .calibrating) stState 0x0102

/-- One string of a LAMP.SET (R513 to R515): the status of a refusal, or none. -/
def setOne (level : Nat) (loop : Bool) (n : Nat) (s : State) : Check × State :=
  match dString? s n with
  | none => (none, s)
  | some d =>
    let x := str s n
    let store (t : State) : State := modStr n (fun y => { y with level := level, loop := loop, safed := false,
                                                                 setInRun := inRun s }) t
    let iNew := min (iSetOf d level) (ceilingMa s n d)
    let rise := decide (x.target < (senseCode d.senseUohm iNew : Rat))
    match x.st with
    | .recovery => (none, store s)
    | .fault => (some (stState, 0x0101), s)
    | .off | .safe =>
      let g := askRise n d iNew s
      if g.1 then (none, startStr n true (modStr n (fun y => { y with target := 0 }) (store g.2)))
      else (some (stNoGrant, 0), g.2)
    | .on =>
      if level = x.level && (senseCode d.senseUohm iNew : Rat) = x.target then
        -- R510, R511: the loop begins anew where it did not run
        (none, store (modStr n (fun y => { y with loopArm := loop && (y.loopArm || !y.loop) }) s))
      else if rise then
        let g := askRise n d iNew s
        if g.1 then (none, startStr n false (store g.2)) else (some (stNoGrant, 0), g.2)
      else (none, startStr n false (store s))
    | .starting =>
      if rise && decide (cSet s n d < senseCode d.senseUohm iNew) then
        let g := askRise n d iNew s
        if g.1 then (none, startStr n false (store g.2)) else (some (stNoGrant, 0), g.2)
      else (none, startStr n false (store s))

/-- LAMP.SET on each string addressed, in ascending order, up to the first refusal. -/
def setAll (level : Nat) (loop : Bool) : List Nat → State → Check × State
  | [], s => (none, s)
  | n :: ns, s =>
    let r := setOne level loop n s
    match r.1 with
    | some e => (some e, r.2)
    | none => setAll level loop ns r.2

/-- R187, R488, R504, R513 to R515: LAMP.SET. -/
def vLampSet (c : Cmd) (s : State) : Ans × State :=
  let strs := strsOf c s
  checked [objIs [kString, kDevice] c s, modsIn 1 c, shape [.u 2] c,
      need (decide (1 ≤ pu c 0 2 ∧ pu c 0 2 ≤ 10000)) stBadArg 0, notCal s,
      need (strs.all fun n => (str s n).st != .fault) stState 0x0101,
      need (s.lampLink.st == .up) stState 0x0101] s
    (let r := setAll (pu c 0 2) (modBit c 0) strs s
     match r.1 with
     | some e => refuse e.1 e.2 r.2
     | none =>
       let t := if inRun s then bumpEpoch r.2 else r.2
       let t := markCaptures t
       if strs.all fun n => (str t n).st != .starting then done [] t else (.wait (.lampSet strs), t))

/-- R513, R194, R527: one string of a LAMP.OFF. -/
def offOne (n : Nat) (s : State) : State :=
  let t := abortTest n (stageOff n s)
  let t := modStr n (fun x => { x with st := .off, flags := 0, causeOpen := false, safed := false, setInRun := false }) t
  abortBusy (Busy.lampOn n) (abortBusy (Busy.recoverOn n) t)

/-- R187, R194: LAMP.OFF. -/
def vLampOff (c : Cmd) (s : State) : Ans × State :=
  checked [objIs [kString, kDevice] c s, modsIn 0 c, noPayload c, declared s] s
    (let strs := strsOf c s
     let wasOn := strs.any fun n => (str s n).st == .on
     let t := strs.foldl (fun t n => offOne n t) s
     done [] (if wasOn then calLampLost 0x0100 t else t))

/-- R187: LAMP.STATUS's bytes for one string. -/
def strStatus (s : State) (n : Nat) : List Byte :=
  let x := str s n
  let ceil := match dString? s n with | some d => ceilingMa s n d | none => 0
  let limited := match dString? s n with
    | some d => decide (derateCeil d x < iSetOf d x.level)
    | none => false
  [b8 (strCode x.st), b8 (x.flags + flag limited 7)] ++ leBytes 2 x.meanMa ++ leBytes 2 (x.meanMv / 10) ++ leBytes 2 ceil

/-- R187: LAMP.STATUS. -/
def vLampStatus (c : Cmd) (s : State) : Ans × State :=
  checked [objIs [kString, kDevice] c s, modsIn 0 c, noPayload c, declared s] s
    (done ((strsOf c s).flatMap (strStatus s)) s)

/-- R187, R517: LAMP.TEST. -/
def vLampTest (c : Cmd) (s : State) : Ans × State :=
  let n := objIdx c.req.obj
  let k := pu c 0 1
  let pts := (List.range k).map fun i => pu c (2 + 2 * i) 2
  match dString? s n with
  | none => checked [objIs [kString] c s] s (refuse stNotDeclared 0 s)
  | some d =>
    checked [objIs [kString] c s, modsIn 0 c,
        need (decide (c.req.payload.length = 2 + 2 * k ∧ 4 ≤ c.req.payload.length)) stBadArg 0,
        need (c.req.payload.getD 1 0#8 == 0#8) stBadArg 4,
        need (decide (1 ≤ k ∧ k ≤ 16)) stBadArg 0,
        notCal s, need ((str s n).st != .fault) stState 0x0101,
        need (s.line.st == .ready && (str s n).st == .off) stState 0,
        need (pts.all fun p => decide (p ≤ ceilingMa s n d)) stLimit 0] s
      (let g := askRise n d (pts.foldl max 0) s
       if g.1 then
         (.wait (.lampTest n), modStr n (fun x => { x with test := some { points := pts, measured := [], since := none }, safed := false }) g.2)
       else refuse stNoGrant 0 g.2)

/-- R187, R504, R513, R518: LAMP.RECOVER. Without LEAVE it takes a string from STARTING too, as R513 lists; R187 names only ON and
RECOVERY (DEDUCED, log 99). -/
def vLampRecover (c : Cmd) (s : State) : Ans × State :=
  let n := objIdx c.req.obj
  match dString? s n with
  | none => checked [objIs [kString] c s] s (refuse stNotDeclared 0 s)
  | some d =>
    let x := str s n
    let leave := modBit c 0
    checked [objIs [kString] c s, modsIn 1 c, noPayload c, notCal s, need (x.st != .fault) stState 0x0101,
        need (x.st == .on || x.st == .recovery || (!leave && x.st == .starting)) stState 0,
        need (!leave || s.lampLink.st == .up) stState 0x0101] s
      (if !leave then
        done [] (markCaptures (if x.st = .recovery then s else enterRecovery n s))
       else if x.st = .on then done [] s
       else
         let iNew := min (iSetOf d x.level) (ceilingMa s n d)
         let retired := (List.range d.lamps).filter fun j => (vget x.lamps j).found
         let fin (t : State) : Ans × State :=
           (.wait (.lampRecover n true), startStr n false (retired.foldl (fun u j => retireLamp n j u) t))
         if decide (x.target < (senseCode d.senseUohm iNew : Rat)) then
           let g := askRise n d iNew s
           if g.1 then fin g.2 else refuse stNoGrant 0 g.2
         else fin s)

/-- R187, R489: LAMP.DUTY. The duties are held at once and sent; they apply at the first line mark after the APPLY. -/
def vLampDuty (c : Cmd) (s : State) : Ans × State :=
  let n := objIdx c.req.obj
  match dString? s n with
  | none => checked [objIs [kString] c s] s (refuse stNotDeclared 0 s)
  | some d =>
    let ds := (List.range d.lamps).map fun j => pu c (2 * j) 2
    checked [objIs [kString] c s, modsIn 0 c, need (decide (c.req.payload.length = 2 * d.lamps)) stBadArg 0,
        need (ds.all fun v => decide (v < 4096)) stBadArg 0, notCal s,
        need (ds.all fun v => decide (v ≤ dutyCeiling s n)) stLimit 0] s
      (let t := modStr n (fun x => { x with
          lamps := vmapIdx (fun j l => if j < d.lamps then { l with duty := ds.getD j 0, trim := 0 } else l) x.lamps,
          markRetired := false, markRebalanced := false, loopArm := x.loop, safed := false }) s
       (.wait (.lampDuty n), t))

end Sys2Proof.Machine
end

