-- ==== Sys2Proof/Machine/LampLink.lean ====
section
/-! DEFINITION. The lamp link (R490 to R511), line marks (R483, R493), and the fault and test events of the strings. -/

namespace Sys2Proof.Machine

/-! ### Frames (R494 to R498) -/

/-- R494: the bytes of a frame with its SEQ and CRC. -/
def frameBytes (f : LFrame) (seq : Nat) : List Byte :=
  let b := b8 f.addr :: b8 f.type :: b8 seq :: f.body
  b ++ leBytes 2 (crc16 b)

/-- A frame begins to leave and is in flight; SEQ advances with each frame. -/
def sendFrame (f : LFrame) (fails : Nat) (s : State) : State :=
  let l := s.lampLink
  let tx := l.tx ++ lampSymbols (frameBytes f l.seq)
  { s with lampLink := { l with seq := (l.seq + 1) % 256, flight := some (f, l.seq, fails), tx := tx
                                applyLeft := if f.type = 2 then some tx.length else l.applyLeft } }

/-! ### The line (R490 to R493) -/

/-- R497: a mark follows the EOF of an APPLY: shadows take force. -/
def takeShadows (s : State) : State :=
  { s with
    lamps := vmap (fun x => { x with lamps := vmap (fun l => { l with inForce := l.sent }) x.lamps }) s.lamps
    lampLink := { s.lampLink with winIn := s.lampLink.win, forceIn := s.lampLink.force, applyLeft := none } }

/-- R493, R497: the EOF of an APPLY leaves before the MARK of a line mark at local time `t`. -/
def applyBefore (s : State) (t : Nat) : Bool :=
  match s.lampLink.applyLeft with
  | some k => k == 0 || decide (lampSlot s.localNs + 1 + k ≤ lampSlotFrom t)
  | none => false

/-- One bit time: MARK, at its boundary; what is left of a frame; or an idle 1 bit (R490). -/
def lampNext (slot : Nat) (l : LampLinkU) : BitTime × LampLinkU :=
  if (match l.markSlot with | some k => decide (k ≤ slot) | none => false) then
    (lampMark.headD (false, false), { l with markSlot := none, tx := lampMark.tail ++ l.tx, applyLeft := l.applyLeft.map (· + 1) })
  else match l.tx with
    | b :: bs => (b, { l with tx := bs, applyLeft := l.applyLeft.map (· - 1) })
    | [] => (lampBit true, l)

/-- R490: at each bit boundary the running link sends one bit time. -/
def sendLamp (s : State) : State :=
  if s.lampLink.st != .off && rootClks s && lampSlot s.localNs != lampSlot (s.localNs - 1) then
    let r := lampNext (lampSlot s.localNs) s.lampLink
    emit (.lampBit r.1.1 r.1.2) { s with lampLink := r.2 }
  else s

/-- R505: the POLL frame. -/
def pollFrame (s : State) : LFrame :=
  let n := bypassCount s
  { addr := 0xFE, type := 3, body := b8 n :: List.replicate (5 * n) 0#8 }

/-- At a frame boundary with nothing in flight: a POLL that is due, else the next frame waiting. While the link is LOST
only ENUM is sent (R503). -/
def pumpLink (s : State) : State :=
  let l := s.lampLink
  if l.flight.isSome then s
  else if l.pollDue && l.st == .up then
    sendFrame (pollFrame s) 0 { s with lampLink := { l with pollDue := false, lastPoll := s.localNs } }
  else match l.queue with
    | [] => s
    | f :: fs =>
      if l.st = .lost && f.type ≠ 6 then s else sendFrame f 0 { s with lampLink := { l with queue := fs } }

def pushFrames (fs : List LFrame) (s : State) : State :=
  pumpLink { s with lampLink := { s.lampLink with queue := s.lampLink.queue ++ fs } }

def regWrite (dev reg data : Nat) : LFrame := { addr := dev, type := 4, body := b8 reg :: leBytes 4 data ++ [0#8] }
def regRead (dev reg : Nat) : LFrame := { addr := dev, type := 5, body := b8 reg :: leBytes 4 0 ++ [0#8] }
def applyFrame : LFrame := { addr := 0xFF, type := 2, body := [0#8] }

/-- The lamp that a (device, switch) pair serves. -/
def lampAt (s : State) (dev sw : Nat) : Option (Nat × Nat) :=
  (dStrings s).findSome? fun p =>
    ((List.range p.2.lamps).find? fun j => match p.2.map[j]? with
      | some l => l.device == dev && l.sw == sw
      | none => false).map fun j => (p.1, j)

/-- The duty of a lamp now: 0 while every lamp of its string is held lit (R516), else D_j (R507). -/
def lampDuty (s : State) (n j : Nat) : Nat :=
  let x := str s n
  if x.allLit then 0 else (dutyOf s.lampLink.kappa x (vget x.lamps j)).1

/-- The 18 duty bytes of a device (R496). -/
def dutyBytes (duty : Nat → Nat) : List Byte :=
  (List.range 6).flatMap fun i => leBytes 3 (duty (2 * i) + 4096 * duty (2 * i + 1))

def dutyFrame (s : State) (dev : Nat) : LFrame :=
  { addr := dev, type := 1, body := dutyBytes (fun sw => match lampAt s dev sw with
      | some (n, j) => lampDuty s n j
      | none => 0) ++ [0#8] }

/-- BYP_FORCE of a device: the switches of its retired lamps (R518, R520). -/
def forceMask (s : State) (dev : Nat) : Nat :=
  (List.range 12).foldl (fun m sw => match lampAt s dev sw with
    | some (n, j) => m + flag ((vget (str s n).lamps j).retired) sw
    | none => m) 0

/-- R507: SATURATED is reported once for a lamp. -/
def reportSaturated (s : State) : State :=
  (dStrings s).foldl (fun t p => (List.range p.2.lamps).foldl (fun t j =>
    let x := str t p.1
    let l := vget x.lamps j
    if (dutyOf t.lampLink.kappa x l).2 && !l.saturated then
      let ds := lampSwitch t p.1 j
      lampEvent p.1 13 (strCode x.st) (strCode x.st) j ds.1 ds.2 false
        (modStr p.1 (fun y => { y with lamps := vmod y.lamps j fun k => { k with saturated := true } }) t)
    else t) t) s

/-- The devices for which some lamp's duty differs from the one last sent. -/
def dutiesChanged (s : State) : List Nat :=
  (List.range (bypassCount s)).filter fun dev => (List.range 12).any fun sw => match lampAt s dev sw with
    | some (n, j) => lampDuty s n j != (vget (str s n).lamps j).sent
    | none => false

/-- The duties of now are the ones sent. -/
def noteSent (s : State) : State :=
  { s with lamps := vmapIdx (fun n x => { x with lamps := vmapIdx (fun j l => { l with sent := lampDuty s n j }) x.lamps }) s.lamps }

/-- R505, R498: DUTY frames for the devices whose duties or forces have changed, then APPLY. Where shadows wait for the APPLY of a
change of exposures, none is sent before it (R508). -/
def refreshLamps (s : State) : State :=
  if s.lampLink.st ≠ .up ∨ s.lampLink.stage.isSome then s
  else
    let devs := List.range (bypassCount s)
    let changedDuty := dutiesChanged s
    let changedForce := devs.filter fun dev => forceMask s dev != vget s.lampLink.force dev
    if changedDuty.isEmpty && changedForce.isEmpty then s
    else
      let fs := changedDuty.map (dutyFrame s) ++ changedForce.map (fun dev => regWrite dev 9 (forceMask s dev)) ++ [applyFrame]
      let force := changedForce.foldl (fun v dev => vset v dev (forceMask s dev)) s.lampLink.force
      pushFrames fs (reportSaturated (noteSent { s with lampLink := { s.lampLink with force := force } }))

/-! ### The bypass schedule (R506) -/

/-- Pixel clocks of a segment in ns: PIX_CLK_DIV periods of 120 MHz. -/
def pixClkNs (g : DSegment) : Rat := (g.clkDiv : Rat) * 25 / 3

/-- The integration of exposure slot `w` of R235 on port `n`, in ns after the line mark: start and end. -/
def integration (s : State) (g : DSegment) (n w : Nat) : Rat × Rat :=
  let p := segPar s n
  let dual := match s.decl with | some d => d.geometry.dual | none => false
  let k := pixClkNs g
  let el := expL g p
  let es := expS g p
  let n := nRd g
  if !dual then (800, 800 + (el : Rat) * k)
  else if w = 0 then (800, 800 + (es : Rat) * k)
  else (800 + ((es + n - el : Nat) : Rat) * k, 800 + ((es + n : Nat) : Rat) * k)

/-- A_w and B_w: the latest start and the earliest end of the slot over the segments. -/
def slotSpan (s : State) (w : Nat) : Rat × Rat :=
  ((dSegments s).zipIdx.map fun g => integration s g.1 g.2 w).foldl
    (fun acc x => match acc with
      | none => some x
      | some a => some (max a.1 x.1, min a.2 x.2)) none |>.getD (0, 0)

abbrev tickNs : Rat := 125 / 12
abbrev markNs : Rat := 500 / 3

/-- R506: windows and κ of the slots in use: START and L of each, then the LENs. -/
def bypWindows (s : State) : List Nat × Rat :=
  let dual := match s.decl with | some d => d.geometry.dual | none => false
  let nb : Rat := bypassCount s
  let slot (w : Nat) : Nat × Rat × Rat :=
    let ab := slotSpan s w
    let start := ((ab.1 + 50 - markNs) / tickNs).ceil.toNat
    let l : Int := ((ab.2 - 50 - (markNs + 75 + 20 * nb)) / tickNs).floor - (start : Int)
    (start, tickNs * ((max l 0 : Int) : Rat) / (if ab.2 - ab.1 = 0 then 1 else ab.2 - ab.1), ab.2 - ab.1)
  let s0 := slot 0
  let s1 := slot 1
  let kappa := if dual then min s0.2.1 s1.2.1 else s0.2.1
  let len (x : Nat × Rat × Rat) : Nat := (kappa * x.2.2 / tickNs).floor.toNat
  if dual then ([s0.1, len s0, s1.1, len s1], kappa) else ([s0.1, len s0, 0, 0], kappa)

/-- Shadow writes of the windows to every device. -/
def windowFrames (s : State) (win : List Nat) : List LFrame :=
  (List.range (bypassCount s)).flatMap fun dev =>
    (List.range 4).map fun i => regWrite dev (5 + i) (win.getD i 0)

/-- The windows and κ of now, κ never 0. -/
def windowsNow (s : State) : List Nat × Rat :=
  let w := bypWindows s
  (w.1, if w.2 = 0 then 1 else w.2)

/-- Windows and κ go to the devices, with the duties that follow from κ; their APPLY is still to be sent. -/
def writeWindows (w : List Nat × Rat) (s : State) : State :=
  let t := { s with lampLink := { s.lampLink with win := w.1, kappa := w.2 } }
  pushFrames (windowFrames t w.1 ++ (dutiesChanged t).map (dutyFrame t)) (reportSaturated (noteSent t))

/-- R506: windows and duties follow the exposures of now. -/
def rewindow (s : State) : State :=
  let w := windowsNow s
  if s.lampLink.st = .up ∧ s.lampLink.stage.isNone ∧ w ≠ (s.lampLink.win, s.lampLink.kappa) then
    pushFrames [applyFrame] (writeWindows w s)
  else s

/-- R508: the windows and duties of a change of exposures are written ahead of it, and wait for their APPLY. -/
def stageWindows (own : Nat) (w : List Nat × Rat) (s : State) : State :=
  let l := s.lampLink
  writeWindows w { s with lampLink := { l with stage := some { own := own, oldWin := l.win, oldKappa := l.kappa, asked := false } } }

/-- R508: a change of exposures that did not act: the windows and duties before it are written again. -/
def unstage (s : State) : State :=
  match s.lampLink.stage with
  | some g => pushFrames [applyFrame] (writeWindows (g.oldWin, g.oldKappa) { s with lampLink := { s.lampLink with stage := none } })
  | none => s

/-- R508: a change of exposures has acted: the devices follow other changes again. -/
def stageDone (s : State) : State := refreshLamps { s with lampLink := { s.lampLink with stage := none } }

/-! ### Link bring-up and loss (R502 to R504) -/

/-- R502 step 1: the link starts with idle bits. -/
def startLink (s : State) : State :=
  { s with lampLink := { s.lampLink with st := .linking, bring := .waitEnum, since := s.localNs, queue := [], flight := none,
                                         pollDue := false, pollEighth := false, stage := none, applyLeft := none } }

/-- R504: the link becomes LOST: strings in STARTING or ON go to RECOVERY. -/
def loseLink (s : State) : State :=
  let t := { s with lampLink := { s.lampLink with st := .lost, bring := .idle, since := s.localNs, queue := [],
                                                  flight := none, pollDue := false, pollEighth := false, stage := none,
                                                  applyLeft := none } }
  let t := linkEvent 9 0xFF t
  let wasOn := (List.range 16).any fun n => (str t n).st == .on
  let t := (List.range 16).foldl (fun t n =>
    if (str t n).st == .starting || (str t n).st == .on then
      endBusy (Busy.recoverOn n) stState 0x0101 [] (endBusy (Busy.lampOn n) stState 0x0101 [] (enterRecovery n t))
    else t) t
  markCaptures (if wasOn then calLampLost 0x0101 t else t)

/-- R502 steps 2 and 3: ENUM with NEXT = 0. -/
def sendEnum (s : State) : State :=
  sendFrame { addr := 0xFD, type := 6, body := [0#8] } 0 { s with lampLink := { s.lampLink with bring := .enum } }

/-- R502 steps 4 to 6, as each group of frames has returned. -/
def linkNext (s : State) : State :=
  let l := s.lampLink
  if l.flight.isSome || !l.queue.isEmpty then s
  else match l.bring with
    | .reading =>
      let w := windowsNow s
      let n := bypassCount s
      let t := { s with lampLink := { l with bring := .writing, win := w.1, kappa := w.2,
                                             force := Vector.replicate 32 0 },
                        lamps := vmap (fun x => { x with lamps := vmap (fun y => { y with sent := 0 }) x.lamps }) s.lamps }
      pushFrames (windowFrames t w.1 ++ (List.range n).map (fun d => regWrite d 9 0) ++
        (List.range n).map (fun d => { addr := d, type := 1, body := List.replicate 19 0#8 }) ++ [applyFrame] ++
        (List.range n).map (fun d => regWrite d 4 3)) t
    | .writing => refreshLamps <| rewindow (linkEvent 10 0xFF { s with lampLink := { l with st := .up, bring := .idle, lastPoll := s.localNs } })
    | _ => s

/-! ### Returns (R495 to R498, R505, R511) -/

/-- The reading of a photodiode in a POLL's return; none when its slot is not present or it is saturated. -/
def pdReading (body : List Byte) (dev input : Nat) : Option Nat :=
  let o := 1 + 5 * dev
  let v := uAt body (o + 2 * input) 2
  if bit (uAt body (o + 4) 1) 0 && v != 0xFFFF then some v else none

/-- R511: one lamp's trim after a reading. -/
def moveTrim (dutyMax target reading : Nat) (l : Lamp) : Lamp × Bool :=
  let delta := target / 1024 + 1
  let step : Int := if target + delta < reading then 1 else if reading + delta < target then -1 else 0
  let t' := l.trim + step
  let total := (l.duty : Int) + t'
  if step = 0 then (l, false)
  else if 0 ≤ total ∧ total ≤ dutyMax then ({ l with trim := t', loopLimited := false }, false)
  else ({ l with loopLimited := true }, !l.loopLimited)

/-- R511: the intensity loop on one string. -/
def loopString (body : List Byte) (n : Nat) (s : State) : State :=
  let x := str s n
  match dString? s n with
  | none => s
  | some d =>
    if !(x.loop && x.st == .on) then s
    else
      let pds := (d.map.filter fun l => l.pdDevice != 0xFF).map fun l => (l.pdDevice, l.pdInput)
      if x.loopArm then
        let ts := pds.eraseDups.filterMap fun p => (pdReading body p.1 p.2).map fun r =>
          ({ device := p.1, input := p.2, target := r } : PdTarget)
        let keep := s.lampLink.targets.filter fun t => !(pds.contains (t.device, t.input))
        modStr n (fun x => { x with loopArm := false, lamps := vmap (fun l => { l with trim := 0 }) x.lamps })
          { s with lampLink := { s.lampLink with targets := keep ++ ts } }
      else
        (List.range d.lamps).foldl (fun t j =>
          match d.map[j]? with
          | none => t
          | some l =>
            match t.lampLink.targets.find? fun p => p.device == l.pdDevice && p.input == l.pdInput,
                  pdReading body l.pdDevice l.pdInput with
            | some p, some r =>
              let m := moveTrim (dutyCeiling t n) p.target r (vget (str t n).lamps j)
              let t := modStr n (fun x => { x with lamps := vset x.lamps j m.1 }) t
              if m.2 then lampEvent n 12 2 2 j l.device l.sw false t else t
            | _, _ => t) s

/-- R505, R511, R527: a POLL has returned. -/
def pollReturn (body : List Byte) (s : State) : State :=
  let t := (List.range (bypassCount s)).foldl (fun t dev =>
    if bit (uAt body (1 + 5 * dev + 4) 1) 0 && bit (uAt body (1 + 5 * dev + 4) 1) 1 then
      pushFrames [regWrite dev 12 1] (linkEvent 11 dev t)
    else t) s
  let held := match s.cal.run with | some r => r.white && r.step != .compute | none => false
  let t := { t with lampLink := { t.lampLink with pollEighth := false } }
  if s.lampLink.pollEighth && !held then refreshLamps ((List.range 16).foldl (fun t n => loopString body n t) t) else t

/-- R498: the return of the frame in flight is good: CRC correct, the frame's own header, and its ACK. -/
def returnGood (f : LFrame) (seq : Nat) (bs : List Byte) : Bool :=
  let n := bs.length
  decide (5 ≤ n) && crc16 (bs.take (n - 2)) == uAt bs (n - 2) 2 &&
  uAt bs 0 1 == f.addr && uAt bs 1 1 == f.type && uAt bs 2 1 == seq % 256 && n == 5 + f.body.length &&
  (if f.type = 1 || f.type = 4 || f.type = 5 then uAt bs (n - 3) 1 == 1 else true)

/-- R502 step 4: what a REG_READ of bring-up must hold. -/
def readPasses (f : LFrame) (bs : List Byte) : Bool :=
  let data := uAt bs 4 4
  match uAt f.body 0 1 with
  | 1 => bits data 0 8 == 1
  | 2 => bits data 0 4 == 12 && bits data 4 2 == 2
  | _ => true

/-- LAMP_FRAME_RETURN: R495 to R498, R502, R505, R511. -/
def frameReturn (bs : List Byte) (s : State) : State :=
  match s.lampLink.flight with
  | none => s
  | some (f, seq, fails) =>
    let t := { s with lampLink := { s.lampLink with flight := none } }
    if !returnGood f seq bs then
      if fails + 1 < 3 then sendFrame f (fails + 1) t else loseLink t
    else
      let body := (bs.drop 3).take f.body.length
      if f.type = 3 then linkNext (pumpLink (pollReturn body t))
      else if f.type = 6 then
        if uAt body 0 1 ≠ bypassCount s then loseLink t
        else
          pushFrames ((List.range (bypassCount s)).flatMap fun d => [regRead d 0, regRead d 1, regRead d 2])
            { t with lampLink := { t.lampLink with st := .linking, bring := .reading } }
      else if f.type = 5 && s.lampLink.bring == .reading && !readPasses f bs then loseLink t
      else linkNext (pumpLink t)

/-! ### Line marks (R483, R493, R505, R516) -/

def Busy.isDuty : Busy → Bool
  | .lampDuty _ => true
  | _ => false

/-- R187: the duties of the string are in force in its bypass devices. -/
def dutiesInForce (s : State) (n : Nat) : Bool :=
  s.lampLink.st == .up && (lampsOf s n).all fun j => lampDuty s n j == (vget (str s n).lamps j).inForce

/-- R486: an interval of a string of at least 8 periods: FF of its lamp count moves by one code toward removing a difference of
more than one code from the target. -/
def monitorOne (m : Mon) (s : State) : State :=
  modStr m.str (fun x =>
    let diff : Rat := (m.codeSum : Rat) - x.target * (m.periods : Rat)
    let step : Int := if (m.periods : Rat) < diff then -1 else if diff < -(m.periods : Rat) then 1 else 0
    { x with ff := vmod x.ff m.lit fun f => f + step }) s

/-- R487: VX of its lamp count takes the voltage of an interval. -/
def monitorVolts (m : Mon) (s : State) : State := modStr m.str (fun x => { x with vx := vmod x.vx m.lit fun _ => m.mv }) s

/-- R487: a string's mean current and voltage over the line. -/
def monitorMean (mon : List Mon) (n : Nat) (s : State) : State :=
  let l := mon.filter fun m => m.str == n
  let p := (l.map Mon.periods).sum
  match dString? s n with
  | none => s
  | some d =>
    if p = 0 then s
    else
      modStr n (fun x => { x with
        meanMa := codeMa d.senseUohm (((l.map Mon.codeSum).sum : Rat) / (p : Rat))
        meanMv := (l.map fun m => m.mv * m.periods).sum / p }) s

/-- The first of these intervals of each string and lamp count: no entry moves more than once per line (R486). -/
def firstMons : List Mon → List Mon
  | [] => []
  | m :: ms => m :: (firstMons ms).filter fun x => !(x.str == m.str && x.lit == m.lit)

/-- R486, R487: what the monitor does after a line. -/
def monitorUpdate (mon : List Mon) (s : State) : State :=
  let t := (mon.filter fun m => m.periods != 0).foldl (fun t m => monitorVolts m t) s
  (List.range 16).foldl (fun t n => monitorMean mon n t)
    ((firstMons (mon.filter fun m => decide (8 ≤ m.periods))).foldl (fun t m => monitorOne m t) t)

/-- R483: a line mark is reached: every string's period in progress ends, and a new sequence begins. -/
def reachMark (s : State) : State :=
  match s.lampLink.nextMark with
  | some t =>
    if t ≤ s.localNs then
      { s with
        lamps := vmap (fun x => { x with gh := false, gl := false, periodAt := none, periodNo := none }) s.lamps
        lampLink := { s.lampLink with lastMark := t, nextMark := none } }
    else s
  | none => s

/-- R505: each eighth mark asks for a POLL, unless one is outstanding. -/
def countMark (l : LampLinkU) : LampLinkU :=
  let free := match l.flight with | some (f, _, _) => f.type != 3 | none => true
  let due := decide (l.marks + 1 = 8) && free && l.st == .up
  { l with marks := (l.marks + 1) % 8, pollDue := l.pollDue || due, pollEighth := l.pollEighth || due }

/-- R483, R493, R516: a line mark at local time `t`, that of a line decided on now or of an idle mark: every string's sequence of
periods restarts at it, targets move, MARK follows at the next bit boundary, shadows take force (R497), and each eighth mark asks
for a POLL (R505). The monitor's means of the line that it ends come with it (R486). What does not depend on its instant is done
as the line is decided on, at most 109 ns before (log 100). -/
def lineMark (mon : List Mon) (t : Nat) (s : State) : State :=
  let u := monitorUpdate mon s
  let u := if applyBefore u t then takeShadows u else u
  let u := { u with lampLink := { countMark u.lampLink with nextMark := some t, markSlot := some (lampSlotFrom t) } }
  let u := (List.range 16).foldl (fun t n => moveTarget n t) (reachMark u)
  let u := match u.fw.busy with
    | some (_, .lampDuty n) => if dutiesInForce u n then endBusy Busy.isDuty stOk 0 [] (if inRun u then bumpEpoch u else u) else u
    | _ => u
  pumpLink (refreshLamps u)

/-- IDLE_MARK: no line mark has occurred for 1 ms (R493). -/
def execIdleMark (mon : List Mon) (s : State) : Host.Outcome State Fault Refusal :=
  settled (if s.lampLink.lastMark + 1000000 ≤ s.localNs && s.lampLink.nextMark.isNone && rootClks s then lineMark mon s.localNs s else s)

/-! ### Switching periods (R482, R483, R485, R509) -/

/-- R483: string n begins its sequence 30 × n cycles of PWM_CLK after the mark: in half ns. -/
def seqStart (s : State) (n : Nat) : Nat := 2 * s.lampLink.lastMark + 125 * n

/-- R509: the switch of a lamp is reckoned closed at `e` ns after the mark: held by BYP_FORCE, or within the closed time of a
window. -/
def reckonClosed (s : State) (n j : Nat) (e : Rat) : Bool :=
  let ds := lampSwitch s n j
  let duty := (vget (str s n).lamps j).inForce
  let within (w : Nat) : Bool :=
    let a := markNs + tickNs * ((s.lampLink.winIn.getD (2 * w) 0 : Nat) : Rat)
    let c := tickNs * ((duty * s.lampLink.winIn.getD (2 * w + 1) 0 / 4096 : Nat) : Rat)
    decide (a < e ∧ e ≤ a + c)
  s.lampLink.st == .up && (bit (vget s.lampLink.forceIn ds.1) ds.2 || within 0 || within 1)

/-- R509, R587: a switch of a string is predicted to close or open within the nanosecond that ends `e` ns after the mark. -/
def bypassEdge (s : State) (n : Nat) (e : Rat) : Bool :=
  let at_ (x : Rat) : Bool := decide (e - 1 < x ∧ x ≤ e)
  (lampsOf s n).any fun j =>
    let ds := lampSwitch s n j
    !bit (vget s.lampLink.forceIn ds.1) ds.2 && [0, 1].any fun w =>
      let a := markNs + tickNs * ((s.lampLink.winIn.getD (2 * w) 0 : Nat) : Rat)
      let c := (vget (str s n).lamps j).inForce * s.lampLink.winIn.getD (2 * w + 1) 0 / 4096
      c != 0 && (at_ a || at_ (a + tickNs * (c : Rat)))

/-- The predicted bypass edges of this nanosecond blank the sensor of a slot in progress (R587). -/
def noteBypass (s : State) : State :=
  if s.therm.slot.isNone || s.lampLink.st != .up then s
  else (dStrings s).foldl (fun t p =>
    if t.therm.slot == some p.2.sensor && bypassEdge s p.1 ((s.localNs : Rat) - (s.lampLink.lastMark : Rat)) then
      notePoint 1 (· == p.2.sensor) s.localNs t
    else t) s

/-- R485, R509: the lamps lit in a period that ends `e` ns after the mark: n changes in the period that contains each predicted
edge. -/
def litIn (s : State) (n : Nat) (e : Rat) : Nat := ((lampsOf s n).filter fun j => !reckonClosed s n j e).length

/-- R480, R482: the gates at local time `now` in a period: the high side up to the end of the on-time, then the low side, with both
low for 10 cycles of PWM_CLK at each change. A cycle is 25/6 half ns. -/
def gatesAt (x : LampStr) (now : Nat) : Bool × Bool :=
  match x.periodAt with
  | some p =>
    let t := 6 * (2 * now - p)
    (decide (t < 25 * x.periodOff), decide (25 * (x.periodOff + 10) ≤ t ∧ t < 25 * 470))
  | none => (false, false)

/-- The gates follow the time. -/
def moveGates (s : State) : State :=
  if s.lamps.toList.all fun x => x.periodAt.isNone then s
  else { s with lamps := vmap (fun x =>
    let g := gatesAt x s.localNs
    { x with gh := g.1, gl := g.2, periodAt := x.periodAt.filter fun p => decide (2 * s.localNs < p + 2000) }) s.lamps }

/-- SWITCHING_PERIOD (R482, R483, R485): the next period of a string's sequence begins: the high side is set, and cleared when the
comparator trips after the 48 cycles of blanking, or at 432 cycles. The high side's edge blanks the sensor of the string (R587). -/
def execSwitchingPeriod (n : Nat) (trips : Bool) (cycle : Nat) (s : State) : Host.Outcome State Fault Refusal :=
  settled (match dString? s n with
    | none => s
    | some d =>
      let start := seqStart s n
      let k := (2 * s.localNs - start) / 2000
      if !(switching (str s n) && s.limit.limitLock && rootClks s) || decide (2 * s.localNs < start) || (str s n).periodNo == some k then s
      else
        let off := if trips && decide (48 ≤ cycle ∧ cycle < 432) then cycle else 432
        let lit := litIn s n ((1000 * (k + 1) : Nat) + (125 * n : Nat) / 2)
        notePoint 1 (· == d.sensor) ((start + 2000 * k) / 2) <| modStr n (fun x =>
          let y := { x with periodThr := periodThreshold s n d lit, periodOff := off, periodAt := some (start + 2000 * k), periodNo := some k }
          let g := gatesAt y s.localNs
          { y with gh := g.1, gl := g.2 }) s)

/-! ### Fault events (R519) -/

def execOvercurrentFault (n : Nat) (s : State) : Host.Outcome State Fault Refusal :=
  settled (if switching (str s n) then strFault n 2 3 false s else s)

def execOutputShortFault (n : Nat) (s : State) : Host.Outcome State Fault Refusal :=
  settled (if switching (str s n) then strFault n 4 5 false s else s)

/-- REGULATION: mean current below 90 % of C_set for 1 ms, not limited by a ceiling. -/
def execRegulationFault (n : Nat) (s : State) : Host.Outcome State Fault Refusal :=
  settled (match dString? s n with
    | none => s
    | some d =>
      let x := str s n
      if switching x && decide (iSetOf d x.level ≤ ceilingMa s n d) then strFault n 5 6 false s else s)

/-- R520: after a LAMP_OPEN with exactly one open lamp, its switch is held closed and the string restarts toward the
recovery current under a new grant; otherwise it stays in FAULT. -/
def resolveOpen (n : Nat) (opens : List Nat) (s : State) : State :=
  let s := countLamps n (fun r => { r with opens := min (r.opens + 1) 65535 }) opens s
  match opens, dString? s n with
  | [j], some d =>
    let ds := lampSwitch s n j
    let t := rebalance n j (noteFound n [j] (retireLamp n j s))
    let g := askRise n d (recoverMa t n d) t
    let t := if g.1 then startStr n true (modStr n (fun x => { x with restart := true, target := 0 }) g.2) else g.2
    refreshLamps (lampEvent n 2 5 (strCode (str t n).st) j ds.1 ds.2 true t)
  | _, _ => strEvent n 2 5 5 s

/-- OVERVOLTAGE_FAULT: with an open lamp reported by a bypass device the cause is LAMP_OPEN (R519, R520). -/
def execOvervoltageFault (n : Nat) (opens : List Nat) (s : State) : Host.Outcome State Fault Refusal :=
  settled (if !switching (str s n) then s
    else if opens.isEmpty then strFault n 3 4 false s
    else markCaptures (resolveOpen n opens (strFault n 1 4 true s)))

/-- LAMP_SHORT_FAULT (R517 to R521): the target falls at once to recovery; FAULT when already in RECOVERY, or in a V-I test. -/
def lampShort (n : Nat) (shorts : List Nat) (s : State) : State :=
  let s := countLamps n (fun r => { r with shorts := min (r.shorts + 1) 65535 }) shorts s
  let before := (str s n).st
  let ev (a : Nat) (t : State) : State := match shorts.head? with
    | some j => let ds := lampSwitch t n j
                lampEvent n 1 (strCode before) a j ds.1 ds.2 true t
    | none => lampEvent n 1 (strCode before) a 0xFFFF 0xFF 0 true t
  if before = .recovery || (str s n).test.isSome then strFault n 0 1 false (noteFound n shorts s)
  else
    let t := enterRecovery n s
    let t := modStr n (fun x => { x with flags := x.flags ||| 1 }) (noteFound n shorts t)
    let t := shorts.foldl (fun t j => rebalance n j t) t
    let t := fwLog 0x0006 [n, 1] (ev 3 t)
    let t := shorts.foldl (fun t j => let ds := lampSwitch t n j
      if t.lampLink.st = .up then pushFrames [regWrite ds.1 14 (2 ^ ds.2)] t else t) t
    let t := endBusy (Busy.recoverOn n) stState 0x0101 [] (endBusy (Busy.lampOn n) stState 0x0101 [] t)
    markCaptures (refreshLamps (if before = .on then calLampLost 0x0101 t else t))

def execLampShortFault (n : Nat) (shorts : List Nat) (s : State) : Host.Outcome State Fault Refusal :=
  settled (if switching (str s n) then lampShort n shorts s else s)

/-- POLL_TIMER: an eighth mark has passed, or 1 ms since the last POLL (R505). -/
def execPollTimer (s : State) : Host.Outcome State Fault Refusal :=
  settled (if s.lampLink.st = .up ∧ (s.lampLink.pollDue = true ∨ s.lampLink.lastPoll + 1000000 ≤ s.localNs) then
    pumpLink { s with lampLink := { s.lampLink with pollDue := true } } else s)

/-- LAMP_LINK_ENUM_WAIT: 200 µs after the link starts (R502 step 2). -/
def execLampLinkEnumWait (s : State) : Host.Outcome State Fault Refusal :=
  settled (if s.lampLink.bring = .waitEnum ∧ s.lampLink.since + 200000 ≤ s.localNs then sendEnum s else s)

/-- LAMP_LINK_RETRY: every 1 s while the link is LOST, from step 2 (R503), also where the ENUM before has not returned. -/
def execLampLinkRetry (s : State) : Host.Outcome State Fault Refusal :=
  settled (if s.lampLink.st = .lost ∧ s.lampLink.since + 1000000000 ≤ s.localNs then
    sendEnum { s with lampLink := { s.lampLink with since := s.localNs } } else s)

/-- LAMP_TEST_POINT: a point's 20 ms of hold and 10 ms of averaging end (R517); the next point takes effect at a line mark
(R484). -/
def execLampTestPoint (n ma mv : Nat) (s : State) : Host.Outcome State Fault Refusal :=
  settled (match (str s n).test, dString? s n with
    | some t, some _ =>
      let m := t.measured ++ [(ma, mv)]
      if !(match t.since with | some t0 => decide (t0 + 30000000 ≤ s.localNs) | none => false) then s
      else if m.length < t.points.length then
        modStr n (fun x => { x with test := some { t with measured := m, since := none } }) s
      else
        endBusy (Busy.testOn n) stOk 0 (testReply m) (stageOff n (modStr n (fun x => { x with test := none }) s))
    | _, _ => s)

/-! ### LAMP verbs that send frames -/

/-- LAMP.SET with the duties that follow from it. -/
def vLampSetSend (c : Cmd) (s : State) : Ans × State :=
  let r := vLampSet c s
  (r.1, refreshLamps r.2)

def vLampDutySend (c : Cmd) (s : State) : Ans × State :=
  let r := vLampDuty c s
  match r.1 with
  | .wait _ => (r.1, refreshLamps r.2)
  | _ => r

def vLampRecoverSend (c : Cmd) (s : State) : Ans × State :=
  let r := vLampRecover c s
  (r.1, refreshLamps r.2)

end Sys2Proof.Machine
end

