-- ==== Sys2Proof/Machine/Boundary.lean ====
section
/-! DEFINITION. What takes effect at a line boundary (R174, R179, R186, R778): LINE.CONFIG's parameters (R287, R288, R313,
R314, R391, R383, R446), the bank swap (R327 to R329) and the choice of mirror point (R385, R389). -/

namespace Sys2Proof.Machine

def sport (s : State) (n : Nat) : PortU := vget s.ports n
def modSeg (n : Nat) (f : PortU → PortU) (s : State) : State := { s with ports := vmod s.ports n f }

/-- One entry of LINE.CONFIG: PARAM, INDEX, VALUE. -/
abbrev CfgEntry := Nat × Nat × Nat

/-! ### Parameters -/

/-- The segments an INDEX names: one declared segment, or every one. -/
def cfgSegs (d : Decl) (i : Nat) : List Nat :=
  if i = 0xFFFF then List.range d.segments.length else if i < d.segments.length then [i] else []

def inR (lo hi v : Nat) : Bool := decide (lo ≤ v ∧ v ≤ hi)

/-- R287, R313, R391, R446: INDEX and VALUE of one entry lie within their ranges; relations between parameters apart. -/
def cfgOk (d : Decl) (e : CfgEntry) : Bool :=
  let i := e.2.1
  let v := e.2.2
  let seg := !(cfgSegs d i).isEmpty
  let one := decide (i < d.segments.length)
  let g := i == 0
  match e.1 with
  | 0x0100 => seg && (cfgSegs d i).all fun n => inR 1 (nRd (d.segments.getD n default)) v
  | 0x0101 => seg && decide (1 ≤ v)
  | 0x0102 => g && (v == 0 || inR 10 60000 v)
  | 0x0103 => seg && inR 0 1 v
  | 0x0180 => one && inR 0x8000 0xFFFC v && v % 4 == 0
  | 0x0181 => one
  | 0x0200 => seg && inR 0 1 v
  | 0x0201 => seg && inR 0 1 v
  | 0x0202 => seg && (v == 0 || inR 256 16777215 v)
  | 0x0203 => seg && inR 0 65535 v
  | 0x0204 => seg && inR 6 14 v
  | 0x0205 => g && inR 0 8 v
  | 0x0206 => seg && inR 1 65535 v
  | 0x0207 => g && inR 0 2 v
  | 0x0208 => seg && inR 0 1 v
  | 0x0209 => seg && inR 0 1 v
  | 0x020A => g && inR 0 65535 v
  | 0x020B => g && inR 0 65535 v
  | 0x0220 => g && inR 1 32767 v
  | 0x0221 => g && inR 1 999 v
  | 0x0222 => g && inR 1001 4000 v
  | 0x0300 => g && inR 1 16 v
  | 0x0301 => g && inR 0 255 v
  | 0x0302 => g && inR 256 65535 v
  | 0x0303 => g && inR 0 16 v
  | 0x0310 => decide (i < 512) && inR 0 65535 v
  | 0x0311 => g && inR 0 1 v
  | 0x0400 => g && inR 10 1000 v
  | 0x0401 => g && inR 500 1000 v
  | 0x0402 => g && inR 100 1000 v
  | 0x0403 => g && inR 0 1000 v
  | 0x0404 => g && inR 0 1 v
  | 0x0405 => g && inR 0 1000 v
  | 0x0406 => g && inR 4 256 v
  | 0x0407 => g && inR 1 1024 v
  | 0x0408 => g && inR 0 4096 v
  | 0x0409 => g && inR 1 10000 v
  | 0x040A => g && inR 1 10000 v
  | _ => false

/-- R179, R287, R313, R391, R446: the PARAM codes there are. -/
def cfgKnown (p : Nat) : Bool :=
  [0x0180, 0x0181, 0x0310, 0x0311].contains p || inR 0x0100 0x0103 p || inR 0x0200 0x020B p || inR 0x0220 0x0222 p ||
    inR 0x0300 0x0303 p || inR 0x0400 0x040A p

/-- A change of the parameters of the segments an INDEX names. -/
def cfgSeg (d : Decl) (i : Nat) (f : SegPar → SegPar) (s : State) : State :=
  { s with par := { s.par with segs := (cfgSegs d i).foldl (fun v n => vmod v n f) s.par.segs } }

def cfgPorts (d : Decl) (i : Nat) (f : PortU → PortU) (s : State) : State :=
  { s with ports := (cfgSegs d i).foldl (fun v n => vmod v n f) s.ports }

def cfgLine (f : LinePar → LinePar) (s : State) : State := { s with par := f s.par }
def cfgCal (f : CalPar → CalPar) (s : State) : State := { s with cal := { s.cal with par := f s.cal.par } }
def cfgAchr (f : AchrPar → AchrPar) (s : State) : State := modAchr (fun a => { a with par := f a.par }) s
def cfgDeliv (f : DelivPar → DelivPar) (s : State) : State := modDeliv (fun u => { u with par := f u.par }) s

/-- R383: the staging table's entry; an entry never written holds the derived set's value. -/
def stagedCoef (d : Decl) (s : State) : List Int :=
  let base := derivedSet d.system.nativeDpi d.geometry.outDpi
  base.mapIdx fun i v => (assoc s.achr.staging i).getD v

/-- One entry takes its value. RS_COEF_SELECT acts after the command's RS_COEF entries (R383). -/
def cfgSet (d : Decl) (e : CfgEntry) (s : State) : State :=
  let i := e.2.1
  let v := e.2.2
  match e.1 with
  | 0x0100 => cfgSeg d i (fun p => { p with expLong := some v }) s
  | 0x0101 => cfgSeg d i (fun p => { p with expShort := some v }) s
  | 0x0102 => cfgCal (fun p => { p with rotateMs := v }) s
  | 0x0103 => cfgPorts d i (fun p => { p with track := v == 1 }) s
  | 0x0180 => cfgPorts d i (fun p => { p with digAddr := v }) s
  | 0x0200 => cfgSeg d i (fun p => { p with linBypass := v == 1 }) s
  | 0x0201 => cfgSeg d i (fun p => { p with darkEnable := v == 1 }) s
  | 0x0202 => cfgSeg d i (fun p => { p with mergeRatio := v }) s
  | 0x0203 => cfgSeg d i (fun p => { p with mergeKnee := v }) s
  | 0x0204 => cfgSeg d i (fun p => { p with blendLog2 := v }) s
  | 0x0205 => cfgLine (fun p => { p with mergeShift := v }) s
  | 0x0206 => cfgSeg d i (fun p => { p with longSat := v }) s
  | 0x0207 => cfgLine (fun p => { p with mergeMode := v }) s
  | 0x0208 => cfgSeg d i (fun p => { p with shadingEnable := v == 1 }) s
  | 0x0209 => cfgSeg d i (fun p => { p with defectEnable := v == 1 }) s
  | 0x020A => cfgLine (fun p => { p with clipLow := v }) s
  | 0x020B => cfgLine (fun p => { p with clipHigh := v }) s
  | 0x0220 => cfgCal (fun p => { p with darkHot := v }) s
  | 0x0221 => cfgCal (fun p => { p with whiteLow := v }) s
  | 0x0222 => cfgCal (fun p => { p with whiteHigh := v }) s
  | 0x0300 => cfgAchr (fun p => { p with placeAvg := v }) s
  | 0x0301 => cfgAchr (fun p => { p with placeConf := v }) s
  | 0x0302 => cfgAchr (fun p => { p with placeRate := v }) s
  | 0x0303 => cfgAchr (fun p => { p with bridgeMax := v }) s
  | 0x0310 => modAchr (fun a => { a with staging := (a.staging.filter fun x => x.1 != i) ++ [(i, signed 16 v)] }) s
  | 0x0400 => cfgDeliv (fun p => { p with windowMs := v }) s
  | 0x0401 => cfgDeliv (fun p => { p with marginPm := v }) s
  | 0x0402 => cfgDeliv (fun p => { p with highPm := v }) s
  | 0x0403 => cfgDeliv (fun p => { p with lowPm := v }) s
  | 0x0404 => cfgDeliv (fun p => { p with fixed := v == 1 }) s
  | 0x0405 => cfgDeliv (fun p => { p with resumePm := v }) s
  | 0x0406 => cfgDeliv (fun p => { p with settle := v }) s
  | 0x0407 => cfgDeliv (fun p => { p with joinTol := v }) s
  | 0x0408 => cfgDeliv (fun p => { p with joinMinSd := v }) s
  | 0x0409 => cfgDeliv (fun p => { p with stallMs := v }) s
  | 0x040A => cfgDeliv (fun p => { p with flushMs := v }) s
  | _ => s

def cfgSelect (d : Decl) (e : CfgEntry) (s : State) : State :=
  if e.1 = 0x0311 then
    modAchr (fun a => { a with custom := if e.2.2 = 1 then some (stagedCoef d s) else none }) s
  else s

/-- Every entry's value, in the order given. -/
def cfgPut (d : Decl) (es : List CfgEntry) (s : State) : State :=
  es.foldl (fun t e => cfgSelect d e t) (es.foldl (fun t e => cfgSet d e t) s)

/-- R383: every phase of the staging table sums to 16,384. -/
def stagedSums (d : Decl) (s : State) : Bool :=
  let l := stagedCoef d s
  (List.range 64).all fun f => ((l.drop (8 * f)).take 8).sum == 16384

/-- R287, R314, R236, R383, R446: the relations that the parameters keep once the entries are applied. -/
def cfgRelations (d : Decl) (es : List CfgEntry) (t : State) : Bool :=
  let names (p : Nat) : Bool := es.any fun e => e.1 == p
  -- R236, R287: EXP_SHORT_CLK is at most the long exposure in force after the command.
  let exps := d.segments.mapIdx fun i g => decide (expS g (vget t.par.segs i) ≤ expL g (vget t.par.segs i))
  (!(names 0x0100 || names 0x0101) || exps.all id) &&
    (!(names 0x020A || names 0x020B) || decide (t.par.clipLow ≤ t.par.clipHigh)) &&
    (!(names 0x0402 || names 0x0403) || decide (t.deliv.par.lowPm < t.deliv.par.highPm)) &&
    (!(es.any fun e => e.1 == 0x0311 && e.2.2 == 1) || stagedSums d t)

/-- R179: every entry of the command is known and in range. -/
def cfgFits (d : Decl) (es : List CfgEntry) (s : State) : Bool :=
  es.all (cfgOk d) && cfgRelations d es (cfgPut d es s)

/-! ### The digitizers' part (R288) -/

/-- One entry's writes, and each segment's DIG_ADDR as the command's entries so far leave it. -/
def cfgWriteOne (d : Decl) (own : Nat) (e : CfgEntry) (acc : List (Nat × RegAcc) × Vector PortU 24) :
    List (Nat × RegAcc) × Vector PortU 24 :=
  let live (n : Nat) : Bool := (vget acc.2 n).st == .up || (vget acc.2 n).st == .degraded
  let put (addr : Nat) : List (Nat × RegAcc) :=
    ((cfgSegs d e.2.1).filter live).map fun n => (n, { write := true, addr := addr, data := e.2.2, use := .config, own := own })
  match e.1 with
  | 0x0100 => (acc.1 ++ put 0x0020, acc.2)
  | 0x0101 => (acc.1 ++ put 0x0024, acc.2)
  | 0x0180 => (acc.1, vmod acc.2 e.2.1 fun p => { p with digAddr := e.2.2 })
  | 0x0181 =>
    (acc.1 ++ [(e.2.1, { write := true, addr := (vget acc.2 e.2.1).digAddr, data := e.2.2, use := .config, own := own })], acc.2)
  | _ => acc

/-- R288: the register writes of a command, in the order of its entries. The exposures of a port that is not up are
written by its bring-up (R275). -/
def cfgWrites (d : Decl) (own : Nat) (es : List CfgEntry) (s : State) : List (Nat × RegAcc) :=
  (es.foldl (fun acc e => cfgWriteOne d own e acc) (([] : List (Nat × RegAcc)), s.ports)).1

/-- The access number of a command. -/
def cfgOwn (tag : Half) : Nat := tag.toNat + 1

/-- The LINE.CONFIG with this access number is still to act. -/
def ownPending (s : State) (own : Nat) : Bool :=
  (s.fw.deferred.any fun d => (match d.act with | .config _ _ => true | _ => false) && cfgOwn d.tag == own) ||
    (match s.fw.busy with
     | some (c, .config _) => cfgOwn c.req.tag == own
     | _ => false)

/-- Writes of a LINE.CONFIG that has ended are not made. -/
def dropWrites (s : State) : State :=
  { s with ports := vmap (fun p => { p with regQ := p.regQ.filter fun a => a.own == 0 || ownPending s a.own }) s.ports }

/-- R824, R825: the grid index that a deferred command names. -/
def namedIndex (s : State) (line : Nat) : Nat := (line + 2 ^ 32 - s.line.firstLine) % 2 ^ 32

/-- The grid index at which a deferred LINE.CONFIG acts. -/
def configAt (s : State) (x : Deferred) : Option Nat := match x.act with
  | .config l _ => some (namedIndex s l)
  | _ => none

/-- The entries write registers of some port. -/
def writesSome (s : State) (es : List CfgEntry) : Bool := match s.decl with
  | some d => !(cfgWrites d 0 es s).isEmpty
  | none => false

/-- R229, R284, R288: a deferred command's writes wait until the values that the commands acting before it have written
have taken effect: the line start of one line is the same on every port, so its PLAN.APPLY would bring the values of every
port into force (log 62). -/
def writeHeld (s : State) (own : Nat) : Bool :=
  match s.fw.deferred.find? fun x => (configAt s x).isSome && cfgOwn x.tag == own with
  | none => false
  | some x =>
    s.ports.toList.any PortU.apply || (match s.fw.busy with | some (_, .config es) => writesSome s es | _ => false) ||
      s.fw.deferred.any fun y => match y.act with
        | .config l es => decide (namedIndex s l < (configAt s x).getD 0) && writesSome s es
        | _ => false

/-! ### The timing lane (R221, R224, R225) -/

/-- A register or lane-control sequence waits for those before it. -/
def txPut (n : Nat) (seq : List Sym) (s : State) : State :=
  modSeg n (fun p => { p with tx := { p.tx with seqs := p.tx.seqs ++ [seq] } }) s

/-- The next symbol where no line start is due: of the sequence in progress, or IDLE (R221). -/
def txSeq (x : TxLane) : Sym × TxLane :=
  match x.seqs with
  | (y :: ys) :: r => (y, { x with seqs := if ys.isEmpty then r else ys :: r })
  | [] :: r => (symIdle, { x with seqs := r })
  | [] => (symIdle, x)

/-- R225: the symbol that a timing lane sends in a slot: a line start that is due goes before anything else, and what it
interrupts goes on after it. -/
def txSymbol (slot : Nat) (x : TxLane) : Sym × TxLane :=
  match x.starts with
  | (k, y :: ys) :: r =>
    if k ≤ slot then (y, { x with starts := if ys.isEmpty then r else (k, ys) :: r }) else txSeq x
  | (_, []) :: r => txSeq { x with starts := r }
  | [] => txSeq x

/-- R218, R221: one port sends one code group. -/
def txOne (slot : Nat) (s : State) (n : Nat) : State :=
  let x := (sport s n).tx
  if !x.on then s
  else
    let r := txSymbol slot x
    let g := codeOf x.pos r.1
    emit (.timing n g) (modSeg n (fun p => { p with tx := { r.2 with pos := rdAfter x.pos g } }) s)

/-- R221: in every slot of 8.333 ns each running timing lane sends one code group. -/
def sendTiming (s : State) : State :=
  if rootClks s && slotNo s.localNs != slotNo (s.localNs - 1) then (List.range 24).foldl (txOne (slotNo s.localNs)) s else s

/-! ### Register sequences (R281) -/

/-- R224, R227, R281: a register sequence. -/
def regWire (n : Nat) (o : RegOut) (s : State) : State :=
  let body := [b8 (if o.acc.write then 1 else 2), b8 o.tag] ++ leBytes 2 o.acc.addr ++ leBytes 4 o.acc.data
  txPut n ([symReg] ++ (body ++ leBytes 2 (crc16 body)).map symData ++ [symEnd]) s

/-- The first access waiting that may be sent, and those that go on waiting. -/
def takeAcc (held : RegAcc → Bool) : List RegAcc → Option (RegAcc × List RegAcc)
  | [] => none
  | a :: as => if held a then (takeAcc held as).map fun x => (x.1, a :: x.2) else some (a, as)

/-- R281: at most 4 sequences are outstanding on a port. -/
def regPumpOne (n : Nat) (s : State) : State :=
  let p := sport s n
  match takeAcc (fun a => a.own != 0 && writeHeld s a.own) p.regQ with
  | none => s
  | some (a, as) =>
    if 4 ≤ p.regOut.length then s
    else
      let o : RegOut := { acc := a, tag := p.tag, tries := 1, sentAt := s.localNs }
      regWire n o (modSeg n (fun p => { p with regQ := as, regOut := p.regOut ++ [o], tag := (p.tag + 1) % 256 }) s)

def regPump (n : Nat) (s : State) : State := (List.range 4).foldl (fun t _ => regPumpOne n t) s

def regAsk (n : Nat) (l : List RegAcc) (s : State) : State := regPump n (modSeg n (fun p => { p with regQ := p.regQ ++ l }) s)

/-- One port's writes of a command. -/
def portWrites (d : Decl) (own : Nat) (es : List CfgEntry) (n : Nat) (s : State) : List RegAcc :=
  ((cfgWrites d own es s).filter fun w => w.1 == n).map Prod.snd

/-- A deferred command's exposures for one port. -/
def laterWrites (d : Decl) (n : Nat) (s : State) (x : Deferred) : List RegAcc := match x.act with
  | .config _ es => (portWrites d (cfgOwn x.tag) es n s).filter fun a => a.addr == 0x0020 || a.addr == 0x0024
  | _ => []

/-- Some of its writes have been sent. -/
def writesBegun (d : Decl) (n : Nat) (s : State) (x : Deferred) : Bool := match x.act with
  | .config _ es =>
    decide (((vget s.ports n).regQ.filter fun a => a.own == cfgOwn x.tag).length < (portWrites d (cfgOwn x.tag) es n s).length)
  | _ => false

/-- The exposures in force, for the registers in which the commands `xs` have left other values and that `mine` leaves. -/
def restoreWrites (d : Decl) (own : Nat) (mine : List RegAcc) (xs : List Deferred) (n : Nat) (s : State) : List RegAcc :=
  let staged := (xs.flatMap (laterWrites d n s)).map RegAcc.addr
  let g := d.segments.getD n default
  let p := vget s.par.segs n
  ([(0x0020, expL g p), (0x0024, expS g p)].filter fun a => staged.contains a.1 && !(mine.map RegAcc.addr).contains a.1).map
    fun a => { write := true, addr := a.1, data := a.2, use := .config, own := own }

/-- R288: every write of the command has been replied to. -/
def cfgReplied (own : Nat) (s : State) : Bool :=
  s.ports.toList.all fun p => !(p.regQ.any (fun a => a.own == own) || p.regOut.any fun o => o.acc.own == own)

/-! ### The bypass devices' part (R508) -/

/-- The entries change an exposure. -/
def cfgExposures (es : List CfgEntry) : Bool := es.any fun e => e.1 == 0x0100 || e.1 == 0x0101

/-- R506, R508: the windows and κ that the command's exposures give, when the devices have to take others for it. -/
def cfgWindows (d : Decl) (es : List CfgEntry) (s : State) : Option (List Nat × Rat) :=
  let w := windowsNow (cfgPut d es s)
  let now := match s.lampLink.stage with
    | some g => (g.oldWin, g.oldKappa)
    | none => (s.lampLink.win, s.lampLink.kappa)
  if s.lampLink.st == .up && cfgExposures es && w != now then some w else none

/-- R508: the command's windows and duties have been taken, and the mark at local time `t` follows their APPLY. -/
def lampsReady (d : Decl) (own : Nat) (es : List CfgEntry) (t : Nat) (s : State) : Bool :=
  match cfgWindows d es s, s.lampLink.stage with
  | none, _ => true
  | some _, some g => g.own == own && g.asked && (s.lampLink.applyLeft.isNone || applyBefore s t)
  | some _, none => false

/-- R229: when `LS` of a line decided on now leaves: at the first code-group boundary at least 100 ns later. -/
def issueAt (s : State) : Nat := slotTime (issueSlot s.localNs)

/-- R288, R508: the command may act at a line decided on now. -/
def cfgReady (d : Decl) (own : Nat) (es : List CfgEntry) (s : State) : Bool :=
  cfgReplied own s && lampsReady d own es (issueAt s) s

/-- The LINE.CONFIG whose windows are to be written next: the one in progress, else the deferred one that acts first, within 64
lines of it (DESIGN CHOICE, log 101). The last field: its APPLY may be sent, since the next line is the one at which it acts. -/
def stageNext (s : State) : Option (Nat × List CfgEntry × Bool) :=
  match s.fw.busy with
  | some (c, .config es) => some (cfgOwn c.req.tag, es, true)
  | _ =>
    let near := s.fw.deferred.filter fun x => match configAt s x with
      | some l => decide (l ≤ s.motion.cmp.index + 64) && (match x.act with | .config _ es => cfgExposures es | _ => false)
      | none => false
    let first := near.foldl (fun (b : Option Deferred) x => match b with
      | some y => if (configAt s x).getD 0 < (configAt s y).getD 0 then some x else b
      | none => some x) none
    match first with
    | some x => (match x.act with
      | .config l es => some (cfgOwn x.tag, es, decide (namedIndex s l ≤ s.motion.cmp.index))
      | _ => none)
    | none => none

/-- R498, R508: the writes ahead of a change of exposures: begun for the command that acts next, taken back for one that is not it
any more, and followed by their APPLY once every frame and every digitizer's reply is in and the next line is the one meant. -/
def stagePump (s : State) : State :=
  match s.decl with
  | none => s
  | some d =>
    let want := (stageNext s).filter fun x => (cfgWindows d x.2.1 s).isSome
    let t := match s.lampLink.stage with
      | some g => if (match want with | some x => x.1 == g.own | none => false) then s else unstage s
      | none => s
    match want, t.lampLink.stage with
    | some x, none => (match cfgWindows d x.2.1 t with | some w => stageWindows x.1 w t | none => t)
    | some x, some g =>
      if x.2.2 && !g.asked && t.lampLink.queue.isEmpty && t.lampLink.flight.isNone && cfgReplied x.1 t then
        pushFrames [applyFrame] { t with lampLink := { t.lampLink with stage := some { g with asked := true } } }
      else t
    | none, _ => t

/-- R169, R288, R508: the entries apply together; the digitizers written take them at the next line start. -/
def cfgApply (d : Decl) (es : List CfgEntry) (s : State) : State :=
  let ports := ((cfgWrites d 0 es s).map Prod.fst).eraseDups
  let t := cfgPut d es s
  let t := { t with ports := ports.foldl (fun v n => vmod v n fun p => { p with apply := true }) t.ports }
  bumpEpoch (if (cfgWindows d es s).isSome then stageDone t else t)

/-! ### Swaps and mirrors -/

/-- R327, R328: the banks exchange roles. -/
def swapBanks (s : State) : State :=
  bumpEpoch { s with cal := { s.cal with active := 1 - s.cal.active, written := false, copy := .release, swapping := false } }

/-- R389: the mirror point chosen. -/
def takeMirror (s : State) : State :=
  match s.achr.mirror.next with
  | some m => modAchr (fun a => { a with mirror := { a.mirror with sel := m, next := none } }) s
  | none => s

/-! ### Boundaries -/

/-- Lines are being admitted (R186, R327): CAPTURING, or a seam's stop ramp, with admission not ended. -/
def lineFlow (s : State) : Bool :=
  s.line.admitting &&
    (s.line.st == .capturing || (s.line.st == .seam && s.deliv.seam.phase == .ramp))

def Busy.isConfig : Busy → Bool
  | .config _ => true
  | _ => false

def Busy.isMirror : Busy → Bool
  | .mirror => true
  | _ => false

/-- The LINE.CONFIG in progress applies, once its writes have been replied to. -/
def busyConfig (s : State) : State :=
  match s.decl, s.fw.busy with
  | some d, some (c, .config es) =>
    if !cfgReady d (cfgOwn c.req.tag) es s then s
    else if cfgFits d es s then endBusy Busy.isConfig stOk 0 [] (cfgApply d es s)
    else endBusy Busy.isConfig stState 0x0100 [] s
  | _, _ => s

/-- What is waiting for a line boundary takes effect in the order of R778. -/
def boundary (s : State) : State :=
  let t := if s.cal.swapping then swapBanks s else s
  let t := busyConfig t
  endBusy Busy.isMirror stOk 0 [] (takeMirror t)

/-- Nothing waits for a line boundary while no line is being admitted. -/
def boundaryNow (s : State) : State :=
  let t := stagePump s
  if lineFlow t then t else boundary t

/-- LAMP_FRAME_RETURN (R495 to R498, R508): a frame comes back once it has left. -/
def execLampFrameReturn (bs : List Byte) (s : State) : Host.Outcome State Fault Refusal :=
  settled (if rootClks s && s.lampLink.tx.isEmpty then boundaryNow (frameReturn bs s) else s)

/-- R330: a deferred CAL.SWAP acts at the admission of grid index `i`. -/
def swapAt (i line : Nat) (s : State) : State :=
  let due (d : Deferred) : Bool := match d.act with
    | .swap l => d.acted.isNone && decide (namedIndex s l ≤ i)
    | _ => false
  if s.fw.deferred.any due then
    swapBanks { s with fw := { s.fw with deferred := s.fw.deferred.map fun d => if due d then { d with acted := some line } else d } }
  else s

/-- One deferred LINE.CONFIG due now (R288, R778, R824). -/
def configOne (line : Nat) (x : Deferred) (s : State) : State :=
  let me (y : Deferred) : Bool := y.tag == x.tag && y.verb == x.verb
  match s.decl, x.act with
  | some d, .config _ es =>
    if cfgReady d (cfgOwn x.tag) es s && cfgFits d es s then endDeferred me stOk 0 line (cfgApply d es s)
    else endDeferred me stState 0x0100 0xFFFFFFFF s
  | _, _ => s

def configsAt (i line : Nat) (s : State) : State :=
  (s.fw.deferred.filter fun x => match x.act with
    | .config l _ => decide (namedIndex s l ≤ i)
    | _ => false).foldl (fun t x => configOne line x t) s

/-- R778: what is due at the admission of grid index `i`, capture line `line`. -/
def admissionBoundary (i line : Nat) (s : State) : State :=
  let t := swapAt i line (if s.cal.swapping then swapBanks s else s)
  let t := configsAt i line (busyConfig t)
  endBusy Busy.isMirror stOk 0 [] (takeMirror t)

end Sys2Proof.Machine
end

