-- ==== Sys2Proof/Machine/Thermal.lean ====
section
/-! DEFINITION. The thermal front end and its thresholds (R577 to R599), the derating that reads them (R522 to R524,
R594), and the housekeeping sequencer (R600 to R605), with their verbs. -/

namespace Sys2Proof.Machine

def sen (s : State) (n : Nat) : Sensor := vget s.therm.sensors n
def modSen (n : Nat) (f : Sensor → Sensor) (s : State) : State :=
  { s with therm := { s.therm with sensors := vmod s.therm.sensors n f } }

/-- ANA_CLK runs (R28, R31, R610, R713). -/
def anaRuns (s : State) : Bool := rootClks s

/-! ### Conversion (R580 to R584) -/

/-- R580: t_d in µs. -/
def dischargeUs (d : DThermal) : Nat := (clampI 1 64 (ceilDiv 2560 d.exciteUa : Nat)).toNat

/-- R581: N_w. -/
def windowBits (rate : Nat) : Nat := 512 * ceilDiv 12000000 (8192 * rate)

/-- R582: the resistance in Ω of two samples of opposite orientation. -/
def resistance (d : DThermal) (x x' : Int) : Rat :=
  let scale : Rat := (5 : Rat) / 4 / ((2 ^ 23 * 2 ^ d.gainLog2 : Nat) : Rat)
  ((x + x' : Int) : Rat) * scale / (2 * (d.exciteUa : Rat) / 1000000)

/-- R583: R / R₀ of the Callendar–Van Dusen equation at T. -/
def cvd (t : Rat) : Rat :=
  let a : Rat := 39083 / 10000000
  let b : Rat := -5775 / 10000000000
  let c : Rat := if t < 0 then -4183 / 1000000000000000 else 0
  1 + a * t + b * t * t + c * (t - 100) * t * t * t

/-- The equation solved for T by halving the range -200 to 860 °C: 31 halvings leave less than 2^-20 K. -/
def cvdSolve (ratio : Rat) : Nat → Rat → Rat → Rat
  | 0, lo, hi => (lo + hi) / 2
  | n + 1, lo, hi =>
    let mid := (lo + hi) / 2
    if cvd mid ≤ ratio then cvdSolve ratio n mid hi else cvdSolve ratio n lo mid

/-- R583: T of a resistance. -/
def temperature (d : DThermal) (r : Rat) : Rat :=
  let r0 : Rat := (d.nominal : Rat) / 1000
  if d.kind = 2 then
    let l := r64 (ln64 (r64 (r / r0)) / (d.beta : Rat))
    r64 (r64 (1 / r64 (r64 (1 / (29815 / 100)) + l)) - 27315 / 100)
  else cvdSolve (r / r0) 31 (-200) 860

/-- R584: the reading is faulted. -/
def sampleFaulted (d : DThermal) (x x' : Int) (r : Rat) : Bool :=
  let r0 : Rat := (d.nominal : Rat) / 1000
  decide (8220836 ≤ x.natAbs) || decide (8220836 ≤ x'.natAbs) ||
  (if d.kind = 2 then decide (r < r0 * 2 / 1000) || decide (500 * r0 < r) else decide (2 * r < r0) || decide (r0 * 26 / 10 < r))

/-- R583, R584: the reading in 1/16 °C, or -32768 (0x8000) when faulted. -/
def readingOf (d : DThermal) (x x' : Int) : Int :=
  let r := resistance d x x'
  if sampleFaulted d x x' r then -32768
  else clampI (-32768) 32767 (16 * temperature d r + 1 / 2).floor

/-! ### Thresholds (R591 to R597) -/

/-- Rise, fall and dwell in force. -/
def thrOf (s : State) (n : Nat) : Int × Int × Nat :=
  match (sen s n).thr, dThermal? s n with
  | some t, _ => t
  | none, some d => (d.rise, if d.fall = 0 then d.rise - 32 else d.fall, d.dwell)
  | none, none => (0, 0, 1)

def levelCode : TLevel → Nat
  | .clear => 0
  | .raised => 1
  | .overs => 2

/-- R595: the threshold state byte. -/
def thrByte (x : Sensor) : Nat := levelCode x.level + flag x.latched 2 + flag x.fault 3 + flag x.stale 4

/-- R611: RPT.TEMP_EVENT; the two counts start again. -/
def tempEvent (n ev : Nat) (s : State) : State :=
  let x := sen s n
  let t := thrOf s n
  let recent := (x.crossings.filter fun c => decide (s.localNs ≤ c + 60000000000)).length
  let u := fwReport 0x0080 [fld n 0 8 + fld ev 8 8 + fld (thrByte x) 16 8,
    unsignedOf 16 (x.reading.getD 0) + fld (min recent 65535) 16 16,
    unsignedOf 16 t.1 + unsignedOf 16 t.2.1 * 65536, min x.late 65535 + min x.abandoned 65535 * 65536, lastAdm s] s
  modSen n (fun y => { y with late := 0, abandoned := 0 }) u

def zeroCounts (x : Sensor) : Sensor := { x with cUp := 0, cOver := 0, cDown := 0 }

/-- R592: a crossing is recorded at a time; five within 60 s latch the sensor. -/
def crossAt (now : Nat) (x : Sensor) : Sensor :=
  let c := (now :: x.crossings).take 5
  { x with crossings := c,
           latched := x.latched || (c.length == 5 && decide (now ≤ c.getLastD 0 + 60000000000)) }

/-- R591, R592: a reading that is not faulted moves LEVEL; the event it causes, if any. -/
def levelStep (t : Int × Int × Nat) (now : Nat) (r : Int) (x : Sensor) : Sensor × Option Nat :=
  let rise := t.1
  let fall := t.2.1
  let dwell := t.2.2
  let band := rise - fall
  let overs := rise + 256
  let bump (c : Bool) (n : Nat) : Nat := if c then n + 1 else 0
  let up := bump (x.level == .clear && decide (rise ≤ r ∧ r < overs)) x.cUp
  let ov := bump (x.level != .overs && decide (overs ≤ r)) x.cOver
  let dn := bump (match x.level with
    | .raised => if x.latched then decide (r ≤ fall - band) else decide (r ≤ fall)
    | .overs => !x.fault && decide (r < overs - band)
    | .clear => false) x.cDown
  let y := { x with cUp := up, cOver := ov, cDown := dn }
  if dwell ≤ ov then
    let z := zeroCounts { y with level := .overs }
    if x.level = .clear then
      let w := crossAt now z
      (w, some (if w.latched && !x.latched then 3 else 4))
    else (z, some 4)
  else if dwell ≤ up then
    let w := crossAt now (zeroCounts { y with level := .raised })
    (w, some (if w.latched && !x.latched then 3 else 1))
  else if dwell ≤ dn then
    match x.level with
    | .overs => (zeroCounts { y with level := .raised }, some 5)
    | _ => (zeroCounts { y with level := .clear, latched := false, crossings := if x.latched then [] else x.crossings }, some 2)
  else (y, none)

/-- R593: FAULT clears after DWELL readings that are not faulted. -/
def faultStep (t : Int × Int × Nat) (r : Int) (x : Sensor) : Sensor × Option Nat :=
  let g := x.cGood + 1
  let y := { x with cGood := g, cFault := 0 }
  if x.fault && decide (t.2.2 ≤ g) then
    let band := t.1 - t.2.1
    (zeroCounts { y with fault := false, level := if t.1 + 256 - band ≤ r then .overs else .raised }, some 7)
  else (y, none)

/-! ### Derating (R522 to R524, R594) -/

/-- R523: T_h after a reading. -/
def hotStep (dwell : Nat) (r : Int) (x : LampStr) : LampStr :=
  match x.hotTemp with
  | none => { x with hotTemp := some r, hotUp := 0, hotDown := 0 }
  | some h =>
    let up := if h < r then x.hotUp + 1 else 0
    let dn := if r < h - 32 then x.hotDown + 1 else 0
    if dwell ≤ up then { x with hotTemp := some r, hotUp := 0, hotDown := 0 }
    else if dwell ≤ dn then { x with hotTemp := some (r + 32), hotUp := 0, hotDown := 0 }
    else { x with hotUp := up, hotDown := dn }

/-- The derating ceiling a sensor's state gives a string, or none for OVERTEMP. -/
def derateTo (d : DString) (x : LampStr) (y : Sensor) : Option Nat :=
  if y.fault then none
  else if !d.derate then
    match y.level with
    | .clear => some d.iNom
    | .raised => some (max d.iRecover (3 * d.iNom / 4))
    | .overs => none
  else
    match x.hotTemp with
    | none => some d.iNom
    | some h =>
      let c : Int := (d.iNom : Int) - (d.slope : Int) * (max 0 (h - d.kneeC16)) / 16
      if c < d.iRecover then none else some c.toNat

/-- R524: a string's current rises again under its grant, or asks every 1 s. -/
def restoreCurrent (n : Nat) (s : State) : State :=
  match dString? s n with
  | none => s
  | some d =>
    let x := str s n
    let i := min (iSetOf d x.level) (ceilingMa s n d)
    if x.st = .on && decide (x.target < (senseCode d.senseUohm i : Rat)) then
      let g := askRise n d i s
      if g.1 then unwaitGrant (.string n) .lampRise (startStr n false (modStr n (fun y => { y with stepWanted := false }) g.2))
      else waitGrant (.string n) .lampRise (modStr n (fun y => { y with stepWanted := true }) g.2)
    else s

/-- R522 to R524, R594, R781: a string follows its sensor's state. -/
def derateString (n : Nat) (y : Sensor) (s : State) : State :=
  match dString? s n with
  | none => s
  | some d =>
    let x := str s n
    match derateTo d x y with
    | none => if switching x then strFault n 6 7 false s else s
    | some c =>
      let old := derateCeil d x
      if c = old then s
      else
        let t := modStr n (fun z => { z with derated := if c = d.iNom then none else some c }) s
        let t := strEvent n 8 (strCode x.st) (strCode x.st) t
        let t := if c < old then capTarget n t else restoreCurrent n t
        let t := match t.cal.run with
          | some r => if r.white && r.accumulating && decide (c < iSetOf d x.level) then endCal stState 0x0103 [] t else t
          | none => t
        markCaptures t

/-- Every string that names the sensor follows it. -/
def derateAll (n : Nat) (s : State) : State :=
  (dStrings s).foldl (fun t p => if p.2.sensor = n then derateString p.1 (sen t n) t else t) s

/-- R754: the highest lamp-board reading of the lamps of every string that names the sensor. -/
def noteHottest (n : Nat) (r : Int) (s : State) : State :=
  (dStrings s).foldl (fun t p =>
    if p.2.sensor = n then countLamps p.1 (fun x => { x with hottest := max x.hottest r }) (lampsOf t p.1) t else t) s

/-! ### Readings -/

def Busy.isThr (n : Nat) : Busy → Bool
  | .threshold m => m == n
  | _ => false

/-- R597: a TEMP.THRESHOLD applies from the sensor's next reading. -/
def applyThreshold (n : Nat) (s : State) : State :=
  match (sen s n).pendingThr with
  | none => s
  | some t =>
    endBusy (Busy.isThr n) stOk 0 []
      (modSen n (fun x => zeroCounts { x with thr := some t, pendingThr := none, cFault := 0, cGood := 0 }) s)

/-- A reading is issued (R584, R590 to R594, R612). -/
def issueReading (n : Nat) (r : Int) (s : State) : State :=
  let s := applyThreshold n s
  let t := thrOf s n
  let now := s.localNs
  let s := modSen n (fun x => { x with reading := some r, readAt := now, stale := false }) s
  if r = -32768 then modSen n (fun x => zeroCounts { x with cFault := x.cFault + 1, cGood := 0 }) s
  else
    let f := faultStep t r (sen s n)
    let l := if (sen s n).fault then (f.1, none) else levelStep t now r f.1
    let s := modSen n (fun _ => l.1) s
    let s := match f.2 with | some e => tempEvent n e s | none => s
    let s := match l.2 with | some e => tempEvent n e s | none => s
    let s := (dStrings s).foldl (fun u p => if p.2.sensor = n && p.2.derate then modStr p.1 (hotStep t.2.2 r) u else u) s
    derateAll n (noteHottest n r s)

/-- R585: sample k of a sensor is due k / RATE_SPS after its start, in whole ns. -/
def sampleDue (d : DThermal) (k : Nat) : Nat := k * 1000000000 / d.rateSps

/-- The number of the sample that is due so long after the start. -/
def sampleNo (d : DThermal) (ns : Nat) : Nat := ceilDiv (ns * d.rateSps) 1000000000

/-- TFE_SLOT_START: the slot of the sensor whose due time is earliest among those due (R580, R585). -/
def slotStart (s : State) : State :=
  let now := s.localNs
  let due := (List.range 8).filter fun n => (dThermal? s n).isSome && decide ((sen s n).due ≤ now)
  let pick := due.foldl (fun acc n => match acc with
    | none => some n
    | some m => if (sen s n).due < (sen s m).due then some n else some m) none
  match pick with
  | none => s
  | some n =>
    match dThermal? s n with
    | none => s
    | some d =>
      let x := sen s n
      let lateBy := decide (1000000000 < (now - x.due) * d.rateSps)
      let k := if lateBy then (now - x.start) * d.rateSps / 1000000000 else sampleNo d (x.due - x.start)
      modSen n (fun y => { y with due := x.start + sampleDue d (k + 1), late := if lateBy then y.late + 1 else y.late })
        { s with therm := { s.therm with slot := some n, points := [], window := now + 167 + 2000 * dischargeUs d + 8000 } }

def execTfeSlotStart (s : State) : Host.Outcome State Fault Refusal :=
  settled (if anaRuns s && s.therm.slot.isNone then slotStart s else s)

/-! ### Blanking (R587 to R589) -/

/-- R588: modulator bit `b` of a window that began at `start` is dropped: BLANK was high at some time within its period of 1000/12 ns
or the period before, or a point event fell within either. BLANK's level is given as its spans, in ns of local time. -/
def dropped (start : Nat) (blank : List (Nat × Nat)) (points : List Nat) (b : Nat) : Bool :=
  let lo := 12 * start + 1000 * b
  blank.any (fun h => decide (12 * h.1 < lo + 1000 ∧ lo < 12 * h.2 + 1000)) ||
    points.any (fun t => decide (lo ≤ 12 * t + 1000 ∧ 12 * t < lo + 1000))

/-- The modulator bits that the window in progress has fed to the filter by now, or by the time at which it is abandoned (R588, R589). -/
def fedBits (d : DThermal) (blank : List (Nat × Nat)) (s : State) : Nat :=
  let bits := min (12 * (s.localNs - s.therm.window) / 1000) (4 * windowBits d.rateSps)
  (List.range bits).countP fun b => !dropped s.therm.window blank s.therm.points b

/-- The slot ends (R580): the chopper has advanced by the bits fed (R581), and BLANK stands as it was observed. -/
def slotEnds (fed : Nat) (blank : List (Nat × Nat)) (s : State) : State :=
  { s with therm := { s.therm with
    slot := none, chop := (s.therm.chop + fed) % 256, blank := blank.any fun h => decide (h.1 ≤ s.localNs ∧ s.localNs ≤ h.2) } }

/-- TFE_WINDOW_END: the window has been fed N_w bits and gives the sample value X (R581, R582). -/
def windowEnd (x : Int) (blank : List (Nat × Nat)) (s : State) : State :=
  match s.therm.slot with
  | none => s
  | some n =>
    match dThermal? s n with
    | none => s
    | some d =>
      if fedBits d blank s < windowBits d.rateSps then s
      else
        let prev := (sen s n).lastX
        let t := modSen n (fun y => { y with lastX := some x, orient := !y.orient }) (slotEnds (windowBits d.rateSps) blank s)
        match prev with
        | none => t
        | some x' => issueReading n (readingOf d x x') t

def execTfeWindowEnd (win : TfeWindow) (s : State) : Host.Outcome State Fault Refusal :=
  settled (if anaRuns s then windowEnd win.x win.blank s else s)

/-- TFE_WINDOW_ABANDON: 4 × N_w bit times have passed without N_w bits fed (R589), BLANK having been high in the
spans `blank`. -/
def execTfeWindowAbandon (s : State) (blank : List (Nat × Nat) := []) : Host.Outcome State Fault Refusal :=
  settled (match s.therm.slot with
    | none => s
    | some n =>
      match dThermal? s n with
      | none => s
      | some d =>
        let fed := fedBits d blank s
        if anaRuns s && decide (12 * s.therm.window + 4000 * windowBits d.rateSps ≤ 12 * s.localNs ∧ fed < windowBits d.rateSps) then
          modSen n (fun y => { y with abandoned := y.abandoned + 1 }) (slotEnds fed blank s)
        else s)

/-- R599: the safety outputs that carry a sensor go low: it is stale, or has faulted. -/
def holdOuts (n : Nat) (s : State) : State :=
  { s with therm := { s.therm with outs := vmapIdx (fun k o =>
    if (s.decl.bind fun d => d.safety[k]?).any fun e => e.1 == n then {} else o) s.therm.outs } }

/-- SENSOR_STALE: no reading for 4 / RATE_SPS (R590). -/
def execSensorStale (n : Nat) (s : State) : Host.Outcome State Fault Refusal :=
  settled (match dThermal? s n with
    | none => s
    | some d =>
      if anaRuns s && !(sen s n).stale && decide ((sen s n).readAt + 4000000000 / d.rateSps ≤ s.localNs) then
        tempEvent n 8 (holdOuts n (modSen n (fun y => { y with stale := true }) s))
      else s)

/-- SENSOR_FAULT: DWELL faulted readings, or stale for 1 s (R593, R594). -/
def execSensorFault (n : Nat) (s : State) : Host.Outcome State Fault Refusal :=
  settled (match dThermal? s n with
    | none => s
    | some d =>
      let x := sen s n
      let staleFor := x.stale && decide (x.readAt + 4000000000 / d.rateSps + 1000000000 ≤ s.localNs)
      if anaRuns s && !x.fault && (decide ((thrOf s n).2.2 ≤ x.cFault) || staleFor) then
        derateAll n (tempEvent n 6 (holdOuts n (modSen n (fun y => zeroCounts { y with fault := true, level := .overs, cGood := 0 }) s)))
      else s)

/-! ### Safety outputs (R598, R599) -/

/-- R598: period and high time of a reading: µs in MODE 1, cycles of ANA_CLK in MODE 2. -/
def safetyWave (mode : Nat) (t16 : Int) : SafetyOut :=
  if mode = 1 then { period := 1000, high := (clampI 100 900 (100 + (2 * (t16 + 800) + 5) / 10)).toNat }
  else
    let f := (clampI 1000 3500 (1000 + (10 * (t16 + 800) + 8) / 16)).toNat
    let p := (48000000 + f) / (2 * f)
    { period := p, high := p / 2 }

/-- R599: what an output carries from its next period boundary. -/
def safetyNow (s : State) (k : Nat) : SafetyOut :=
  match s.decl.bind fun d => d.safety[k]? with
  | none => {}
  | some (n, mode) =>
    let x := sen s n
    match x.reading with
    | none => {}
    | some r => if mode = 0 || x.fault || x.stale || !anaRuns s || r = -32768 then {} else safetyWave mode r

/-- The mode of a safety output. -/
def safetyMode (s : State) (k : Nat) : Nat := ((s.decl.bind fun d => d.safety[k]?).map Prod.snd).getD 0

/-- The period in force of an output is over: 1,000 µs in MODE 1, cycles of ANA_CLK (125/3 ns) in MODE 2. -/
def periodOver (s : State) (k : Nat) : Bool :=
  let o := vget s.therm.outs k
  let ns3 := if safetyMode s k = 1 then 3000 * o.period else 125 * o.period
  decide (ns3 ≤ 3 * (s.localNs - o.since))

/-- SAFETY_OUTPUT_PERIOD (R599): at a period boundary an output takes the reading. -/
def execSafetyOutputPeriod (k : Nat) (s : State) : Host.Outcome State Fault Refusal :=
  settled (if periodOver s k then
    { s with therm := { s.therm with outs := vset s.therm.outs k { safetyNow s k with since := s.localNs } } }
  else s)

/-! ### Housekeeping sequencer (R600 to R605) -/

/-- R600: a conversion lasts its sampling phase and 8 cycles of ANA_CLK (125/3 ns each); in ns, rounded up. -/
def convNs (cycles : Nat) : Nat := ceilDiv ((cycles + 8) * 125) 3

/-- R606: a conversion of the sequencer may begin on a converter at `now`: on HK1 only when it ends before the supervisor's slot. -/
def convFits (u : HkU) (now k cycles : Nat) : Bool := k == 0 || decide (now + convNs cycles ≤ u.slotAt)

/-- A converter is not converting, but for the supervisor's slot. -/
def convFree (u : HkU) (k : Nat) : Bool := (vget u.runs k).isNone && (vget u.urgent k).isNone

/-- The converter an entry may begin on now: the one it names, or the free one, HK0 on a tie; urgent conversions hold a
converter too (R603, R606, R607). -/
def hkFree (u : HkU) (now : Nat) (e : HkEntry) : Option Nat :=
  let free (k : Nat) : Bool := convFree u k && convFits u now k e.cycles
  match e.conv with
  | 1 => if free 0 then some 0 else none
  | 2 => if free 1 then some 1 else none
  | _ => if free 0 then some 0 else if free 1 then some 1 else none

/-- R603, R604: the entries that can begin, in order; at entry 0 a new sequence replaces the old. -/
def hkBegin (now : Nat) : Nat → HkU → HkU × Bool
  | 0, u => (u, false)
  | fuel + 1, u =>
    if u.seq.length ≤ u.pos ∨ u.pos = 0 then
      if u.pos ≠ 0 ∧ ((vget u.runs 0).isSome ∨ (vget u.runs 1).isSome) then (u, false)
      else
        let sw := u.next.isSome
        let u' := match u.next with
          | some q => { u with seq := q, next := none, results := List.replicate q.length 0, pos := 0 }
          | none => { u with pos := 0 }
        match u'.seq with
        | [] => (u', sw)
        | e :: _ => match hkFree u' now e with
          | none => (u', sw)
          | some k =>
            let r := hkBegin now fuel { u' with runs := vset u'.runs k (some { idx := 0, count := 0, sum := 0, since := some now }), pos := 1 }
            (r.1, r.2 || sw)
    else match u.seq[u.pos]? with
      | none => (u, false)
      | some e => match hkFree u now e with
        | none => (u, false)
        | some k =>
          hkBegin now fuel { u with
            runs := vset u.runs k (some { idx := u.pos, count := 0, sum := 0, since := some now })
            pos := u.pos + 1 }

/-- R603, R606: the next conversion of an entry in progress begins on its converter, back to back with the last or after what held
the converter; on HK1 it waits for the slot. -/
def nextConv (t k : Nat) (u : HkU) : HkU :=
  match vget u.runs k with
  | none => u
  | some r =>
    let cycles := ((u.seq[r.idx]?).map HkEntry.cycles).getD 4
    { u with runs := vset u.runs k (some { r with since := if (vget u.urgent k).isNone && convFits u t k cycles then some t else none }) }

/-- An entry that waited on a converter goes on. -/
def hkResume (now k : Nat) (u : HkU) : HkU :=
  match vget u.runs k with
  | some { since := none, .. } => nextConv now k u
  | _ => u

def Busy.isHkSeq : Busy → Bool
  | .hkSequence => true
  | _ => false

/-- The sequencer goes on; a HK.SEQUENCE whose sequence has begun is answered. -/
def hkPump (s : State) : State :=
  let r := hkBegin s.localNs 3 (hkResume s.localNs 1 (hkResume s.localNs 0 s.hk))
  let t := { s with hk := r.1 }
  if r.2 then endBusy Busy.isHkSeq stOk 0 [] t else t

/-- R603: an entry's result. -/
def hkResult (e : HkEntry) (sum : Nat) : Nat := (2 * 16 * sum + 2 ^ e.avgLog2) / (2 * 2 ^ e.avgLog2)

/-- HK_CONVERSION_END: a conversion of the sequencer ends on a converter with a code, its time having passed (R600, R603). -/
def hkConversionEnd (k code : Nat) (s : State) : State :=
  match vget s.hk.runs k with
  | none => s
  | some r =>
    match s.hk.seq[r.idx]?, r.since with
    | some e, some t0 =>
      let r' := { r with count := r.count + 1, sum := r.sum + min code 4095 }
      if s.localNs < t0 + convNs e.cycles then s
      else if r'.count < 2 ^ e.avgLog2 then
        { s with hk := nextConv (t0 + convNs e.cycles) k { s.hk with runs := vset s.hk.runs k (some r') } }
      else hkPump { s with hk := { s.hk with runs := vset s.hk.runs k none, results := s.hk.results.set r.idx (hkResult e r'.sum) } }
    | _, _ => s

def execHkConversionEnd (k code : Nat) (s : State) : Host.Outcome State Fault Refusal :=
  settled (if anaRuns s then hkConversionEnd k code s else s)

/-! ### ANA_CLK stops and starts (R582, R610) -/

/-- R599, R610: ANA_CLK stops: the slot, the sequence and urgent conversions end, and the safety outputs go low. -/
def anaStop (s : State) : State :=
  { s with
    therm := { s.therm with slot := none, outs := Vector.replicate 2 {} }
    hk := { s.hk with runs := Vector.replicate 2 none, urgent := Vector.replicate 2 none, pos := 0 } }

/-- R582, R606, R610: ANA_CLK starts: every declared sensor restarts, with its LEVEL, latch, crossings and dwell counts kept, the
supervisor's first slot begins, and the sequence begins at entry 0. -/
def anaStart (s : State) : State :=
  let now := s.localNs
  hkPump ((List.range 8).foldl (fun t n =>
    if (dThermal? t n).isSome then
      modSen n (fun x => { x with lastX := none, reading := none, start := now, due := now, readAt := now }) t
    else t) { s with hk := { s.hk with slotAt := now } })

/-! ### Verbs (R190) -/

/-- R595, R609: TEMP.READ's bytes: each sensor's reading and state byte, then the die. -/
def tempBytes (s : State) (n : Nat) : List Byte :=
  let x := sen s n
  leInt 2 (x.reading.getD (-32768)) ++ [b8 (thrByte x), 0#8]

def vTempRead (c : Cmd) (s : State) : Ans × State :=
  let l := if objKind c.req.obj = kSensor then [objIdx c.req.obj] else (List.range 8).filter fun n => (dThermal? s n).isSome
  checked [objIs [kSensor, kDevice] c s, modsIn 0 c, noPayload c, declared s] s
    (done (l.flatMap (tempBytes s) ++ leInt 2 (vget s.hk.sup 0).latest) s)

/-- R596, R597: TEMP.THRESHOLD. -/
def vTempThreshold (c : Cmd) (s : State) : Ans × State :=
  let n := objIdx c.req.obj
  let rise := ps c 0 2
  let fall := if ps c 2 2 = 0 then rise - 32 else ps c 2 2
  let dw := pu c 4 1
  checked [objIs [kSensor] c s, modsIn 0 c, shape [.u 2, .u 2, .u 1] c,
      need (decide (fall < rise ∧ 1 ≤ dw ∧ dw ≤ 64)) stBadArg 0, declared s, need (decide (rise ≤ limitOf (.tempRise n) s)) stLimit 0] s
    (.wait (.threshold n), modSen n (fun x => { x with pendingThr := some (rise, fall, dw) }) s)

/-- R602: an entry's fields in range. -/
def hkEntryOk (e : HkEntry) : Bool :=
  decide (e.channel < 32) && (if e.channel = 31 then decide (e.subsel < 32) else e.subsel == 0) &&
  decide (4 ≤ e.cycles ∧ e.cycles ≤ 256) && decide (e.gain ≤ 2) && decide (e.avgLog2 ≤ 8) && decide (e.conv ≤ 2)

/-- R602: entry `i` of the payload; the 8-byte entries begin at payload byte 2 (R163). -/
def hkEntryAt (c : Cmd) (i : Nat) : HkEntry :=
  let o := 2 + 8 * i
  { channel := pu c o 1, subsel := pu c (o + 1) 1, cycles := pu c (o + 2) 2, gain := pu c (o + 4) 1,
    avgLog2 := pu c (o + 5) 1, conv := pu c (o + 6) 1 }

/-- R190, R602, R604: HK.SEQUENCE. -/
def vHkSequence (c : Cmd) (s : State) : Ans × State :=
  let k := pu c 0 1
  let es := (List.range k).map (hkEntryAt c)
  checked [objIs [kDevice] c s, modsIn 0 c, need (decide (c.req.payload.length = 2 + 8 * k ∧ 10 ≤ c.req.payload.length)) stBadArg 0,
      need (c.req.payload.getD 1 0#8 == 0#8 && (List.range k).all fun i => pu c (9 + 8 * i) 1 == 0) stBadArg 4,
      need (decide (1 ≤ k ∧ k ≤ 16)) stBadArg 0, need (es.all hkEntryOk) stBadArg 0, declared s] s
    (let t := { s with hk := { s.hk with next := some es } }
     let idle := s.hk.seq.isEmpty
     if idle && anaRuns s then
       let u := { t with hk := (hkBegin s.localNs 3 t.hk).1 }
       done [] u
     else (.wait .hkSequence, t))

/-- R604: HK.READ. -/
def vHkRead (c : Cmd) (s : State) : Ans × State :=
  checked [objIs [kDevice] c s, modsIn 0 c, noPayload c, declared s] s (done (s.hk.results.flatMap (leBytes 2)) s)

end Sys2Proof.Machine
end

