-- ==== Sys2Proof/Machine/DeclParse.lean ====
section
/-! DEFINITION. Reading and validating a board declaration (R195 to R211, R822, R378, R379, R586, R622): each step gives
the failure its status, detail, record and offset. -/

namespace Sys2Proof.Machine

/-- A refusal of a declaration (R822): status, detail, TYPE, INSTANCE and OFFSET. -/
structure DFail where
  status : Nat
  detail : Nat
  type : Nat
  inst : Nat
  offset : Nat
  deriving DecidableEq, Repr, Inhabited

/-- R822: the payload of the refusal. -/
def DFail.payload (f : DFail) : List Byte := leBytes 2 f.type ++ leBytes 2 f.inst ++ leBytes 4 f.offset

abbrev dFormat := 0x0101
abbrev dCrc := 0x0102
abbrev dOrder := 0x0103
abbrev dMissing := 0x0104
abbrev dRange := 0x0105
abbrev dConflict := 0x0106
abbrev dMinor := 0x0107

def dFail (detail type inst offset : Nat) : DFail :=
  { status := stBadArg, detail := detail, type := type, inst := inst, offset := offset }

/-! ### Records (R196 to R198) -/

/-- R197: the largest instance of a type and the length of its body; LAMP_MAP's length is its string's. -/
def recType : Nat → Option (Nat × Nat)
  | 0x0001 => some (0, 12)
  | 0x0002 => some (0, 24)
  | 0x0003 => some (23, 20)
  | 0x0004 => some (0, 8)
  | 0x0010 => some (15, 24)
  | 0x0011 => some (15, 0)
  | 0x0020 => some (7, 24)
  | 0x0030 => some (3, 68)
  | 0x0031 => some (3, 8)
  | 0x0032 => some (0, 36)
  | 0x0040 => some (7, 12)
  | 0x0050 => some (0, 8)
  | 0x0060 => some (0, 12)
  | 0x0070 => some (1, 12)
  | 0x0080 => some (0, 4)
  | 0x0090 => some (0, 4)
  | _ => none

/-- A record at its place: the offset of its TYPE field. -/
structure Placed where
  off : Nat
  rr : RawRec
  deriving DecidableEq, Repr, Inhabited

def recSize (r : RawRec) : Nat := 8 + r.body.length

/-- R196: the bytes of a record. -/
def recBytes (r : RawRec) : List Byte := leBytes 2 r.type ++ leBytes 2 r.inst ++ leBytes 4 r.body.length ++ r.body

/-- Records one after another from an offset. -/
def placeFrom : Nat → List RawRec → List Placed
  | _, [] => []
  | o, r :: rs => { off := o, rr := r } :: placeFrom (o + recSize r) rs

def placeRecs (l : List RawRec) : List Placed := placeFrom 32 l

/-- TOTAL_SIZE of a declaration of these records. -/
def totalSize (l : List RawRec) : Nat := 32 + (l.map recSize).sum

/-- The walk of step 1 over the bytes from offset `o`, with the fuel of their number. -/
def walkRecords : Nat → Nat → List Byte → List RawRec → Except DFail (List RawRec)
  | 0, _, _, acc => .ok acc.reverse
  | n + 1, o, bs, acc =>
    if bs.isEmpty then .ok acc.reverse
    else
      let t := uAt bs 0 2
      let i := uAt bs 2 2
      let len := uAt bs 4 4
      if bs.length < 8 then .error (dFail dFormat t i o)
      else if (recType t).isNone && t < 0x8000 then .error (dFail dFormat t i o)
      else if bs.length - 8 < len then .error (dFail dFormat t i o)
      else walkRecords n (o + 8 + len) (bs.drop (8 + len)) ({ type := t, inst := i, body := (bs.drop 8).take len } :: acc)

/-- The header as given (R195). -/
structure DHeader where
  total : Nat
  count : Nat
  minor : Nat
  declId : Nat
  /-- The reserved header field, at 0x0F or at 0x14, that is not 0: the first such field's offset (R822). -/
  reserved : Option Nat
  deriving DecidableEq, Repr, Inhabited

/-- R210, steps 1 and 2: the header and the records. -/
def readDeclaration (bs : List Byte) : Except DFail (DHeader × List RawRec) :=
  let hf (o : Nat) : Except DFail (DHeader × List RawRec) := .error (dFail dFormat 0 0 o)
  if uAt bs 0 4 ≠ 0x42444C52 then hf 0
  else if uAt bs 4 2 ≠ 1 then hf 4
  else if uAt bs 6 2 ≠ 32 then hf 6
  else if uAt bs 8 4 ≠ bs.length ∨ bs.length < 32 ∨ 65536 < bs.length then hf 8
  else match walkRecords (bs.length + 1) 32 (bs.drop 32) [] with
    | .error e => .error e
    | .ok l =>
      if l.length ≠ uAt bs 12 2 then hf 12
      else if crc32 (bs.take 28 ++ bs.drop 32) ≠ w32 (uAt bs 28 4) then .error (dFail dCrc 0 0 28)
      else
        let res := if uAt bs 0x0F 1 ≠ 0 then some 0x0F else if uAt bs 0x14 8 ≠ 0 then some 0x14 else none
        .ok ({ total := bs.length, count := l.length, minor := uAt bs 14 1, declId := uAt bs 16 4, reserved := res }, l)

/-! ### Steps 3 to 5 -/

def findRec (l : List RawRec) (t i : Nat) : Option RawRec := l.find? fun r => r.type == t && r.inst == i
def recsOf (l : List RawRec) (t : Nat) : List RawRec := l.filter fun r => r.type == t

/-- Field of a record's body. -/
def ru (r : RawRec) (o n : Nat) : Nat := uAt r.body o n
def rs (r : RawRec) (o n : Nat) : Int := sAt r.body o n

def keyLt (a b : Nat × Nat) : Bool := decide (a.1 < b.1) || (a.1 == b.1 && decide (a.2 < b.2))

/-- R197: SEGMENT instances are contiguous from 0: every instance below this one is present. -/
def segmentsBelow (all : List RawRec) (n : Nat) : Bool := (List.range n).all fun i => (findRec all 3 i).isSome

/-- Step 3 of one record, after the record before it. -/
def orderFail (all : List RawRec) (prev : Option (Nat × Nat)) (p : Placed) : Option DFail :=
  let r := p.rr
  let at_ (o : Nat) : Option DFail := some (dFail dOrder r.type r.inst o)
  let ordered := match prev with | some k => keyLt k (r.type, r.inst) | none => true
  if !ordered then at_ p.off
  else match recType r.type with
    | none => none
    | some (maxI, len) =>
      if maxI < r.inst || (r.type == 3 && !segmentsBelow all r.inst) then at_ p.off
      else if r.type = 0x0011 then
        match findRec all 0x0010 r.inst with
        | none => at_ p.off
        | some s => if r.body.length ≠ 12 * ru s 0 1 then at_ (p.off + 4) else none
      else if r.body.length ≠ len then at_ (p.off + 4)
      else none

/-- Step 3. -/
def ordersFail (all : List RawRec) : Option (Nat × Nat) → List Placed → Option DFail
  | _, [] => none
  | prev, p :: ps =>
    match orderFail all prev p with
    | some e => some e
    | none => ordersFail all (some (p.rr.type, p.rr.inst)) ps

/-- R197: the records that the others require. -/
def requiredRecs (l : List RawRec) : List (Nat × Nat) :=
  let encs := ((recsOf l 0x30).map fun r => ru r 0 1) ++ ((recsOf l 1).map fun r => ru r 1 1)
  let feed := (recsOf l 1).flatMap fun r =>
    if ru r 0 1 = 1 then (0x32, 0) :: (if ru r 2 1 ≤ 3 then [(0x30, ru r 2 1)] else []) else []
  let buds := ((recsOf l 3).map fun r => ru r 15 1) ++ ((recsOf l 0x10).map fun r => ru r 3 1) ++
    ((recsOf l 0x30).map fun r => ru r 2 1) ++ ((recsOf l 0x50).map fun r => ru r 4 1)
  [(1, 0), (2, 0), (3, 0), (4, 0), (0x50, 0)] ++
    ((recsOf l 0x10).map fun r => (0x11, r.inst)) ++ ((encs.filter fun e => decide (e ≤ 3)).map fun e => (0x31, e)) ++ feed ++
    ((buds.filter fun b => decide (b ≤ 7)).map fun b => (0x40, b))

/-- Step 4: of several missing records, the one that would stand first. -/
def missingFail (l : List RawRec) : Option DFail :=
  let miss := (requiredRecs l).filter fun k => (findRec l k.1 k.2).isNone
  match miss with
  | [] => none
  | k :: ks =>
    let first := ks.foldl (fun a b => if keyLt b a then b else a) k
    let off := match (placeRecs l).find? fun p => keyLt first (p.rr.type, p.rr.inst) with
      | some p => p.off
      | none => totalSize l
    some (dFail dMissing first.1 first.2 off)

/-! ### Step 6: ranges and reserved fields (R199 to R208) -/

/-- Checks of one record's fields: offset in the body, and whether the field is in its range. -/
def rangeChecks (l : List RawRec) (r : RawRec) : List (Nat × Bool) :=
  let le (o n hi : Nat) : Nat × Bool := (o, decide (ru r o n ≤ hi))
  let rng (o n lo hi : Nat) : Nat × Bool := (o, decide (lo ≤ ru r o n ∧ ru r o n ≤ hi))
  let zero (o n : Nat) : List (Nat × Bool) := [(o, ru r o n == 0)]
  let orFF (o hi : Nat) : Nat × Bool := (o, decide (ru r o 1 ≤ hi) || ru r o 1 == 0xFF)
  match r.type with
  | 0x0001 =>
    [le 0 1 1, le 1 1 3, (2, if ru r 0 1 = 1 then decide (ru r 2 1 ≤ 3) else ru r 2 1 == 0xFF), le 3 1 3, rng 4 1 8 64, le 5 1 7,
      rng 6 2 150 2400, rng 8 4 1 100000000]
  | 0x0002 =>
    let dpi := match findRec l 1 0 with | some x => ru x 6 2 | none => 0
    [rng 0 4 64 16384, rng 4 4 64 16384, (16, decide (dpi ≤ 16 * ru r 16 2 ∧ ru r 16 2 ≤ dpi)), le 18 1 1, le 19 1 1, le 20 1 1,
      le 21 1 4] ++ zero 22 2
  | 0x0003 =>
    let top := (recsOf l 3).foldl (fun m x => max m x.inst) 0
    let map := ru r 13 1
    [le 0 1 1, rng 1 1 2 16, (2, decide (64 ≤ ru r 2 2 ∧ ru r 2 2 ≤ 16384) && ru r 2 2 % 8 == 0), rng 4 2 16 4096,
      (6, if r.inst = top then ru r 6 2 == 0 else decide (16 ≤ ru r 6 2 ∧ ru r 6 2 ≤ 256)),
      (12, decide (-32 ≤ rs r 12 1 ∧ rs r 12 1 ≤ 32)),
      (13, (List.range 4).all fun k => (List.range 4).any fun m => bits map (2 * m) 2 == k), le 14 1 15, le 15 1 7]
  | 0x0010 =>
    [rng 0 1 1 24, orFF 1 7, le 2 1 1, le 3 1 7, rng 4 2 1 2000, (6, decide (ru r 6 2 ≤ ru r 4 2)), rng 8 4 1000 80000,
      rng 16 2 1 5000] ++ zero 22 2
  | 0x0011 =>
    (List.range (r.body.length / 12)).flatMap fun e => [le (12 * e) 1 31, le (12 * e + 1) 1 11, orFF (12 * e + 2) 31, le (12 * e + 3) 1 1]
  | 0x0020 =>
    [le 0 1 2, rng 1 1 3 4] ++ ((List.range 4).map fun k =>
        (2 + k, if k = 3 ∧ ru r 1 1 = 3 then ru r 5 1 == 0xFF else decide (ru r (2 + k) 1 ≤ 23))) ++
      [le 6 1 7] ++ zero 7 1 ++ [rng 8 2 10 1000, rng 10 2 10 1000, (16, ru r 0 1 == 2 || ru r 16 2 == 0), rng 22 1 1 64, le 23 1 2]
  | 0x0030 =>
    [orFF 0 3, orFF 1 3, le 2 1 7] ++ zero 3 1 ++
    [(4, ru r 0 1 == 0xFF || decide (1 ≤ ru r 4 4)), (8, decide (ru r 8 4 ≤ ru r 16 4)), (12, decide (ru r 12 4 ≤ ru r 16 4)),
      (16, decide (ru r 16 4 ≤ ru r 20 4)), le 20 4 4000000, rng 24 4 1 (2 ^ 32), rng 28 4 1 (2 ^ 32), rng 32 4 1 (2 ^ 32),
      rng 36 4 1 (2 ^ 32), (40, decide (max (ru r 32 4) (ru r 36 4) ≤ ru r 40 4)), (44, decide (rs r 44 4 < rs r 48 4)),
      (56, decide (ru r 56 2 ≤ 1023 ∧ ru r 58 2 ≤ ru r 56 2 ∧ ru r 56 2 ≤ ru r 60 2)), le 58 2 1023, le 60 2 1023] ++ zero 66 2
  | 0x0031 => [rng 0 4 1 (2 ^ 32), le 4 1 1, le 5 1 1, le 6 2 1000]
  | 0x0032 =>
    let n := ru r 0 1
    [rng 0 1 1 8] ++ zero 1 1 ++ zero 2 1 ++ zero 3 1 ++ (List.range 8).map fun k =>
      (4 + 4 * k, if n ≤ k then ru r (4 + 4 * k) 4 == 0
        else k == 0 || decide (ru r (4 * k) 4 < ru r (4 + 4 * k) 4))
  | 0x0040 => [(4, decide (ru r 0 4 ≤ ru r 4 4))] ++ zero 10 2
  | 0x0050 => [(0, [2, 4, 8, 16].contains (ru r 0 1)), le 1 1 1, le 2 2 8533, le 4 1 7] ++ zero 5 1 ++ zero 6 2
  | 0x0060 =>
    [le 0 2 16383, le 2 1 1, le 3 1 7, (4, if ru r 2 1 = 0 then decide (1 ≤ ru r 4 2 ∧ ru r 4 2 ≤ 16384) else ru r 4 2 == 0)] ++
      zero 6 2
  | 0x0070 =>
    [(0, [1, 2, 4].contains (ru r 0 1)), (1, [8, 10, 12, 14, 16].contains (ru r 1 1)), le 3 1 3, le 4 1 3] ++ zero 5 1 ++
      [rng 6 2 80 2500, (8, decide (ru r 8 2 * ru r 10 2 ≤ 16777216))]
  | 0x0080 => [le 0 1 31, le 1 1 15, rng 2 1 8 0x77] ++ zero 3 1
  | 0x0090 => [le 0 1 7, le 1 1 2, le 2 1 7, le 3 1 2]
  | _ => []

/-- The failing field of a record that stands first. -/
def firstBad (l : List (Nat × Bool)) : Option Nat :=
  (l.filter fun c => !c.2).foldl (fun a c => some (match a with | some o => min o c.1 | none => c.1)) none

def rangeFail (l : List RawRec) : Option DFail :=
  (placeRecs l).findSome? fun p => (firstBad (rangeChecks l p.rr)).map fun o => dFail dRange p.rr.type p.rr.inst (p.off + 8 + o)

/-! ### The typed declaration -/

def toSegment (r : RawRec) : DSegment :=
  { row := ru r 0 1, clkDiv := ru r 1 1, pixels := ru r 2 2, overhead := ru r 4 2, overlapNext := ru r 6 2,
    feedOffsetNm := rs r 8 4, shift := rs r 12 1, laneMap := ru r 13 1, laneInvert := ru r 14 1, budget := ru r 15 1,
    digId := ru r 16 2, digMw := ru r 18 2 }

def toLamp (b : List Byte) (e : Nat) : DLamp :=
  { device := uAt b (12 * e) 1, sw := uAt b (12 * e + 1) 1, pdDevice := uAt b (12 * e + 2) 1, pdInput := uAt b (12 * e + 3) 1,
    firstCol := uAt b (12 * e + 4) 4, lastCol := uAt b (12 * e + 8) 4 }

def toString_ (l : List RawRec) (r : RawRec) : DString :=
  let m := match findRec l 0x11 r.inst with | some x => x.body | none => []
  { lamps := ru r 0 1, sensor := ru r 1 1, derate := ru r 2 1 == 1, budget := ru r 3 1, iNom := ru r 4 2, iRecover := ru r 6 2,
    vMax := ru r 8 4, senseUohm := ru r 12 4, softMs := ru r 16 2, kneeC16 := rs r 18 2, slope := ru r 20 2,
    map := (List.range (m.length / 12)).map (toLamp m) }

def toThermal (r : RawRec) : DThermal :=
  { kind := ru r 0 1, wires := ru r 1 1, pins := (List.range 4).map fun k => ru r (2 + k) 1, gainLog2 := ru r 6 1,
    exciteUa := ru r 8 2, rateSps := ru r 10 2, nominal := ru r 12 4, beta := ru r 16 2, rise := rs r 18 2,
    fall := if ru r 20 2 = 0 then rs r 18 2 - 32 else rs r 20 2, dwell := ru r 22 1, role := ru r 23 1 }

def toAxis (r : RawRec) : DAxis :=
  { encoder := ru r 0 1, group := ru r 1 1, budget := ru r 2 1, countsPerStep := ru r 4 4, vStart := ru r 8 4, vStop := ru r 12 4,
    vBreak := ru r 16 4, vMax := ru r 20 4, a1 := ru r 24 4, a2 := ru r 28 4, d2 := ru r 32 4, d1 := ru r 36 4, dEmerg := ru r 40 4,
    limMin := rs r 44 4, limMax := rs r 48 4, dirDwellUs := ru r 52 4, iRun := ru r 56 2, iHold := ru r 58 2, iMax := ru r 60 2,
    holdMs := ru r 62 2, deviation := ru r 64 2 }

def recOr (l : List RawRec) (t : Nat) : RawRec := (findRec l t 0).getD { type := t, inst := 0, body := [] }

/-- The declaration of these records. -/
def toDecl (minor declId : Nat) (l : List RawRec) : Decl :=
  let s := recOr l 1
  let g := recOr l 2
  let m := recOr l 0x50
  let v := recOr l 0x32
  let all {α : Type} (t : Nat) (f : RawRec → α) : List (Nat × α) := (recsOf l t).map fun r => (r.inst, f r)
  { system := { scan := ru s 0 1 == 1, feedEncoder := ru s 1 1, feedAxis := ru s 2 1, bubblePolicy := ru s 3 1, joinLines := ru s 4 1,
                changeAllow := ru s 5 1, nativeDpi := ru s 6 2, calPeriodNs := ru s 8 4 }
    geometry := { capPitch := ru g 0 4, outPitch := ru g 4 4, outFirst := ru g 8 4, outWidth := ru g 12 4, outDpi := ru g 16 2,
                  dual := ru g 18 1 == 1, nativeOnly := ru g 19 1 == 1, cubic := ru g 20 1 == 1, format := ru g 21 1 }
    segments := (recsOf l 3).map toSegment
    redNm := rs (recOr l 4) 0 4
    blueNm := rs (recOr l 4) 4 4
    strings := all 0x10 (toString_ l)
    thermals := all 0x20 toThermal
    axes := all 0x30 toAxis
    encoders := all 0x31 fun r =>
      { countsPerIn := ru r 0 4, invert := ru r 4 1 == 1, useIndex := ru r 5 1 == 1, filterNs := ru r 6 2 }
    speeds := if (findRec l 0x32 0).isSome then (List.range (ru v 0 1)).map fun k => ru v (4 + 4 * k) 4 else []
    budgets := all 0x40 fun r => { cont := ru r 0 4, peak := ru r 4 4, peakMs := ru r 8 2 }
    dram := { sizeGib := ru m 0 1, ecc := ru m 1 1 == 1, rateMt := ru m 2 2, budget := ru m 4 1 }
    prism := (findRec l 0x60 0).map fun r =>
      { nodeId := ru r 0 2, root := ru r 2 1 == 0, ports := ru r 3 1, expect := ru r 4 2, systemId := ru r 8 4 }
    cameras := all 0x70 fun r =>
      { lanes := ru r 0 1, bits := ru r 1 1, i2cAddr := ru r 2 1, expLatency := ru r 3 1, gainLatency := ru r 4 1,
        laneMbps := ru r 6 2, width := ru r 8 2, height := ru r 10 2 }
    wake := (findRec l 0x80 0).map fun r => { enable := ru r 0 1, polarity := ru r 1 1, i2cAddr := ru r 2 1 }
    safety := match findRec l 0x90 0 with
      | some r => [(ru r 0 1, ru r 1 1), (ru r 2 1, ru r 3 1)]
      | none => []
    minMinor := minor
    declId := declId
    records := l }

/-! ### Step 7: cross-record checks (R211, R378, R379, R586, R622) -/

/-- The first of a list whose value stands earlier in the list. -/
def firstRepeat {α : Type} [BEq α] : List α → List (α × (Nat × Nat × Nat)) → Option (Nat × Nat × Nat)
  | _, [] => none
  | seen, x :: xs => if seen.contains x.1 then some x.2 else firstRepeat (x.1 :: seen) xs

/-- R586: U, in 1/1,000,000. -/
def tfeLoad (d : Decl) : Rat :=
  ((d.thermals.map fun p =>
    (p.2.rateSps : Rat) * (1 / 6 + ((2 * dischargeUs p.2 : Nat) : Rat) + 8 + ((windowBits p.2.rateSps : Nat) : Rat) / 12)).foldl
      (· + ·) 0) / 1000000

def lampEntries (d : Decl) : List (Nat × Nat × DLamp) := d.strings.flatMap fun p => p.2.map.mapIdx fun e m => (p.1, e, m)

/-- Each check in the order of R211's list, then R378, R379, R586 and R622: the (TYPE, INSTANCE, offset in the body) of
its failure. -/
def crossChecks (d : Decl) : List (Option (Nat × Nat × Nat)) :=
  let n := d.segments.length
  let ws := stitchedWidth d.segments
  let g := d.geometry
  let y := d.system
  let fails (b : Bool) (x : Nat × Nat × Nat) : Option (Nat × Nat × Nat) := if b then some x else none
  let seg (i : Nat) : DSegment := d.segments.getD i default
  let segMax (i : Nat) : Int := (List.range 3).foldl (fun m c => max m (chanOffset d i c)) (chanOffset d i 0)
  let lamps := lampEntries d
  let top := lamps.foldl (fun m x => max m x.2.2.device) 0
  let feed := dFeedAxis d
  [ ((List.range (n - 1)).find? fun i => decide ((seg i).pixels < 2 * (seg i).overlapNext) ||
        decide ((seg (i + 1)).pixels < 2 * (seg i).overlapNext)).map fun i => (3, i, 6),
    fails (decide (262144 < ws) || decide (262144 < qPos d.segments n)) (3, n - 1, 2),
    fails (decide (ws < g.outFirst + g.outWidth)) (2, 0, 12),
    if 262144 < spanOf d then ((List.range n).find? fun i => segMax i == oMax d).map fun i => (3, i, 8) else none,
    fails (g.nativeOnly && (g.outDpi != y.nativeDpi || g.outPitch != g.capPitch ||
      (allOffsets d).any fun o => o % (max 1 g.capPitch : Nat) != 0)) (2, 0, 19),
    firstRepeat [] (d.thermals.flatMap fun p => (p.2.pins.mapIdx fun k v => (v, (0x20, p.1, 2 + k))).filter fun x => x.1 != 0xFF),
    firstRepeat [] (lamps.map fun x => ((x.2.2.device, x.2.2.sw), (0x11, x.1, 12 * x.2.1 + 1))),
    (lamps.find? fun x => decide (x.2.2.lastCol < x.2.2.firstCol) || decide (ws ≤ x.2.2.lastCol)).map fun x =>
      (0x11, x.1, 12 * x.2.1 + 8),
    ((d.strings.find? fun p => p.2.sensor != 0xFF && (assoc d.thermals p.2.sensor).isNone).map fun p => (0x10, p.1, 1)),
    ((List.range d.safety.length).find? fun k =>
      let e := d.safety.getD k (0, 0)
      e.2 != 0 && (assoc d.thermals e.1).isNone).map fun k => (0x90, 0, 2 * k),
    fails (y.scan && feed.encoder == 0xFF) (0x30, y.feedAxis, 0),
    fails (y.scan && decide (slowestRate d < speedRate d (d.speeds.getLast?.getD 0))) (0x32, 0, 4 * d.speeds.length),
    if y.scan then ((List.range d.speeds.length).find? fun k => decide (feed.vMax < feedStepsPerS d k)).map fun k => (0x32, 0, 4 + 4 * k)
      else none,
    fails (!y.scan && y.bubblePolicy == 2) (1, 0, 3),
    fails ((!y.scan && bit y.changeAllow 1) || (y.scan && bit y.changeAllow 2)) (1, 0, 5),
    if (List.range (top + 1)).all fun k => lamps.isEmpty || lamps.any fun x => x.2.2.device == k then none
      else (lamps.find? fun x => x.2.2.device == top).map fun x => (0x11, x.1, 12 * x.2.1),
    fails (decide (usableDram d < 4 * delayBytes d)) (0x50, 0, 0),
    fails (decide (dramAllowance d < dramLoad d)) (0x50, 0, 2),
    fails (decide ((4 / 5 : Rat) < tfeLoad d)) (0x20, ((d.thermals.getLast?).map Prod.fst).getD 0, 10),
    fails (!d.cameras.isEmpty && decide (usableDram d < 8 * cameraArea d)) (0x50, 0, 0),
    d.cameras.findSome? fun p =>
      if p.2.width % 2 = 1 ∨ p.2.width < 64 then some (0x70, p.1, 8)
      else if p.2.height % 2 = 1 ∨ p.2.height < 64 then some (0x70, p.1, 10) else none ]

/-- The offset of a field within the declaration. -/
def fieldOffset (l : List RawRec) (x : Nat × Nat × Nat) : Nat :=
  match (placeRecs l).find? fun p => p.rr.type == x.1 && p.rr.inst == x.2.1 with
  | some p => p.off + 8 + x.2.2
  | none => totalSize l

def crossFail (d : Decl) : Option DFail :=
  ((crossChecks d).findSome? id).map fun x => dFail dConflict x.1 x.2.1 (fieldOffset d.records x)

/-! ### Step 8: ceilings (R64, R67, R210, R596, R761) -/

/-- The value that a limit entry allows: its ceiling, and once LIMIT_LOCK is set the locked value. -/
def limitAllows (u : LimitU) (k : LimitKey) (v : Int) : Bool :=
  match u.entries.find? fun e => e.key == k with
  | some e => decide (v ≤ e.ceiling) && (!u.limitLock || decide (v ≤ e.inForce))
  | none => decide (v ≤ 0)

/-- The limited fields of a record: entry, value, offset in the body (R761). -/
def limitFields (r : RawRec) : List (LimitKey × Int × Nat) :=
  let u (o n : Nat) : Int := (ru r o n : Nat)
  match r.type with
  | 0x0010 => [(.strI r.inst, u 4 2, 4), (.strV r.inst, u 8 4, 8)]
  | 0x0020 => [(.tempRise r.inst, rs r 18 2, 18)]
  | 0x0030 =>
    [(.axV r.inst, u 20 4, 20), (.axA r.inst, u 24 4, 24), (.axA r.inst, u 28 4, 28), (.axD r.inst, u 32 4, 32),
      (.axD r.inst, u 36 4, 36), (.axEmerg r.inst, u 40 4, 40), (.axI r.inst, u 60 2, 60)]
  | 0x0040 => [(.budCont r.inst, u 0 4, 0), (.budPeak r.inst, u 4 4, 4), (.budMs r.inst, u 8 2, 8)]
  | _ => []

def ceilingFail (u : LimitU) (l : List RawRec) : Option DFail :=
  (placeRecs l).findSome? fun p =>
    (firstBad ((limitFields p.rr).map fun x => (x.2.2, limitAllows u x.1 x.2.1))).map fun o =>
      { status := stLimit, detail := 0x0101, type := p.rr.type, inst := p.rr.inst, offset := p.off + 8 + o }

/-- R761: the limit block filled: each entry takes the lower of the declared value and its ceiling; LIMIT_LOCK is set. -/
def fillLimits (l : List RawRec) (u : LimitU) : LimitU :=
  if u.limitLock then u
  else
    let declared := l.flatMap fun r => limitFields r
    { u with
      limitLock := true
      entries := u.entries.map fun e =>
        match (declared.filter fun x => x.1 == e.key).map fun x => x.2.1 with
        | [] => e
        | v :: vs => { e with inForce := min e.ceiling (vs.foldl max v) } }

/-! ### The whole order (R210) -/

/-- Steps 3 to 8 over a declaration's records, the header's reserved bytes among step 6's. -/
def checkRecords (u : LimitU) (minorRunning minor declId : Nat) (reserved : Option Nat) (l : List RawRec) : Except DFail Decl :=
  let steps (f : List (Option DFail)) : Option DFail := f.findSome? id
  let d := toDecl minor declId l
  match steps [ordersFail l none (placeRecs l), missingFail l,
      if minorRunning < minor then some (dFail dMinor 0 0 14) else none,
      reserved.map fun o => dFail dRange 0 0 o, rangeFail l] with
  | some e => .error e
  | none =>
    match crossFail d with
    | some e => .error e
    | none =>
      match ceilingFail u l with
      | some e => .error e
      | none => .ok d

/-- R210 over the bytes of a declaration. -/
def checkDeclaration (u : LimitU) (minorRunning : Nat) (bs : List Byte) : Except DFail Decl :=
  match readDeclaration bs with
  | .error e => .error e
  | .ok (h, l) => checkRecords u minorRunning h.minor h.declId h.reserved l

end Sys2Proof.Machine
end

