-- ==== Sys2Proof/Machine/Motion.lean ====
section
/-! DEFINITION. Motion: R528 to R569, R575, R576 and the axis verbs (R188, R189). Speeds are raw u24.32 values (R540). -/

namespace Sys2Proof.Machine

def ax (s : State) (a : Nat) : Axis := vget s.motion.axes a
def drv (s : State) (k : Nat) : Drive := vget s.motion.drives k
def encd (s : State) (e : Nat) : Encoder := vget s.motion.encs e
def modAx (a : Nat) (f : Axis → Axis) (s : State) : State :=
  { s with motion := { s.motion with axes := vmod s.motion.axes a f } }
def modDrv (k : Nat) (f : Drive → Drive) (s : State) : State :=
  { s with motion := { s.motion with drives := vmod s.motion.drives k f } }
def modEnc (e : Nat) (f : Encoder → Encoder) (s : State) : State :=
  { s with motion := { s.motion with encs := vmod s.motion.encs e f } }

def axCode : AxState → Nat
  | .disabled => 0
  | .idle => 1
  | .moving => 2
  | .dwell => 3
  | .stopping => 4
  | .halted => 5
  | .fault => 6

/-! ### Axes, groups and their drives (R545) -/

/-- The declared members of a group, ascending. -/
def groupMembers (s : State) (g : Nat) : List Nat :=
  (List.range 4).filter fun a => match dAxis? s a with
    | some d => d.group == g
    | none => false

/-- The axes a drive moves: drives 0 to 3 are the axes, 4 to 7 the groups. -/
def driveAxes (s : State) (k : Nat) : List Nat := if k < 4 then [k] else groupMembers s (k - 4)

/-- The drive whose queue an axis's moves enter: its group's, or its own (R545). -/
def driveOf (s : State) (a : Nat) : Nat :=
  match dAxis? s a with
  | some d => if d.group < 4 then 4 + d.group else a
  | none => a

/-- The drives that can move an axis. -/
def drivesOver (s : State) (a : Nat) : List Nat := if driveOf s a = a then [a] else [a, driveOf s a]

def driveHolder (k : Nat) : Holder := if k < 4 then .axis k else .group (k - 4)

/-- The ramp parameters of a drive: the axis's own, or the least ratio over the members that move (R562). -/
structure Ramp where
  vStart : Nat
  vStop : Nat
  vBreak : Nat
  vMax : Nat
  a1 : Nat
  a2 : Nat
  d2 : Nat
  d1 : Nat
  dEmerg : Nat
  deriving DecidableEq, Repr, Inhabited

/-- R542: an axis's parameters under the locked ceilings. -/
def axisRamp (s : State) (a : Nat) : Ramp :=
  match dAxis? s a with
  | none => { vStart := 0, vStop := 0, vBreak := 0, vMax := 0, a1 := 1, a2 := 1, d2 := 1, d1 := 1, dEmerg := 1 }
  | some d =>
    let v (x : Nat) := min x (limitN (.axV a) s)
    { vStart := v d.vStart, vStop := v d.vStop, vBreak := v d.vBreak, vMax := v d.vMax,
      a1 := min d.a1 (limitN (.axA a) s), a2 := min d.a2 (limitN (.axA a) s),
      d2 := min d.d2 (limitN (.axD a) s), d1 := min d.d1 (limitN (.axD a) s), dEmerg := min d.dEmerg (limitN (.axEmerg a) s) }

/-- R561: the lead of a displacement: the largest |Δ|, the lowest-numbered on a tie. -/
def leadOf (delta : List Int) : Nat :=
  ((List.range 4).foldl (fun best a =>
    if (delta.getD best 0).natAbs < (delta.getD a 0).natAbs then a else best) 0)

/-- R562: the ramp a move runs on drive `k`. -/
def moveRamp (s : State) (k : Nat) (m : Move) : Ramp :=
  if k < 4 then axisRamp s k
  else
    let lead := leadOf m.delta
    let dl := (m.delta.getD lead 0).natAbs
    let mem := (driveAxes s k).filter fun a => m.delta.getD a 0 != 0
    let least (f : Ramp → Nat) : Nat :=
      (mem.foldl (fun acc a =>
        let q := f (axisRamp s a) * dl / (m.delta.getD a 0).natAbs
        match acc with
        | none => some q
        | some x => some (min x q)) none).getD 0
    { vStart := least Ramp.vStart, vStop := least Ramp.vStop, vBreak := least Ramp.vBreak, vMax := least Ramp.vMax,
      a1 := least Ramp.a1, a2 := least Ramp.a2, d2 := least Ramp.d2, d1 := least Ramp.d1, dEmerg := least Ramp.dEmerg }

/-- R539: a move's travel speed v_m. -/
def moveSpeed (r : Ramp) (m : Move) : Nat := if m.vMax = 0 then r.vMax else min m.vMax r.vMax

/-! ### Falls (R539, R541) -/

/-- ⌈(v² − x²) / (2a)⌉ for v ≥ x, in steps. -/
def fallSeg (v x a : Nat) : Nat := if v ≤ x ∨ a = 0 then 0 else ceilDiv (v * v - x * x) (2 * a)

/-- Steps of a fall from `v` to `x` through D2 above V_BREAK and D1 below it (R541). -/
def fallSteps (r : Ramp) (v x : Nat) : Nat :=
  if r.vBreak ≤ x then fallSeg v x r.d2
  else if v ≤ r.vBreak then fallSeg v x r.d1
  else fallSeg v r.vBreak r.d2 + fallSeg r.vBreak x r.d1

/-- The greatest speed from which a fall to `x` fits in `n` steps. -/
def maxEntry (r : Ramp) (n x : Nat) : Nat :=
  let below := if r.vBreak ≤ x then 0 else (r.vBreak * r.vBreak - x * x) / (2 * r.d1)
  if r.vBreak ≤ x then Nat.sqrt (x * x + 2 * r.d2 * n)
  else if n ≤ below then Nat.sqrt (x * x + 2 * r.d1 * n)
  else Nat.sqrt (r.vBreak * r.vBreak + 2 * r.d2 * (n - below))

/-- A move that a DISABLED axis would take part in waits (R537: no step is issued; log 102). -/
def blocked (s : State) (k : Nat) (m : Move) : Bool :=
  (driveAxes s k).any fun a => m.delta.getD a 0 != 0 && (ax s a).st == .disabled

/-- R548, R550, R564: the joint stops the drive. A joint whose fall began before the next move was queued stops it too. -/
def jointStops (a b : Move) : Bool :=
  b.noBlend || a.falling == some 0 || (List.range 4).any fun i =>
    decide ((0 < a.delta.getD i 0 ∧ b.delta.getD i 0 < 0) ∨ (a.delta.getD i 0 < 0 ∧ 0 < b.delta.getD i 0))

/-- A move's length in lead steps. -/
def moveLen (m : Move) : Nat := (m.delta.getD (leadOf m.delta) 0).natAbs

/-- R564: the greatest joint speed that keeps every member's change of speed within the lesser of V_START and V_STOP. -/
def groupJointCap (s : State) (k : Nat) (a b : Move) : Nat :=
  if k < 4 then 4000000
  else (driveAxes s k).foldl (fun acc i =>
    let d : Int := (a.delta.getD i 0) * (moveLen b : Int) - (b.delta.getD i 0) * (moveLen a : Int)
    let r := axisRamp s i
    if d = 0 then acc else min acc (min r.vStart r.vStop * (moveLen a * moveLen b) / d.natAbs)) 4000000

def iRunOf (s : State) (a : Nat) : Nat := match dAxis? s a with | some d => min d.iRun (limitN (.axI a) s) | none => 0
def iHoldOf (s : State) (a : Nat) : Nat := match dAxis? s a with | some d => min d.iHold (limitN (.axI a) s) | none => 0

/-- AXn_DIR of each axis, and whether its reference is at I_RUN. -/
def readyNow (s : State) : List (Bool × Bool) := (List.range 4).map fun a => ((ax s a).dirTo, (ax s a).irefTo == iRunOf s a)

/-- The same after a move: each member it displaces points its way. -/
def readyAfter (m : Move) (w : List (Bool × Bool)) : List (Bool × Bool) :=
  w.mapIdx fun i x => if m.delta.getD i 0 = 0 then x else (decide (0 < m.delta.getD i 0), true)

/-- A move begins from standstill when a member must change AXn_DIR (R529, R550) or raise its reference (R543) for it, be that
member's last move its own or none (DEDUCED, log 102). -/
def mustStand (w : List (Bool × Bool)) (m : Move) : Bool :=
  (List.range 4).any fun i => m.delta.getD i 0 != 0 && w.getD i (false, false) != (decide (0 < m.delta.getD i 0), true)

/-- R548, R549: exit speed of the first move of a queue, planned from its end backwards, over moves of some length (R547). -/
def exitSpeed (s : State) (k : Nat) (w : List (Bool × Bool)) : List Move → Nat
  | [] => 0
  | [_] => 0
  | a :: b :: rest =>
    if jointStops a b || blocked s k b || mustStand (readyAfter a w) b then 0
    else
      let ra := moveRamp s k a
      let rb := moveRamp s k b
      min (min (moveSpeed ra a) (moveSpeed rb b))
        (min (groupJointCap s k a b) (maxEntry rb (moveLen b) (exitSpeed s k (readyAfter a w) (b :: rest))))

/-! ### Reports -/

/-- R575: RPT.AXIS_EVENT. -/
def axisEvent (axis ev before after enc : Nat) (count : Int) (w8 : Nat) (s : State) : State :=
  let c := unsignedOf 48 count
  fwReport 0x0070 [fld axis 0 8 + fld ev 8 8 + fld before 16 8 + fld after 24 8,
    if axis < 4 then unsignedOf 32 (ax s axis).pos else 0, c % 2 ^ 32, c / 2 ^ 32 + fld enc 16 8, w8] s

/-- The encoder of an axis, 0xFF for none. -/
def axisEnc (s : State) (a : Nat) : Nat := match dAxis? s a with | some d => d.encoder | none => 0xFF

def axisEventOf (a ev before : Nat) (w8 : Nat) (s : State) : State :=
  let e := axisEnc s a
  axisEvent a ev before (axCode (ax s a).st) e (if e < 4 then (encd s e).count else 0) w8 s

/-! ### References and standstill -/

/-- R559: the deviation e. -/
def deviationOf (s : State) (a : Nat) : Int :=
  match dAxis? s a with
  | none => 0
  | some d =>
    let x := ax s a
    ((encd s d.encoder).count - x.cRef) - (2 * (x.pos - x.pRef) * d.countsPerStep + 65536) / 131072

/-- R559: a stall reference is taken. -/
def takeRef (a : Nat) (s : State) : State :=
  let e := axisEnc s a
  let c := if e < 4 then (encd s e).count else 0
  modAx a (fun x => { x with cRef := c, pRef := x.pos, devCount := 0 }) s

/-- The drive is at standstill. -/
def still (d : Drive) : Bool := d.speed == 0

def axStill (s : State) (a : Nat) : Bool := (drivesOver s a).all fun k => still (drv s k)

/-- The drive's axes reach standstill with nothing queued: IDLE, and the hold delay begins (R538, R543). -/
def settleDrive (k : Nat) (s : State) : State :=
  let t := modDrv k (fun d => { d with queue := [], coast := none, begun := false, steps := 0, speed := 0, phase := 0, fall := .none,
                                       dwell := .none, feed := none, stopping := false, noRise := false,
                                       standSince := some s.localNs }) s
  (driveAxes s k).foldl (fun t a => modAx a (fun x => match x.st with
    | .moving => { x with st := .idle }
    | .dwell => { x with st := .idle }
    | .stopping => { x with st := .idle }
    | _ => x) t) t

/-! ### HALT.MOTION and faults (R106, R538, R555, R560, R565) -/

/-- R555: every step ends at once and the queue is emptied. -/
def cutDrive (k : Nat) (s : State) : State :=
  modDrv k (fun d => { ({} : Drive) with standSince := d.standSince <|> some s.localNs }) s

/-- R106, R538, R543: the effect of HALT.MOTION. -/
def haltMotion (s : State) : State :=
  let t := (List.range 8).foldl (fun t k => cutDrive k t) s
  (List.range 4).foldl (fun t a => modAx a (fun x => match x.st with
    | .disabled => { x with halted := true }
    | .fault => { x with halted := true, iref := iHoldOf t a, irefTo := iHoldOf t a }
    | _ => { x with st := .halted, halted := true, iref := iHoldOf t a, irefTo := iHoldOf t a }) t) t

/-- R543, R555: an axis enters FAULT. -/
def faultAxis (a : Nat) (s : State) : State :=
  modAx a (fun x => if x.st = .disabled then x else { x with st := .fault, iref := iHoldOf s a, irefTo := iHoldOf s a }) s

/-- The axes that stop with an axis: its group's members, or itself (R560, R565). -/
def stopSet (s : State) (a : Nat) : List Nat :=
  match dAxis? s a with
  | some d => if d.group < 4 then groupMembers s d.group else [a]
  | none => [a]

/-- A stall or limit fault stops the axis or its group, is reported and logged (R553, R560, R774). -/
def latchFault (a ev w8 : Nat) (s : State) : State :=
  let before := axCode (ax s a).st
  let set := stopSet s a
  let t := set.foldl (fun t b => (drivesOver s b).foldl (fun t k => cutDrive k t) t) s
  let t := set.foldl (fun t b => faultAxis b t) t
  fwLog 0x0007 [a, ev] (axisEventOf a ev before w8 t)

/-! ### Encoders (R532 to R536) -/

/-- The move of a quadrature change of one channel: +1 in the sequence A leading B. -/
def quadStep (a b a' b' : Bool) : Int :=
  let pos (x y : Bool) : Int := if x then (if y then 2 else 1) else (if y then 3 else 0)
  let d := (pos a' b' - pos a b) % 4
  if d = 1 then 1 else if d = 3 then -1 else 0

/-- R534: a count wraps at 2^48. -/
def wrap48 (z : Int) : Int := signed 48 (unsignedOf 48 z)

/-- R535: the report of quadrature errors, at most once per second. -/
def reportErrors (e : Nat) (s : State) : State :=
  let x := encd s e
  let now := s.localNs
  let due := match x.errReported with
    | none => true
    | some t => decide (t + 1000000000 ≤ now)
  if due && decide (0 < x.errors) then
    axisEvent ((List.range 4).find? (fun a => axisEnc s a == e) |>.getD 0xFF) 4 0 0 e x.count x.errors
      (modEnc e (fun y => { y with errors := 0, errReported := some now }) s)
  else s

/-- ENCODER_EDGE: A and B take new accepted levels at one sample (R532, R534, R535). An encoder that no record names is not
counted; its levels are those a declaration that names it finds (log 10). -/
def encoderEdge (e : Nat) (a b : Bool) (s : State) : State :=
  match dEncoder? s e with
  | none => modEnc e (fun y => { y with a := a, b := b }) s
  | some d =>
    let x := encd s e
    if x.a != a && x.b != b then
      reportErrors e (modEnc e (fun y => { y with a := a, b := b, errors := y.errors + 1 }) s)
    else
      let st := if d.invert then quadStep x.b x.a b a else quadStep x.a x.b a b
      modEnc e (fun y => { y with a := a, b := b, count := wrap48 (y.count + st) }) s

def execEncoderEdge (e : Nat) (a b : Bool) (s : State) : Host.Outcome State Fault Refusal :=
  settled (if s.power.present = .run ∨ s.power.present = .idle then encoderEdge e a b s else s)

def execEncoderErrorReport (e : Nat) (s : State) : Host.Outcome State Fault Refusal := settled (reportErrors e s)

/-- INDEX_LATCH: a rising edge of the filtered index latches the count (R536). -/
def execIndexLatch (e : Nat) (s : State) : Host.Outcome State Fault Refusal :=
  settled (match dEncoder? s e with
    | none => s
    | some d =>
      if !d.useIndex then s
      else
        let x := encd s e
        let t := modEnc e (fun y => { y with latched := y.count, indexDue := false }) s
        if x.indexDue then
          let a := (List.range 4).find? (fun a => axisEnc s a == e) |>.getD 0xFF
          axisEvent a 6 0 0 e x.count (lastAdm s) t
        else t)

/-! ### Beginning a move (R538, R543, R550) -/

/-- R529: when AXn_DIR of an axis may change: 1 µs after the last rising edge of its AXn_STEP. -/
def dirFrom (s : State) (a : Nat) : Nat := max s.localNs (match (ax s a).stepAt with | some t => t + 1000 | none => 0)

/-- R529: AXn_DIR takes the level asked for, once it may change. -/
def turnPin (a : Nat) (s : State) : State :=
  if dirFrom s a ≤ s.localNs then modAx a (fun x => { x with dir := x.dirTo }) s else s

/-- R529: an axis, at standstill, is to step in a direction. -/
def setDir (a : Nat) (up : Bool) (s : State) : State := turnPin a (modAx a (fun x => { x with dirTo := up }) s)

/-- R529, R550: the time of the first rising edge after a change of AXn_DIR made at `t0`, at the earliest. -/
def dirDwellEnd (s : State) (a t0 : Nat) : Nat :=
  t0 + max 1000 (match dAxis? s a with | some d => d.dirDwellUs * 1000 | none => 0)

/-- Axes that move one way or the other take their places: AXn_DIR and its dwell (R529, R550), and the reference, raised from
I_HOLD 50 µs before the first step (R543). -/
def enterMove (k : Nat) (delta : List Int) (s : State) : State :=
  let mem := (driveAxes s k).filter fun a => delta.getD a 0 != 0
  let raising := mem.filter fun a => (ax s a).iref != iRunOf s a
  let reversing := mem.filter fun a => (ax s a).dir != decide (0 < delta.getD a 0)
  let start := (reversing.map fun a => dirDwellEnd s a (dirFrom s a)).foldl max (if raising.isEmpty then 0 else s.localNs + 50000)
  let t := mem.foldl (fun t a => setDir a (decide (0 < delta.getD a 0)) (modAx a (fun x => { x with
                                                           st := .dwell, irefTo := iRunOf s a, halted := false }) t)) s
  modDrv k (fun d => { d with begun := true, steps := 0, speed := 0, phase := 0, coast := none, fall := .none, stopping := false,
                              standSince := none, startPos := (List.range 4).map fun a => (ax s a).pos,
                              dwell := if !reversing.isEmpty then .direction start
                                else if !raising.isEmpty then .iref start else .first }) t

/-- A drive stands with moves queued that wait for a DISABLED axis. -/
def holdQueue (k : Nat) (s : State) : State :=
  let q := (drv s k).queue
  let t := settleDrive k s
  modDrv k (fun d => { d with queue := q }) t

/-- Moves of no length are removed when reached (R547); the next one begins, or the drive settles. -/
def nextMove (k : Nat) : Nat → State → State
  | 0, s => s
  | n + 1, s =>
    match (drv s k).queue with
    | [] => settleDrive k s
    | m :: ms =>
      if moveLen m = 0 then nextMove k n (modDrv k (fun d => { d with queue := ms }) s)
      else if blocked s k m then holdQueue k s
      else enterMove k m.delta s

/-- A drive at standstill with moves queued begins the first. -/
def beginQueue (k : Nat) (s : State) : State := nextMove k ((drv s k).queue.length + 1) s

/-! ### The ramp generator (R539 to R542, R551 to R553) -/

abbrev speedOne := 4294967296

/-- R540: the change of raw speed in one update: a × 2^32 / 1,000,000, rounded half up. -/
def rateStep (a : Nat) : Nat := (2 * a * speedOne + 1000000) / 2000000

/-- One update toward a higher speed, clamped at the segment's end. -/
def riseTo (r : Ramp) (goal v : Nat) : Nat :=
  let brk := r.vBreak * speedOne
  if v < brk then min (v + rateStep r.a1) (min brk goal) else min (v + rateStep r.a2) goal

/-- One update toward a lower speed through D2 and D1. -/
def fallTo (r : Ramp) (goal v : Nat) : Nat :=
  let brk := r.vBreak * speedOne
  if brk < v then max (v - rateStep r.d2) (max brk goal) else max (v - rateStep r.d1) goal

/-- One update of a fall at a constant rate. -/
def fallAt (rate goal v : Nat) : Nat := max (v - rateStep rate) goal

/-- One step of one axis, up or down, as a line without an end: the feed's. -/
def unitMove (a : Nat) (up : Bool) : Move :=
  { ends := [0, 0, 0, 0], delta := [0, 0, 0, 0].set a (if up then 1 else -1), vMax := 0, noBlend := false }

/-- The line a drive is on: that of its fall, the feed's, or the move in progress. -/
def lineOf (s : State) (k : Nat) : Option Move :=
  let d := drv s k
  match d.coast, d.feed with
  | some m, _ => some m
  | none, some _ => some (unitMove k true)
  | none, none => d.queue.head?

/-- The drive's ramp now. -/
def driveRamp (s : State) (k : Nat) : Ramp :=
  match lineOf s k with
  | some m => moveRamp s k m
  | none => if k < 4 then axisRamp s k else axisRamp s ((groupMembers s (k - 4)).headD 0)

/-- The lead steps that each moving axis of a drive has to the limit ahead of it. -/
def limitRooms (s : State) (k : Nat) : List (Nat × Nat) :=
  match lineOf s k with
  | none => []
  | some m => (driveAxes s k).filterMap fun a =>
    match dAxis? s a, m.delta.getD a 0 with
    | some r, .ofNat (n + 1) => some (a, (r.limMax - (ax s a).pos).toNat * moveLen m / (n + 1))
    | some r, .negSucc n => some (a, ((ax s a).pos - r.limMin).toNat * moveLen m / (n + 1))
    | _, _ => none

/-- Lead steps to the nearest limit ahead, with the axis whose limit it is (the lowest-numbered on a tie). -/
def nearLimit (s : State) (k : Nat) : Option (Nat × Nat) :=
  (limitRooms s k).foldl (fun best x => match best with
    | none => some x
    | some y => if x.2 < y.2 then some x else some y) none

def limitRoom (s : State) (k : Nat) : Option Nat := (nearLimit s k).map Prod.snd

/-- R552, R553: how a fall begun now must run, given the room to the limit: through D2 and D1, at a steeper constant
rate that halts at the limit, or at D_EMERG into a limit fault. -/
def fallKind (s : State) (k : Nat) : Fall :=
  let d := drv s k
  let r := driveRamp s k
  let v := d.speed / speedOne
  match limitRoom s k with
  | none => .ramp
  | some room =>
    if fallSteps r v r.vStop ≤ room then .ramp
    else if fallSeg v r.vStop r.dEmerg ≤ room ∧ 0 < room then .atRate ((v * v - r.vStop * r.vStop) / (2 * room))
    else .toFault

/-- AXIS.STOP or a stop ramp: the axes that move or are about to are STOPPING (R538). -/
def markStopping (k : Nat) (s : State) : State :=
  (driveAxes s k).foldl (fun t a => modAx a (fun x => match x.st with
    | .moving => { x with st := .stopping }
    | .dwell => { x with st := .stopping }
    | _ => x) t) (modDrv k (fun d => { d with stopping := true }) s)

/-- A fall to standstill begins, along the line the drive is on; `stop` for AXIS.STOP and the stop ramps. LIMIT_STOP is reported
when it had to be steepened (R552). -/
def beginFall (stop : Bool) (k : Nat) (s : State) : State :=
  let f := fallKind s k
  let line := lineOf s k
  let t := modDrv k (fun d => { d with coast := line, fall := f, feed := none, queue := [] }) s
  let t := if stop then markStopping k t else t
  match f, nearLimit s k with
  | .atRate rate, some (a, _) => axisEventOf a 2 (axCode (ax s a).st) rate t
  | _, _ => t

/-- The steps left in the move in progress. -/
def stepsLeft (d : Drive) : Nat := match d.queue with | m :: _ => moveLen m - d.steps | [] => 0

/-- R559: the stall check of one axis at an update. -/
def stallCheck (a : Nat) (s : State) : State :=
  match dAxis? s a with
  | none => s
  | some d =>
    let x := ax s a
    if x.st = .disabled ∨ x.st = .fault ∨ d.encoder ≥ 4 ∨ d.deviation = 0 then s
    else
      let overs := decide (d.deviation < (deviationOf s a).natAbs)
      modAx a (fun y => { y with devCount := if overs then min 8 (y.devCount + 1) else 0 }) s

/-- The moves of a queue that have some length (R547). -/
def lengthy (q : List Move) : List Move := q.filter fun m => moveLen m != 0

/-- R541, R548: the exit speed of the fall that must begin at this update, or has begun and holds; none while the speed may rise. A fall
that has begun is given up only when an appended move raises its exit speed (R549). -/
def exitFall (s : State) (k : Nat) : Option Nat :=
  let d := drv s k
  match d.queue with
  | [] => none
  | m :: _ =>
    let r := moveRamp s k m
    let vx := exitSpeed s k (readyNow s) (lengthy d.queue)
    let goal := if vx = 0 then r.vStop else vx
    let must := decide (goal * speedOne ≤ d.speed ∧ stepsLeft d ≤ fallSteps r (d.speed / speedOne) goal + 1)
    let begun := match m.falling with | some e => decide (vx ≤ e) | none => false
    if must || begun then some vx else none

/-- The speed a drive has after an update in which no fall to standstill is on: toward the feed's speed (R567), the exit
speed of its move (R541), or its travel speed (R539). -/
def moveTo (s : State) (k : Nat) : Nat :=
  let d := drv s k
  let r := driveRamp s k
  let v := d.speed
  let toward (g : Nat) : Nat := if v < g then (if d.noRise then v else riseTo r g v) else fallTo r g v
  match d.feed, d.queue with
  | some f, _ => toward (min f r.vMax * speedOne)
  | none, [] => v
  | none, m :: _ =>
    match exitFall s k with
    | some vx => let goal := (if vx = 0 then r.vStop else vx) * speedOne
                 if goal < v then fallTo r goal v else v
    | none => toward (moveSpeed r m * speedOne)

/-- One update of one drive: its speed moves, and its phase gains 48 ticks of it (R540). -/
def updateDrive (k : Nat) (s : State) : State :=
  let d := drv s k
  if d.dwell != .none || !d.begun then s
  else
    let r := driveRamp s k
    let v := d.speed
    let next : Nat :=
      match d.fall with
      | .ramp => fallTo r (r.vStop * speedOne) v
      | .emergency => fallAt r.dEmerg (r.vStop * speedOne) v
      | .atRate q => fallAt q (r.vStop * speedOne) v
      | .toFault => fallAt r.dEmerg (r.vStop * speedOne) v
      | .none => moveTo s k
    let exit := if d.coast.isNone && d.feed.isNone then exitFall s k else none
    modDrv k (fun d => { d with speed := next, phase := d.phase + 48 * next, queue := match d.queue with
      | m :: ms => { m with falling := if d.coast.isSome then m.falling else exit } :: ms
      | [] => [] }) s

/-- The first step of a move is taken at min(V_START, v_m) (R539). -/
def startSpeed (s : State) (k : Nat) : Nat :=
  let d := drv s k
  let r := driveRamp s k
  match d.feed, d.queue with
  | some f, _ => min r.vStart (min f r.vMax)
  | none, m :: _ => min r.vStart (moveSpeed r m)
  | none, [] => 0

/-- The position of every axis of a drive after `n` lead steps of the move in progress (R563). -/
def memberPos (m : Move) (start : List Int) (n a : Nat) : Int :=
  let da := m.delta.getD a 0
  let dl := moveLen m
  if dl = 0 then start.getD a 0
  else start.getD a 0 + da.sign * (((2 * da.natAbs * n + dl) / (2 * dl) : Nat) : Int)

/-- An axis's step pulse, if its position moves: AXn_STEP rises (R529), which blanks a sensor of role 2 (R587). -/
def pulseTo (a : Nat) (p : Int) (s : State) : State :=
  let x := ax s a
  if x.pos = p then s
  else notePoint 2 (fun _ => true) s.localNs <| emit (.stepPulse a (decide (x.pos < p))) (modAx a (fun y => { y with
    pos := p, step := true, stepAt := some s.localNs, st := if y.st = .dwell then .moving else y.st }) s)

/-- A step that would pass a limit: step output ends at the limit and the fault latches (R553). -/
def limitBlocks (s : State) (k : Nat) : Option Nat :=
  match lineOf s k with
  | none => none
  | some m => (driveAxes s k).find? fun a => match dAxis? s a with
    | none => false
    | some r => let da := m.delta.getD a 0
                decide ((0 < da ∧ r.limMax ≤ (ax s a).pos) ∨ (da < 0 ∧ (ax s a).pos ≤ r.limMin))

/-- The queue as it is run from the positions a drive has come to stand at: each member that a move displaces goes to the move's
end point, the others stay (R551, R556, R561; log 102). -/
def rebase (here : List Int) : List Move → List Move
  | [] => []
  | m :: ms =>
    let delta := (List.range 4).map fun a => if m.delta.getD a 0 = 0 then 0 else m.ends.getD a 0 - here.getD a 0
    let ends := (List.range 4).map fun a => here.getD a 0 + delta.getD a 0
    { m with delta := delta, ends := ends } :: rebase ends ms

/-- A fall has come to standstill: IDLE, or the moves queued meanwhile begin, a REPLACE's the first (R551, R556). -/
def endFall (k : Nat) (s : State) : State :=
  let here := (List.range 4).map fun a => (ax s a).pos
  let q := rebase here (drv s k).queue
  if q.isEmpty then settleDrive k s
  else nextMove k (q.length + 1) (modDrv k (fun d =>
    { d with queue := q, coast := none, fall := .none, stopping := false, speed := 0, begun := false }) s)

/-- The fall of a drive ends with the step just taken: at a limit that its rate was made for, or from V_STOP (R539, R552). -/
def fallEnds (slow : Bool) (s : State) (k : Nat) : Bool :=
  match (drv s k).fall with
  | .atRate _ => limitRoom s k == some 0
  | _ => slow

/-- One lead step of a drive (R540, R541, R547 to R551, R563): every member due moves with it; at the end of a move the
next begins, blends on, or the drive halts. -/
def driveStep (k : Nat) (s : State) : State :=
  let d := drv s k
  match lineOf s k, limitBlocks s k with
  | none, _ => s
  | some _, some a => latchFault a 3 (d.speed / speedOne) s
  | some m, none =>
    let slow := decide (d.speed ≤ (driveRamp s k).vStop * speedOne)
    let n := d.steps + 1
    let t := (driveAxes s k).foldl (fun t a => pulseTo a (memberPos m d.startPos n a) t) s
    let t := modDrv k (fun d => { d with steps := n }) t
    if d.coast.isSome then (if fallEnds slow t k then endFall k t else t)
    else if d.feed.isSome || decide (n < moveLen m) then t
    else
      let ms := lengthy (d.queue.drop 1)
      let t := modDrv k (fun d => { d with queue := ms, steps := 0, startPos := m.ends }) t
      match ms with
      | [] => settleDrive k t
      | b :: _ =>
        if jointStops m b || blocked t k b || mustStand (readyNow t) b then
          nextMove k (ms.length + 1) (modDrv k (fun d => { d with speed := 0 }) t)
        else (driveAxes s k).foldl (fun t a =>
          if b.delta.getD a 0 = 0 then t else modAx a (fun x => { x with st := if x.st = .idle then .dwell else x.st }) t) t

/-- R566: the speed of an index of the feed axis, in steps/s. -/
def feedSpeed (s : State) (idx : Nat) : Nat := match s.decl with | some d => feedStepsPerS d idx | none => 0

/-- The feed of an axis begins, unless the axis is DISABLED: it then waits (log 102). -/
def enterFeed (a : Nat) (s : State) : State :=
  if blocked s a (unitMove a true) then s else enterMove a (unitMove a true).delta s

/-- R567: the feed axis starts in the positive direction toward the speed of an index. -/
def startFeed (idx : Nat) (s : State) : State :=
  match feedAxis? s with
  | none => s
  | some a => enterFeed a (modDrv a (fun _ => { feed := some (feedSpeed s idx) }) s)

/-- R423: the feed axis moves to the speed of another index. -/
def setFeed (idx : Nat) (s : State) : State :=
  match feedAxis? s with
  | none => s
  | some a => modDrv a (fun d => if d.feed.isSome then { d with feed := some (feedSpeed s idx) } else d) s

/-- A stop ramp of the feed axis (R429, R568, R555): STOPPING, through D2 and D1 to standstill. -/
def stopFeed (s : State) : State :=
  match feedAxis? s with
  | none => s
  | some a =>
    if still (drv s a) then settleDrive a s else beginFall true a s

/-- The feed axis is at standstill (true where the device does not own the feed). -/
def feedStill (s : State) : Bool := match feedAxis? s with | some a => axStill s a | none => true

/-! ### AXIS verbs (R188, R189) -/

/-- The feed axis belongs to the run in ARMED, CAPTURING and SEAM. -/
def notFeed (axes : List Nat) (s : State) : Check :=
  need (!(inRun s && (match feedAxis? s with | some f => axes.contains f | none => false))) stState 0x0101

def noFault (axes : List Nat) (s : State) : Check := need (axes.all fun a => (ax s a).st != .fault) stState 0x0102

/-- A motion verb accepted for an axis ends HALT.MOTION's effect on it (R106, R538). -/
def wakeAxis (a : Nat) (s : State) : State :=
  modAx a (fun x => { x with halted := false, st := if x.st = .halted then .idle else x.st }) s

/-- The end points after the last move of a drive's queue, or the present positions (R546). -/
def lastEnds (s : State) (k : Nat) : List Int :=
  match (drv s k).queue.getLast? with
  | some m => m.ends
  | none => (List.range 4).map fun a => (ax s a).pos

def withinLimits (s : State) (a : Nat) (p : Int) : Bool :=
  match dAxis? s a with
  | some d => decide (d.limMin ≤ p ∧ p ≤ d.limMax)
  | none => false

/-- Demands on one budget are one demand. -/
def mergeDemands (l : List (Nat × Nat)) : List (Nat × Nat) :=
  (l.map Prod.fst).eraseDups.map fun b => (b, ((l.filter fun x => x.1 == b).map Prod.snd).sum)

/-- R544: the demand of an axis's acceleration grant. -/
def axisDemand (s : State) (a : Nat) : Nat × Nat :=
  match dAxis? s a with
  | some d => (d.budget, ceilDiv (limitN (.budPeak d.budget) s * d.iRun) 1023)
  | none => (0, 0)

def accelHeld (s : State) (k : Nat) : Bool :=
  s.grants.grants.any fun g => g.holder == driveHolder k && g.op == .axisAccel && decide (s.localNs < g.start + g.dur)

/-- R189, R544: a move that finds its queue empty and its axes at standstill asks for the acceleration grant. -/
def askAccel (k : Nat) (mem : List Nat) (s : State) : Bool × State :=
  if accelHeld s k then (true, s)
  else askGrant (driveHolder k) .axisAccel (mergeDemands (mem.map (axisDemand s))) 100000000 s

/-- R551: the queue is replaced by one move, from the present position and speed. -/
def replaceMove (k : Nat) (m : Move) (s : State) : State :=
  let d := drv s k
  if still d then beginQueue k (modDrv k (fun d => { d with queue := [m], begun := false, dwell := .none }) s)
  else
    let here := (List.range 4).map fun a => (ax s a).pos
    let now := (lineOf s k).getD m
    let onward := (driveAxes s k).all fun a => decide (0 ≤ m.delta.getD a 0 * now.delta.getD a 0)
    let reach := decide (fallSteps (driveRamp s k) (d.speed / speedOne) (driveRamp s k).vStop ≤ moveLen m)
    if d.fall == .emergency then modDrv k (fun d => { d with queue := [m] }) s
    else if onward && reach && moveLen m != 0 && !blocked s k m then
      let t := modDrv k (fun d => { d with queue := [m], coast := none, steps := 0, startPos := here, fall := .none, stopping := false }) s
      (driveAxes s k).foldl (fun t a => modAx a (fun x => { x with st := if x.st = .stopping then .moving else x.st }) t) t
    else modDrv k (fun d => { d with queue := [m] }) (beginFall false k s)

/-- A move enters a drive's queue (R189, R546, R551). -/
def queueMove (k : Nat) (axes : List Nat) (ends : List Int) (vMax : Nat) (replace noBlend : Bool) (s : State) : Ans × State :=
  let base := if replace then (List.range 4).map (fun a => (ax s a).pos) else lastEnds s k
  let m : Move := { ends := ends, delta := (List.range 4).map fun a => ends.getD a 0 - base.getD a 0, vMax := vMax, noBlend := noBlend }
  let d := drv s k
  let fresh := (d.queue.isEmpty || replace) && still d
  let g := if fresh then askAccel k (axes.filter fun a => m.delta.getD a 0 != 0) s else (true, s)
  if !g.1 then refuse stNoGrant 0 g.2
  else
    let t := axes.foldl (fun t a => wakeAxis a t) g.2
    if replace then done [] (replaceMove k m t)
    else
      let t := modDrv k (fun d => { d with queue := d.queue ++ [m] }) t
      done [] (if still d && d.dwell == .none && d.queue.isEmpty then beginQueue k t else t)

/-- R188, R189, R546: AXIS.MOVE. A move of a DISABLED axis is queued, and waits (log 102). -/
def vAxisMove (c : Cmd) (s : State) : Ans × State :=
  let a := objIdx c.req.obj
  let k := driveOf s a
  let rel := modBit c 0
  let rep := modBit c 1
  let base := if rep || (drv s k).queue.isEmpty then (ax s a).pos else (lastEnds s k).getD a 0
  let p := if rel then base + ps c 0 4 else ps c 0 4
  let ends := ((if rep then (List.range 4).map (fun b => (ax s b).pos) else lastEnds s k)).set a p
  checked [objIs [kAxis] c s, modsIn 7 c, shape [.u 4, .u 4] c, declared s, notFeed [a] s, noFault (stopSet s a) s,
      need (decide ((drv s k).queue.length < 64)) stBusy 0x0101,
      need (withinLimits s a p) stLimit 0, need (decide (pu c 4 4 ≤ limitN (.axV a) s)) stLimit 0] s
    (queueMove k [a] ends (pu c 4 4) rep (modBit c 2) s)

/-- R188, R561: AXIS.GROUP_MOVE. A move that displaces a DISABLED axis is queued, and waits (log 102). -/
def vAxisGroupMove (c : Cmd) (s : State) : Ans × State :=
  let g := objIdx c.req.obj
  let k := 4 + g
  let mem := groupMembers s g
  let rel := modBit c 0
  let rep := modBit c 1
  let here := (List.range 4).map fun b => (ax s b).pos
  let base := if rep then here else lastEnds s k
  let ends := (List.range 4).map fun b =>
    if mem.contains b then (if rel then base.getD b 0 + ps c (4 * b) 4 else ps c (4 * b) 4) else here.getD b 0
  checked [objIs [kGroup] c s, modsIn 7 c, shape [.u 4, .u 4, .u 4, .u 4, .u 4] c,
      need ((List.range 4).all fun b => mem.contains b || ps c (4 * b) 4 == 0) stBadArg 0,
      declared s, notFeed mem s, noFault mem s,
      need (decide ((drv s k).queue.length < 64)) stBusy 0x0101,
      need (mem.all fun b => withinLimits s b (ends.getD b 0)) stLimit 0,
      need (mem.all fun b => decide (pu c 16 4 ≤ limitN (.axV b) s)) stLimit 0] s
    (queueMove k mem ends (pu c 16 4) rep (modBit c 2) s)

/-- R555, R556: AXIS.STOP on one drive: the queue is emptied and the drive falls to standstill. -/
def stopDrive (emergency : Bool) (k : Nat) (s : State) : State :=
  let d := drv s k
  if still d then settleDrive k s
  else if d.fall = .emergency ∨ d.fall = .toFault then markStopping k (modDrv k (fun d => { d with queue := [] }) s)
  else if emergency then
    let line := lineOf s k
    markStopping k (modDrv k (fun d => { d with coast := line, queue := [], feed := none, fall := .emergency }) s)
  else beginFall true k s

/-- R188, R555: AXIS.STOP on an axis, a group or the device, at one update. On the device, or on the group of the feed axis, it
is refused whole while the feed axis belongs to a run (DESIGN CHOICE, log 102). -/
def vAxisStop (c : Cmd) (s : State) : Ans × State :=
  let axes := if objKind c.req.obj = kAxis then stopSet s (objIdx c.req.obj)
    else if objKind c.req.obj = kGroup then groupMembers s (objIdx c.req.obj)
    else (List.range 4).filter fun a => (dAxis? s a).isSome
  checked [objIs [kAxis, kGroup, kDevice] c s, modsIn 1 c, noPayload c, declared s, notFeed axes s] s
    (let ks := (axes.flatMap fun a => drivesOver s a).eraseDups
     let t := axes.foldl (fun t a => wakeAxis a t) s
     done [] (ks.foldl (fun t k => stopDrive (modBit c 0) k t) t))

/-- R188, R557: AXIS.SET_POS. -/
def vAxisSetPos (c : Cmd) (s : State) : Ans × State :=
  let a := objIdx c.req.obj
  let p := ps c 0 4
  let e := axisEnc s a
  checked [objIs [kAxis] c s, modsIn 1 c, shape [.u 4] c, declared s, notFeed [a] s,
      need (axStill s a) stState 0x0103,
      need (!(modBit c 0 && inRun s && e == feedEnc s)) stState 0x0101,
      need (withinLimits s a p) stLimit 0] s
    (let cps := match dAxis? s a with | some d => d.countsPerStep | none => 0
     let t := wakeAxis a (modAx a (fun x => { x with pos := p }) s)
     let t := if modBit c 0 && decide (e < 4) then
         modEnc e (fun y => { y with count := wrap48 ((2 * p * cps + 65536) / 131072) }) t else t
     let t := if e < 4 then modEnc e (fun y => { y with indexDue := true }) t else t
     done [] (takeRef a t))

/-- The drives that can move an axis go on, once it is enabled, with what waited for it. -/
def resumeDrives (a : Nat) (s : State) : State :=
  (drivesOver s a).foldl (fun t k =>
    let d := drv t k
    if !still d || d.begun then t
    else if d.feed.isSome then enterFeed k t
    else if d.queue.isEmpty then t
    else beginQueue k t) s

/-- R188, R538, R559: AXIS.ENABLE. -/
def vAxisEnable (c : Cmd) (s : State) : Ans × State :=
  let a := objIdx c.req.obj
  let on := modBit c 0
  checked [objIs [kAxis] c s, modsIn 1 c, noPayload c, declared s, need (on || axStill s a) stState 0x0103] s
    (if on then
       let st := (ax s a).st
       let t := modAx a (fun x => { x with
         en := true, halted := false,
         st := match st with | .disabled => .idle | .fault => .idle | .halted => .idle | o => o,
         irefTo := match st with | .disabled => iHoldOf s a | _ => x.irefTo }) s
       done [] (resumeDrives a (takeRef a t))
     else
       let off (x : Axis) : Axis := { x with st := .disabled, en := false, iref := 0, irefTo := 0, halted := false, devCount := 0 }
       done [] (modAx a (fun x => match x.st with
         | .idle => off x
         | .halted => off x
         | _ => x) s))

/-- R188, R576: AXIS.STATUS's bytes for one axis. -/
def axisStatus (s : State) (a : Nat) : List Byte :=
  let x := ax s a
  let k := driveOf s a
  let e := axisEnc s a
  let d := if (drv s a).feed.isSome || !still (drv s a) then drv s a else drv s k
  [b8 (axCode x.st), b8 (drv s k).queue.length, 0#8, 0#8] ++ leInt 4 x.pos ++
    leBytes 4 (if e < 4 then unsignedOf 48 (encd s e).count else 0) ++ leBytes 4 (d.speed / speedOne)

/-- R188, R576: AXIS.STATUS. -/
def vAxisStatus (c : Cmd) (s : State) : Ans × State :=
  let axes := if objKind c.req.obj = kAxis then [objIdx c.req.obj] else (List.range 4).filter fun a => (dAxis? s a).isSome
  checked [objIs [kAxis, kDevice] c s, modsIn 0 c, noPayload c, declared s] s (done (axes.flatMap (axisStatus s)) s)

end Sys2Proof.Machine
end

