-- ==== Sys2Proof/Machine/Run.lean ====
section
/-! DEFINITION. A run's end (R168, R374, R410, R418, R456), a LINE.RECONFIGURE applied (R169, R183, R184, R209, R322, R375),
and the effects of CAPTURE.FREEZE (R106, R157, R194, R439, R441, R695). -/

namespace Sys2Proof.Machine

def modLine (f : LineU → LineU) (s : State) : State := { s with line := f s.line }
def modSeam (f : SeamU → SeamU) (s : State) : State := modDeliv (fun u => { u with seam := f u.seam }) s
def modCmp (f : CompareU → CompareU) (s : State) : State := { s with motion := { s.motion with cmp := f s.motion.cmp } }

/-! ### The end of a run -/

/-- A seam's lines have been formed again, and the join check is still to come (R432, step 10). -/
def joinDue (s : State) : Bool := s.deliv.seam.phase == .join && decide (s.deliv.seam.nr ≤ s.achr.next) && fwRunning s

/-- Every capture of the run has been disposed of, and no further line can be formed or fixed as a gap. -/
def drained (s : State) : Bool :=
  (runCaps s).all (fun c => c.done) && !joinDue s &&
    (match s.decl with
     | none => true
     | some d => (formable d (storeCaptures d s)).isNone)

/-- R393, R410, R418, R456, R401: what follows the last line of an ended run: the partial window, the gap log and the
buffers, the partial stripe, and the slots still claimed. -/
def settleRun (s : State) : State :=
  let t := closeGap (achrWindow s)
  let t := match t.deliv.gapBuf with
    | some b => placeGaps b t
    | none => t
  let t := flushLoupeBuf (flushGapBuf t)
  let t := endStripe t
  modLine (fun l => { l with settling := false })
    (modDeliv (fun u => { u with slots := u.slots.filter fun x => x.st != .claimed, seam := { u.seam with phase := .off } }) t)

/-- An ended run whose captures have drained is settled. -/
def settleIfDone (s : State) : State := if s.line.settling && drained s then settleRun s else s

/-! ### A LINE.RECONFIGURE applied (R179, R375) -/

/-- The records with replacements put in place, in the order of R196. -/
def mergeRecords (old new : List RawRec) : List RawRec :=
  let types := new.map RawRec.type
  let all := (old.filter fun r => !types.contains r.type) ++ new
  all.foldl (fun acc r => (acc.filter fun x => keyLt (x.type, x.inst) (r.type, r.inst)) ++ [r] ++
    (acc.filter fun x => keyLt (r.type, r.inst) (x.type, x.inst))) []

/-- R322, R323: the number of segments or the PIXELS of a segment change. -/
def segmentsChange (a b : Decl) : Bool := a.segments.map DSegment.pixels != b.segments.map DSegment.pixels

/-- R322: both banks return to neutral contents and EMPTY. -/
def emptyBanks (s : State) : State :=
  { s with cal := { s.cal with banks := Vector.replicate 2 {}, written := false } }

/-- R236: no exposure set stays above the N_RD of its segment, nor a short one above the long one (log 93). -/
def clampExps (d : Decl) (s : State) : State :=
  let one (n : Nat) (p : SegPar) : SegPar := match d.segments[n]? with
    | none => p
    | some g =>
      let q := { p with expLong := p.expLong.map fun v => min v (nRd g) }
      if expL g q < expS g q then { q with expShort := some (expL g q) } else q
  { s with par := { s.par with segs := vmapIdx one s.par.segs } }

/-- R284, R288: the digitizers take the sensor registers that a LINE.RECONFIGURE changes, as those that a LINE.CONFIG does
(log 93). -/
def reshape (a b : Decl) (before : State) (n : Nat) (s : State) : State :=
  let regs (d : Decl) (u : State) : List (Nat × Nat) :=
    let g := d.segments.getD n default
    let p := vget u.par.segs n
    [(0x0014, g.clkDiv), (0x0018, g.pixels), (0x001C, g.overhead), (0x0020, expL g p), (0x0024, expS g p)]
  let st := (sport s n).st
  if regs a before == regs b s || !(st == .up || st == .degraded) then s
  else regAsk n ((regs b s).map fun r => { write := true, addr := r.1, data := r.2, use := .shape }) s

/-- The declaration with its records replaced takes force (R169, R209, R213, R570). With a line, it applies from that
output line of the run, and the grid continues (R375, R573); a change of M or of the pixel format ends the stripe (R456). -/
def applyReconf (records : List RawRec) (line : Option Nat) (s : State) : State :=
  match s.decl with
  | none => s
  | some d =>
    let d' := toDecl d.minMinor d.declId (mergeRecords d.records records)
    let y := match line with
      | some n => some (n, (if n = 0 then outPos d' { s with achr := { s.achr with base := none } } 0
          else outPos d s (n - 1) + (d'.geometry.outPitch : Nat)))
      | none => s.achr.base
    let cut := line.isSome && (outPixels d != outPixels d' || d.geometry.format != d'.geometry.format) &&
      s.loupe.cur.isSome
    let t := if cut then endStripe s else s
    let keep := d.geometry.outDpi == d'.geometry.outDpi
    let t := modAchr (fun a => { a with base := y, custom := if keep then a.custom else none }) { t with decl := some d' }
    let t := if segmentsChange d d' then emptyBanks t else t
    let t := { t with cal := { t.cal with shape := d'.segments.map DSegment.pixels } }
    -- R506: the bypass schedule follows the exposures
    let t := (List.range d'.segments.length).foldl (fun u n => reshape d d' s n u) (clampExps d' t)
    syncAgree (bumpEpoch (rewindow (modCmp (fun c => { c with pitch := comparePitch d' }) t)))

/-- A deferred LINE.RECONFIGURE still waiting. -/
def isReconf : DeferAct → Bool
  | .reconf _ _ => true
  | _ => false

def isReconfAt : DeferAct → Bool
  | .reconf (.atLine _) _ => true
  | _ => false

/-- R168: deferred to a line named. -/
def lineNamed : DeferAct → Bool
  | .stop _ _ => true
  | .config _ _ => true
  | .swap _ => true
  | .reconf (.atLine _) _ => true
  | _ => false

/-- R184: the pending LINE.RECONFIGURE of DEFER or FORCE_SEAM. -/
def pendingReconf (s : State) : Option (Deferred × List RawRec) :=
  s.fw.deferred.findSome? fun d => match d.act with
    | .reconf (.atLine _) _ => none
    | .reconf _ r => some (d, r)
    | _ => none

/-- A deferred LINE.RECONFIGURE is applied at a seam's resume, a LINE.START or a run's end, and completes with ST_OK. The spec
names no line for these: word 7 is 0xFFFFFFFF, as where no line applies (R160; DESIGN CHOICE, log 87). -/
def completeReconf (line : Option Nat) (s : State) : State :=
  match pendingReconf s with
  | none => s
  | some (_, r) =>
    endDeferred (fun d => isReconf d.act && !isReconfAt d.act) stOk 0 0xFFFFFFFF (applyReconf r line s)

/-- What the LINE.CONFIGs `xs`, which have ended unapplied, leave in the digitizers: no more of their writes are made, and
the exposures in force go back into the registers written (R284, R288; log 62). -/
def undoWrites (d : Decl) (xs : List Deferred) (s : State) : State :=
  (List.range 24).foldl (fun t n => regAsk n (restoreWrites d 0 [] (xs.filter (writesBegun d n s)) n s) t) (dropWrites s)

/-- R168: every command deferred to a named line that has not acted completes with ABORTED. A FORCE_AT_LINE change names an
output line: it has acted once that line has been formed, and not before (DESIGN CHOICE, log 89). -/
def abortNamed (s : State) : State :=
  let xs := s.fw.deferred.filter fun x => (configAt s x).isSome
  let t := endDeferred (fun d => lineNamed d.act && d.acted.isNone) stState 0x0100 0xFFFFFFFF s
  match s.decl with
  | some d => if xs.isEmpty then t else undoWrites d xs t
  | none => t

/-- R168, R184: the run has ended: commands deferred to a named line abort, a deferred LINE.RECONFIGURE applies (from the line
that the Achromat forms next, where it has lines left to form: R375), the resume point is gone, and the Achromat goes on under
R374. A seam in steps 9 and 10 goes on through its join check, so that its lines can be formed. -/
def runEnds (s : State) : State :=
  let t := abortNamed s
  let t := completeReconf (if drained t then none else some t.achr.next) t
  let t := { t with prism := { t.prism with run := none } }
  settleIfDone (boundaryNow (modSeam (fun m => { m with phase := if m.phase == .join then .join else .off })
    (modLine (fun l => { l with admitting := false, start := none, drain := .none, resume := none, resuming := false,
                                settling := true, system := false, fresh := false, treeStops := [] }) t)))

/-! ### CAPTURE.FREEZE (R106) -/

def Busy.isSystemArm : Busy → Bool
  | .systemArm => true
  | _ => false

def Busy.isStopSeam : Busy → Bool
  | .stopSeam => true
  | _ => false

/-- R695: the root of a system run sends FREEZE down the tree, by hardware. -/
def treeFreeze (s : State) : State :=
  match s.prism.run with
  | some r => if s.prism.root && s.line.system then
      pDown 0x0F 0xFFFF (leBytes 8 (sysNs s) ++ leBytes 2 r) (nodeId s) s else s
  | none => s

/-- With firmware running, the feed axis stops on its ramp (R439, R441). -/
def freezeFeed (s : State) : State :=
  let owned := match feedAxis? s with
    | some a => (drv s a).feed.isSome || s.deliv.seam.phase != .off
    | none => false
  if fwRunning s && owned then stopFeed s else s

/-- R439: in SEAM the resume point and the retained lines are held. Before step 2 has fixed n_r, it is the lowest number
not yet formed. -/
def freezeSeam (cause : Nat) (s : State) : State :=
  let m := s.deliv.seam
  let held := if m.phase == .ramp && m.returns == 0 then s.achr.next else m.nr
  boundaryNow (setLineState .frozen cause (modSeam (fun m => { m with phase := if m.phase == .ramp then .ramp else .off })
    (freezeFeed (modLine (fun l => { l with admitting := false, resume := some held }) s))))

/-- R439: a seam is on: in SEAM, and in the steps 3 to 7 that continue a held resume point (R440), in which the line state is
still ARMED (log 98). -/
def seamOn (s : State) : Bool :=
  s.line.st == .seam || (s.line.st == .armed && s.line.resuming && s.deliv.seam.phase != .off)

/-- R106: the effects of CAPTURE.FREEZE, by a verb (cause 0xF003) or by a fault (cause 0); a fault sets FROZEN_FAULT
(R690). -/
def captureFreeze (cause : Nat) (fault : Bool) (s : State) : State :=
  let t := treeFreeze (modLine (fun l => { l with frozen := true, frozenFault := if l.st = .frozen then l.frozenFault else fault }) s)
  let t := abortBusy Busy.isSystemArm t
  let t := endUrgBusy Busy.isStopSeam stOk 0 [] (endBusy Busy.isStopSeam stOk 0 [] t)
  match t.line.st with
  | .calibrating =>
    match t.cal.run with
    | some r => if r.accumulating then endCal stState 0x0100 [] t else t
    | none => t
  | .armed =>
    if seamOn t then freezeSeam cause t
    else runEnds (setLineState .frozen cause (freezeFeed (modLine (fun l => { l with admitting := false }) t)))
  | .capturing => runEnds (setLineState .frozen cause (freezeFeed (modLine (fun l => { l with admitting := false }) t)))
  | .seam => freezeSeam cause t
  | _ => t

end Sys2Proof.Machine
end

