-- ==== Sys2Proof/Machine/Arm.lean ====
section
/-! DEFINITION. Arming a run (R157, R174, R176, R177, R214, R215, R404): LINE.ARM, and the arm of a joined system with its
answers and its undoing (R693, R694). -/

namespace Sys2Proof.Machine

/-! ### What the device refuses to arm (R214) -/

/-- R404: the line-data streams bound. -/
def lineStreams (d : Decl) (s : State) : List Nat :=
  let has (k : Nat) : Bool := (ringOf s k).isSome
  let planar := d.geometry.format == 2 || d.geometry.format == 3
  if has 1 then (if has 2 || has 3 || has 4 then [] else [1])
  else if planar && has 2 && has 3 && has 4 then [2, 3, 4] else []

/-- R214, checks 1 to 7. -/
def armChecks (d : Decl) (resume : Bool) (s : State) : List Check :=
  let sc := d.system.scan
  let axis := ax s d.system.feedAxis
  [ need (s.line.st != .declared && !anyPortFailed s) stState 0x0101,
    need (!(lineStreams d s).isEmpty) stState 0x0102,
    need (sc || (ringOf s 5).isSome) stState 0x0103,
    need (seamReserveOk d) stState 0x0104,
    need (vget s.cal.banks s.cal.active).loaded stState 0x0105,
    need (!sc || (axis.en && axis.st != .fault)) stState 0x0106,
    need (!resume || s.line.resume.isSome) stState 0x0107 ]

/-- R214, checks 9 and 10 of one node. -/
def nodeChecks (s : State) : List Check :=
  [need (!pJoined s || digestOk s) stState 0x0109, need (!pJoined s || versionOk s) stState 0x010A]

/-- R214, checks 9 to 12 on the root of a system arm (R693). -/
def rootChecks (s : State) : List Check :=
  let a := aggregate s
  [ need (bit a.andFlags 0 && !idConflict s) stState 0x0109, need (bit a.andFlags 1) stState 0x010A,
    need (decide (s.prism.expect ≤ a.nodes)) stState 0x010B, need (decide (1 ≤ a.readiness)) stState 0x010C ]

/-- R177. -/
def speedOk (d : Decl) (speed : Nat) : Bool := if d.system.scan then decide (speed < d.speeds.length) else speed == 0

/-! ### The state of a run armed -/

/-- What a run that begins afresh discards: the resume point (R176, R441), with the commands deferred to a line of the run
that held it (R168), the Achromat's and the slots' counting. -/
def beginFresh (first : Nat) (s : State) : State :=
  let t := if s.line.resume.isSome then
      settleRun (abortNamed s) else s
  let t := modLine (fun l => { l with resume := none, fresh := false }) t
  let t := modDeliv (fun u => { u with
    old := u.old ++ u.slots.filter fun x => x.st == .filled && !x.owed.isEmpty
    slots := [], claim := 0, refusing := false, seam := {}, lowBefore := false }) t
  let t := modAchr (fun a => { a with
    base := none, next := 0, first := 0, stored := 0, lastPos := none, winFirst := 0, winNum := first, counts := {}
    transition := none, epochFrom := none }) t
  { t with caps := t.caps.filter Capture.cal, loupe := { t.loupe with lastInput := none } }

/-- What LINE.ARM asks for. -/
structure ArmReq where
  first : Nat
  count : Nat
  speed : Nat
  system : Bool
  resume : Bool
  deriving DecidableEq, Repr, Inhabited

/-- R106, R157, R421: the line state becomes ARMED. With RESUME the run keeps its numbering. -/
def armState (cause : Nat) (d : Decl) (a : ArmReq) (s : State) : State :=
  let t := if a.resume || a.system then s else beginFresh a.first s
  -- R359, R469: the loop's history and the baselines go at every LINE.ARM without RESUME
  let t := if a.resume then t else modAchr (fun u => { u with hist := Vector.replicate 24 [] })
    { t with loupe := { t.loupe with baseReset := true } }
  let t := modLine (fun l => { l with
    frozen := false, frozenFault := false, speed := a.speed, start := none, admitting := false, drain := .none
    system := a.system, resuming := a.resume, fresh := a.system && !a.resume, treeStops := [] }) t
  let t := if a.resume then t else modLine (fun l => { l with
    firstLine := a.first, lineCount := a.count, seams := 0, gaps := 0 }) t
  let t := modDeliv (fun u => { u with
    streams := lineStreams d s, drain := if d.system.scan then paceRate d a.speed else outRate d }) t
  setLineState .armed cause t

/-- An earlier run's captures, or its feed, have not come to rest. -/
def armWaits (s : State) : Bool := s.line.settling || (s.line.st == .frozen && s.deliv.seam.phase != .off)

/-! ### The arm of a joined system (R693, R694) -/

/-- R694: the node returns to the line state it held before ARM. -/
def unarm (s : State) : State :=
  match s.prism.prev with
  | some p =>
    let t := { s with prism := { s.prism with run := none, prev := none, ownAns := none, heldArm := none, armAt := none } }
    if s.line.st != .armed then t
    else
      let o := p.line
      let t := modLine (fun l => { l with
        frozen := o.frozen, frozenFault := o.frozenFault, firstLine := o.firstLine, lineCount := o.lineCount, speed := o.speed
        seams := o.seams, gaps := o.gaps, lastAdmitted := o.lastAdmitted, lastDelivered := o.lastDelivered
        resume := o.resume, drain := o.drain, system := o.system, resuming := o.resuming, fresh := o.fresh
        start := none, admitting := false, treeStops := [] }) t
      setLineState o.st 0 (modDeliv (fun u => { u with streams := p.streams }) t)
  | none => { s with prism := { s.prism with ownAns := none, heldArm := none, armAt := none } }

/-- R693: two answers combined: the lowest-numbered failing node gives the detail. -/
def combineAns (a b : PArmAns) : PArmAns :=
  if a.failNode ≤ b.failNode then { a with armed := a.armed + b.armed } else { b with armed := a.armed + b.armed }

/-- R693, step 4: the answer of the subtree, once the node's own and every child's are in. -/
def subtreeAns (s : State) : Option PArmAns :=
  (pDownPorts s).foldl (fun a p => match a, (pport s p).armAns with
    | some x, some y => some (combineAns x y)
    | _, _ => none) s.prism.ownAns

/-- R694: the arm of the system fails: UNARM goes down, and the verb is answered. -/
def armFails (node detail : Nat) (s : State) : State :=
  let run := s.prism.run.getD s.prism.runId
  let t := unarm (pDown 0x0D 0xFFFF (leBytes 2 run) (nodeId s) s)
  prismEvent 6 0xFF node detail run (endBusy Busy.isSystemArm stState detail [] t)

/-- R693, steps 4 and 5. -/
def armProgress (s : State) : State :=
  match subtreeAns s with
  | none => s
  | some a =>
    let run := s.prism.run.getD s.prism.runId
    let t := { s with prism := { s.prism with ownAns := none, armAt := none } }
    if !s.prism.root then
      pUp 0x0C 0xFFFE (leBytes 2 run ++ leBytes 2 a.armed ++ leBytes 2 a.failNode ++ leBytes 2 a.detail) (nodeId s) t
    else if a.armed = (aggregate s).nodes then endBusy Busy.isSystemArm stOk 0 [] t
    else armFails a.failNode a.detail t

/-- An arm whose node answers: what came before is kept for UNARM, and the children's answers are awaited. -/
def openArm (run : Nat) (s : State) : State :=
  let t := (List.range 3).foldl (fun t p => modPort p (fun x => { x with armAns := none }) t) s
  { t with prism := { t.prism with run := some run, prev := some { line := s.line, streams := s.deliv.streams }, ownAns := none } }

/-- R693, step 2: the root becomes ARMED and ARM goes down. -/
def systemArm (d : Decl) (a : ArmReq) (s : State) : Ans × State :=
  let run := (s.prism.runId + 1) % 65536
  let t := openArm run { s with prism := { s.prism with runId := run } }
  let t := armState 0x0401 d a t
  let t := { t with prism := { t.prism with ownAns := some { armed := 1, failNode := 0xFFFF, detail := 0 }, armAt := some s.localNs } }
  let t := pDown 0x0B 0xFFFF (leBytes 4 a.first ++ leBytes 4 a.count ++ leBytes 2 run ++ [b8 a.speed, b8 (flag a.resume 0)]) (nodeId s) t
  if (pDownPorts t).isEmpty then done [] { t with prism := { t.prism with ownAns := none, armAt := none } } else (.wait .systemArm, t)

/-- R693, step 3: a node's own checks, and its line state. -/
def nodeArm (first count run speed : Nat) (resume : Bool) (s : State) : State :=
  let ans (armed detail : Nat) (t : State) : State :=
    armProgress { t with prism := { t.prism with
      ownAns := some { armed := armed, failNode := if armed = 1 then 0xFFFF else nodeId t, detail := detail } } }
  match s.decl with
  | none => ans 0 0x010C s
  | some d =>
    if s.line.st != .ready && s.line.st != .frozen then ans 0 0x010C s
    else
      match firstFail (need (speedOk d speed) stState 0 :: armChecks d resume s ++ nodeChecks s) with
      | some e => ans 0 e.2 s
      | none =>
        if armWaits s then { s with prism := { s.prism with heldArm := some (first, count, run, speed, resume) } }
        else ans 1 0 (armState 0 d { first := first, count := count, speed := speed, system := true, resume := resume } s)

/-! ### LINE.ARM -/

/-- LINE.ARM (R174, R176, R177, R214, R215). SYSTEM on a device that is no Prism root is refused with ST_STATE, detail 0: R174
says only that it is the root's (DESIGN CHOICE, log 90). -/
def vLineArm (c : Cmd) (s : State) : Ans × State :=
  let a : ArmReq := { first := pu c 0 4, count := pu c 4 4, speed := pu c 8 1, system := modBit c 0, resume := modBit c 1 }
  match s.decl with
  | none => checked [objIs [kDevice] c s, modsIn 3 c, shape [.u 4, .u 4, .u 1] c] s (refuse stState 0 s)
  | some d =>
    checked ([objIs [kDevice] c s, modsIn 3 c, shape [.u 4, .u 4, .u 1] c, need (speedOk d a.speed) stBadArg 0,
        stateIn [.declared, .ready, .frozen] s, need (!a.system || s.prism.root) stState 0] ++ armChecks d a.resume s ++
        [need ((dPrism? s).isNone || pJoined s) stState 0x0108] ++ (if a.system then rootChecks s else nodeChecks s)) s <|
      if armWaits s then (.wait .arm, s)
      else if a.system then systemArm d a s
      else done [] (armState 0x0401 d a s)

/-- The LINE.ARM in progress, or the ARM held, goes on once the earlier run's captures have come to rest. -/
def armIfWaiting (s : State) : State :=
  if armWaits s then s
  else
    let t := match s.fw.busy with
      | some (c, .arm) => answer c (vLineArm c { s with fw := { s.fw with busy := none } })
      | _ => s
    match t.prism.heldArm with
    | some (first, count, run, speed, resume) =>
      nodeArm first count run speed resume { t with prism := { t.prism with heldArm := none } }
    | none => t

end Sys2Proof.Machine
end

