-- ==== Sys2Proof/Machine/Seam.lean ====
section
/-! DEFINITION. The pace controller (R420 to R424) and the seam keeper (R429 to R440): the rows PACE_WINDOW_END,
SEAM_STANDSTILL, SEAM_DWELL_END, SEAM_BACKUP_REACHED, SEAM_HOST_WAIT_END and SEAM_JOIN_CHECK. -/

namespace Sys2Proof.Machine

/-! ### The beginning of a seam (R429, R432 step 1) -/

/-- R398: the occupancy that claims may reach. -/
def claimLimit (d : Decl) (s : State) : Nat :=
  if d.system.scan && s.deliv.seam.phase != .ramp then slotLimit d else ringSlots d

/-- R429: a seam begins: the feed axis stops on its ramp and the line state becomes SEAM. -/
def beginSeam (cause : Nat) (overflow : Bool) (s : State) : State :=
  if s.line.st != .capturing || !isScan s then s
  else
    let t := modSeam (fun m => { m with phase := .ramp, startNs := s.localNs, travel := 0, returns := 0, reported := false,
                                        reconf := false, copies := [], mark := false, offset := false }) s
    let t := modDeliv (fun u => { u with settleNow := u.par.settle }) t
    let t := stopFeed (setLineState .seam cause t)
    if overflow then hostStall 0xF 3 t else t

/-- R448: RPT.SEAM_JOIN. -/
def seamJoinReport (status : Nat) (residual c0 mean : Int) (s : State) : State :=
  let m := s.deliv.seam
  fwReport 0x0040 [s.line.seams, outNumber s m.nr, status + fld m.j 8 8, unsignedOf 32 residual, unsignedOf 32 c0,
    unsignedOf 32 mean, m.travel % 2 ^ 32, (s.localNs - m.startNs) / 1000000 % 2 ^ 32] s

/-- R435: the seam keeper returns to step 1 with the same n_r; after three such returns the seam ends with REFILL_FAIL
and the freeze of R434 applies, the resume point held. -/
def seamReturn (s : State) : State :=
  let m := s.deliv.seam
  let t := setLineState .seam 0 s
  if 3 ≤ m.returns then
    captureFreeze 0 true (seamJoinReport 6 0 0 0 t)
  else
    stopFeed (modSeam (fun m => { m with phase := .ramp, returns := m.returns + 1, mark := false, offset := false }) t)

/-- R435: a capture that step 9, or the completion of line n_r, needs is missing. -/
def seamMissing (d : Decl) (s : State) : Bool :=
  let m := s.deliv.seam
  let watch := m.phase == .fwd || m.phase == .join || (m.phase == .off && m.mark && s.achr.next == m.nr && s.line.st == .capturing)
  watch && (runCaps s).any fun c =>
    c.gap != 0 && decide (firstNeededOf d s (m.nr - m.j) ≤ c.index ∧ c.index ≤ lastNeeded d s m.nr)

/-- R260, R429, R435: what a capture found missing does to the seam keeper: a return to step 1 during a seam's refill;
under RECAPTURE, in CAPTURING, a new seam, also for a position discard, which R430 does not bridge either (log 97). -/
def seamWatch (s : State) : State :=
  match s.decl with
  | none => s
  | some d =>
    if !d.system.scan || !inRun s then s
    else if seamMissing d s then seamReturn s
    else if s.line.st == .capturing && s.deliv.seam.phase == .off && bubblePolicy d == 2 &&
        (match s.line.drain with | .none => true | .stopSeam _ => true | _ => false) &&
        (runCaps s).any (fun c => decide (firstNeededOf d s s.achr.next ≤ c.index) && c.gap != 0) then
      beginSeam 0 false s
    else s

/-! ### Steps 2 to 5 -/

/-- The feed axis's place in units now (R364). -/
def feedUnits (d : Decl) (s : State) : Int := unitsOfCounts d ((encd s (feedEnc s)).count - originCounts s)

/-- R433: X_back in units for J′ = j; a pending LINE.RECONFIGURE of a larger span moves it back by the difference (R439). -/
def backUnits (d : Decl) (s : State) (j : Nat) : Rat :=
  let more := match pendingReconf s with
    | some (_, r) => spanOf (toDecl d.minMinor d.declId (mergeRecords d.records r)) - spanOf d
    | none => 0
  let lines := marginOf d + 1 + s.deliv.settleNow
  ((outPos d s s.deliv.seam.nr - ((j * d.geometry.outPitch : Nat) : Int) + oMin d - ((lines * gridPitch s : Nat) : Int) -
    ((more : Nat) : Int) : Int) : Rat) - (accDistance d : Rat) * unitsPerStep d

/-- X_back in steps of the feed axis, rounded away from n_r. -/
def backSteps (d : Decl) (s : State) (j : Nat) : Int :=
  let a := d.system.feedAxis
  (ax s a).pos + (if unitsPerStep d = 0 then 0 else ((backUnits d s j - (feedUnits d s : Rat)) / unitsPerStep d).floor)

/-- R432, step 3, and R434: J′, lowered until X_back keeps LIMIT_MIN, down to 8. -/
def chooseJoin (d : Decl) (s : State) : Option Nat :=
  let j0 := min d.system.joinLines s.deliv.seam.nr
  ((List.range (j0 - min 8 j0 + 1)).map fun i => j0 - i).find? fun j => decide ((dFeedAxis d).limMin ≤ backSteps d s j)

/-- Step 3: the backup begins with its dwell, or the seam ends with NO_ROOM. -/
def seamBackup (s : State) : State :=
  match s.decl with
  | none => s
  | some d =>
    match chooseJoin d s with
    | some j =>
      let a := d.system.feedAxis
      let t0 := dirFrom s a
      modSeam (fun m => { m with j := j, xBack := backSteps d s j, phase := .dwellBack t0 }) (setDir a false s)
    | none =>
      let t := modSeam (fun m => { m with j := min 8 (min d.system.joinLines m.nr) }) s
      let t := captureFreeze 0 true (seamJoinReport 5 0 0 0 t)
      if t.line.settling then t else runEnds t

/-- R373, R401, R431: the Achromat discards its captures, and goes on from `nr`; claimed slots are released. -/
def discardCaptures (nr : Nat) (s : State) : State :=
  let t := modDeliv (fun u => { u with slots := u.slots.filter fun x => x.st != .claimed, claim := nr,
                                       seam := { u.seam with nr := nr, copies := [] } }) s
  { t with caps := t.caps.filter fun c => c.cal, achr := { t.achr with next := nr, lastPos := none } }

/-- Step 2 at standstill: n_r is fixed (R431). -/
def fixResume (s : State) : State := discardCaptures (max s.achr.next s.deliv.seam.nr) s

/-- SEAM_STANDSTILL (R432, R439): the feed stands and admitted captures have drained. -/
def execSeamStandstill (s : State) : Host.Outcome State Fault Refusal :=
  settled (
    if s.deliv.seam.phase != .ramp || !feedStill s || !drained s then s
    else armIfWaiting <|
      let t := boundaryNow (modLine (fun l => { l with admitting := false }) (fixResume s))
      let off (t : State) : State := modSeam (fun m => { m with phase := .off }) t
      let hold (t : State) : State := modLine (fun l => { l with resume := some t.deliv.seam.nr }) t
      if t.line.st == .frozen then (if t.line.resume.isSome then off (hold t) else off t)
      else match t.line.drain with
        | .none => if fwRunning t then seamBackup t else s
        | .stopSeam _ =>
          endUrgBusy Busy.isStopSeam stOk 0 [] (endBusy Busy.isStopSeam stOk 0 [] (off (hold t)))
        | _ => endUrgBusy Busy.isStopSeam stOk 0 [] (endBusy Busy.isStopSeam stOk 0 [] (off t)))

/-- Step 5: the dwell at X_back, AXn_DIR turned forward (R529). -/
def turnForward (a : Nat) (s : State) : State :=
  let t0 := dirFrom s a
  modSeam (fun m => { m with phase := .dwellFwd t0 }) (setDir a true s)

/-- Step 4: the axis moves to X_back under its grant, or the grant is asked for at the next pace window (R439). -/
def startBack (s : State) : State :=
  match feedAxis? s with
  | none => s
  | some a =>
    let x := s.deliv.seam.xBack
    let here := (List.range 4).map fun b => (ax s b).pos
    let delta := x - (ax s a).pos
    if delta = 0 then turnForward a s
    else
      let g := askAccel a [a] s
      if !g.1 then modSeam (fun m => { m with phase := .askBack }) g.2
      else
        let mv : Move := { ends := here.set a x, delta := [0, 0, 0, 0].set a delta, vMax := 0, noBlend := false }
        let t := modSeam (fun m => { m with phase := .back, travel := m.travel + delta.natAbs }) g.2
        beginQueue a (modDrv a (fun d => { d with queue := [mv], begun := false, dwell := .none, feed := none }) t)

/-- The direction dwell of the feed axis has passed since `t0`. -/
def dwellOver (s : State) (t0 : Nat) : Bool :=
  match s.decl with
  | some d => decide (dirDwellEnd s d.system.feedAxis t0 ≤ s.localNs)
  | none => false

/-- SEAM_DWELL_END (R432, steps 4 and 5). -/
def execSeamDwellEnd (s : State) : Host.Outcome State Fault Refusal :=
  settled (match s.deliv.seam.phase with
    | .dwellBack t0 => if dwellOver s t0 then startBack s else s
    | .dwellFwd t0 => if dwellOver s t0 then modSeam (fun m => { m with phase := .wait }) s else s
    | _ => s)

/-- SEAM_BACKUP_REACHED (R432, steps 4 and 5): the feed axis stands at X_back. -/
def execSeamBackupReached (s : State) : Host.Outcome State Fault Refusal :=
  settled (match s.deliv.seam.phase, feedAxis? s with
    | .back, some a =>
      if axStill s a && (drv s a).queue.isEmpty && (ax s a).pos == s.deliv.seam.xBack then turnForward a s
      else s
    | _, _ => s)

/-! ### Steps 6 to 8 -/

/-- R433: the first needed grid index: the lowest i whose G_i reaches the target. -/
def firstNeeded (d : Decl) (s : State) : Nat :=
  let m := s.deliv.seam
  let t := outPos d s m.nr - ((m.j * d.geometry.outPitch : Nat) : Int) + oMin d - (((marginOf d + 1) * gridPitch s : Nat) : Int)
  let near := ((t - gridUnits d s 0) / (gridPitch s : Nat)).toNat - 4
  (((List.range 12).map fun i => near + i).find? fun i => decide (t ≤ gridUnits d s i)).getD near

/-- Step 7: the axis accelerates forward to the speed of index 0 under its grant, and the compare is armed. -/
def startForward (s : State) : State :=
  match s.decl with
  | none => s
  | some d =>
    let a := d.system.feedAxis
    let g := askAccel a [a] s
    if !g.1 then modSeam (fun m => { m with phase := .askFwd }) g.2
    else
      let i := firstNeeded d g.2
      let t := modSeam (fun m => { m with phase := .fwd, copies := [] }) g.2
      let t := modAchr (fun x => { x with first := i, stored := i, lastPos := none, next := t.deliv.seam.nr - t.deliv.seam.j }) t
      startFeed 0 (modLine (fun l => { l with speed := 0, admitting := true }) (modCmp (fun c => { c with index := i }) t))

/-- SEAM_HOST_WAIT_END (R432, steps 6 and 7; R439): a deferred LINE.RECONFIGURE is applied between them. -/
def execSeamHostWaitEnd (s : State) : Host.Outcome State Fault Refusal :=
  settled (match s.decl with
    | none => s
    | some d =>
      if s.deliv.seam.phase == .wait && fwRunning s &&
          decide (occupancy s * 1000 ≤ s.deliv.par.resumePm * slotLimit d) then
        match pendingReconf s with
        | some _ => startForward (modSeam (fun m => { m with reconf := true }) (completeReconf (some s.deliv.seam.nr) s))
        | none => startForward s
      else s)

/-! ### Steps 9 to 11: the join check (R437, R438) -/

/-- The sums of R437 over the pairs (a_{k+d}, b_k). -/
def joinSums (orig copies : List (List Nat)) (j : Nat) (d : Int) : CorrSums :=
  (List.range (j - 2)).foldl (fun (u : CorrSums) (i : Nat) =>
    let a := orig.getD ((i : Int) + 1 + d).toNat []
    let b := copies.getD (i + 1) []
    (a.zip b).foldl (fun (u : CorrSums) p =>
      { a := u.a + p.1, b := u.b + p.2, aa := u.aa + p.1 * p.1, bb := u.bb + p.2 * p.2, ab := u.ab + p.1 * p.2, n := u.n + 1 }) u) {}

/-- The green samples of the retained original of a line; empty for a gap. -/
def originalGreen (s : State) (n : Nat) : List Nat :=
  match (s.deliv.slots.find? fun x => x.n == n).bind Slot.line with
  | some l => greenCodes l.format l.planes
  | none => []

/-- R437, R438: residual, C(0) × 1,000,000, mean difference in 1/16 code, and the status. -/
def joinResult_ (d : Decl) (s : State) (free : Nat) : Int × Int × Int × Nat :=
  let m := s.deliv.seam
  let orig := (List.range m.j).map fun k => originalGreen s (m.nr - m.j + k)
  let u (k : Int) : CorrSums := joinSums orig m.copies m.j k
  let um := u (-1)
  let uz := u 0
  let up := u 1
  let cm := corrOf free um
  let cz := corrOf free uz
  let cp := corrOf free up
  let res := r64 (deltaOf free cm cz cp * (d.geometry.outPitch : Rat))
  let residual := roundHalfUp res.num res.den
  let c0 := r64 (cz * 1000000)
  let md : Rat := if uz.n = 0 then ((free % 65536 : Nat) : Rat) else r64 (16 * r64 (((uz.b : Int) - (uz.a : Int) : Int) / (uz.n : Rat)))
  let status := if m.j < 8 || m.reconf then 4
    else if sdBelow s.deliv.par.joinMinSd uz || decide (0 ≤ curvature cm cz cp) then 2
    else if s.deliv.par.joinTol < residual.natAbs then 1
    else 0
  (residual, roundHalfUp c0.num c0.den, roundHalfUp md.num md.den, status)

/-- SEAM_JOIN_CHECK (R432 steps 10 and 11, R437, R438, R449): line n_r − 1 has been compared. -/
def execSeamJoinCheck (s : State) : Host.Outcome State Fault Refusal :=
  settled (match s.decl with
    | none => s
    | some d =>
      let m := s.deliv.seam
      if !joinDue s then s
      else
        let f := takeFree s
        let r := joinResult_ d s f.1
        let t := if m.reported then f.2
          else
            let t := modLine (fun l => { l with seams := (l.seams + 1) % 2 ^ 32 }) f.2
            seamJoinReport r.2.2.2 r.1 r.2.1 r.2.2.1
              { t with live := { t.live with life := { t.live.life with seams := satInc t.live.life.seams } } }
        armIfWaiting (settleIfDone
          (modSeam (fun m => { m with phase := .off, mark := true, offset := r.2.2.2 == 1, reported := true }) t)))

/-! ### The pace controller (R420 to R424) -/

/-- R421: h in lines per second. -/
def hostRate (u : DelivU) : Rat :=
  let n := if u.streams.contains 1 then u.posted.getD 0 0
    else min (u.posted.getD 1 0) (min (u.posted.getD 2 0) (u.posted.getD 3 0))
  ((n * 1000 : Nat) : Rat) / (max 1 u.par.windowMs : Nat)

/-- R422: k*. -/
def paceTarget (d : Decl) (u : DelivU) : Nat :=
  (List.range d.speeds.length).foldl (fun b k =>
    if paceRate d k ≤ u.drain * (u.par.marginPm : Rat) / 1000 then max b k else b) 0

/-- R422, R423: the speed index moves by at most one step. -/
def paceStep (d : Decl) (s : State) : State :=
  let u := s.deliv
  let k := s.line.speed
  let cap := slotLimit d
  let high := decide (u.par.highPm * cap ≤ occupancy s * 1000)
  let low := decide (occupancy s * 1000 < u.par.lowPm * cap)
  let ks := paceTarget d u
  let next : Nat × Nat :=
    if high && decide (0 < k) then (k - 1, 2)
    else if ks < k then (k - 1, 1)
    else if decide (k < ks) && low && u.lowBefore then (k + 1, 3)
    else (k, 0)
  let t := modDeliv (fun u => { u with lowBefore := low }) s
  let owns := s.line.st == .capturing && s.line.admitting && (u.seam.phase == .off || u.seam.phase == .join) &&
    (match s.line.drain with | .none => true | _ => false)
  if !owns || u.par.fixed || u.seam.phase != .off || next.1 == k || !fwRunning s then t
  else
    report 0x0041 [k + fld next.1 8 8 + fld next.2 16 8, drainWord t, occupancy t, lastDeliv t]
      (setFeed next.1 (modLine (fun l => { l with speed := next.1 }) t))

/-- PACE_WINDOW_END (R421, R422, R424; R439's grants asked for again). -/
def execPaceWindowEnd (s : State) : Host.Outcome State Fault Refusal :=
  settled (match s.decl with
    | none => s
    | some d =>
      if s.localNs < s.deliv.window + s.deliv.par.windowMs * 1000000 || !rootClks s then s
      else
        let h := hostRate s.deliv
        let t := modDeliv (fun u => { u with drain := u.drain + (h - u.drain) / 8, posted := [0, 0, 0, 0], window := s.localNs }) s
        let t := if d.system.scan then paceStep d t else t
        match t.deliv.seam.phase with
        | .askBack => startBack t
        | .askFwd => startForward t
        | _ => t)

end Sys2Proof.Machine
end

