-- ==== Sys2Proof/Machine/Seg.lean ====
section
/-! DEFINITION. The Segment link: timing-lane sequences (R224 to R227), lane control and roles (R238 to R244), lane
training and tracking (R262 to R267), the rotating spare and failover (R268 to R273), bring-up and port states (R274 to
R280), digitizer registers (R281 to R286) and reports (R289). -/

namespace Sys2Proof.Machine

def lane (s : State) (n x : Nat) : Lane := vget (sport s n).lanes x
def modLane (n x : Nat) (f : Lane → Lane) (s : State) : State := modSeg n (fun p => { p with lanes := vmod p.lanes x f }) s

/-- The declared segment numbers. -/
def segNumbers (s : State) : List Nat := List.range (dSegments s).length

/-- R234, R229: the ports in use: declared, and not FAILED. -/
def portUp (p : PortU) : Bool := p.st == .up || p.st == .degraded

/-! ### Reports (R289) -/

def roleCode : LaneRole → Nat
  | .data => 0
  | .spare => 1
  | .copy => 2
  | .training => 3

def portCode : PortSt → Nat
  | .off => 0
  | .linking => 1
  | .up => 2
  | .degraded => 3
  | .failed => 4

/-- The device lane now SPARE, or 0xFF. -/
def spareLane (p : PortU) : Option Nat := (List.range 4).find? fun x => (vget p.lanes x).role == .spare

def laneEvent (n x event : Nat) (s : State) : State :=
  let p := sport s n
  let l := vget p.lanes x
  fwReport 0x0020 [n + fld x 8 8 + fld event 16 8 + fld (roleCode l.role) 24 8,
    fld l.tap 0 6 + fld l.boost 8 4 + fld (unsignedOf 8 l.slicer) 16 8 + fld l.eye 24 8,
    fld l.margin 0 8 + fld ((spareLane p).getD 255) 8 8 + fld (portCode p.st) 16 8, lastAdm s] s

def linkError (n cause : Nat) (s : State) : State :=
  let p := sport s n
  fwReport 0x0021 [n + fld cause 8 8 + fld (portCode p.st) 16 8, p.digStatus, p.digId, lastAdm s] s

/-! ### Timing-lane sequences -/

/-- R217, R240: the lane-control sequence for the roles now held. -/
def laneControl (n : Nat) (s : State) : State :=
  let p := sport s n
  let map := ((dSegment? s n).map DSegment.laneMap).getD 0xE4
  let roles := (List.range 4).map fun m =>
    let l := vget p.lanes (bits map (2 * m) 2)
    b8 (roleCode l.role + 4 * (match l.role with | .data => l.stripe | .copy => l.stripe | _ => 0))
  let seq := (p.laneSeq + 1) % 16
  let body := roles ++ [b8 seq]
  txPut n (symLane :: (body ++ [crc8 body]).map symData) (modSeg n (fun p => { p with laneSeq := seq }) s)

/-- An access of this kind still waits for its reply. -/
def regBusy (p : PortU) (u : RegUse) : Bool := p.regQ.any (fun a => a.use == u) || p.regOut.any fun o => o.acc.use == u

/-! ### Line state and bring-up's reports (R157, R158, R277) -/

/-- R157: DECLARED becomes READY once both reports have been committed with success. -/
def lineReadyCheck (s : State) : State :=
  if s.line.st = .declared && s.line.dram == some 0 && s.line.linkReady == some true then setLineState .ready 0 s else s

/-- R277: RPT.LINK_READY when no declared port is still to be settled. -/
def checkLinkReady (s : State) : State :=
  let ns := segNumbers s
  let settled := ns.all fun n => portUp (sport s n) || (sport s n).st == .failed
  if s.line.linkDue && settled && s.line.dram.isSome then
    let mask (q : PortU → Bool) : Nat := (ns.map fun n => flag (q (sport s n)) n).sum
    let failed := mask fun p => p.st == .failed
    lineReadyCheck (report 0x0013 [mask portUp, failed]
      { s with line := { s.line with linkDue := false, linkReady := some (failed == 0) } })
  else s

def Busy.isLanes (n : Nat) : Busy → Bool
  | .lanes m => n == m
  | _ => false

/-- The capture is a line of this calibration, not one that an earlier calibration has left in flight (R334). -/
def calOwn (r : CalRun) (c : Capture) : Bool := c.cal && decide ((c.index + 2 ^ 32 - r.first) % 2 ^ 32 < r.issued)

/-- R334: accumulation ends, also when no port is left to issue lines to (R331): the grant is returned and lamps are
released (step 5); the tables remain to be written. A LINE.STOP that waits for it is answered. -/
def calAccumulated (s : State) : State :=
  match s.cal.run with
  | none => s
  | some r =>
    if r.accumulating && (r.segs.isEmpty || decide (r.lines ≤ r.counted) ||
        (decide (2 * r.lines + 16 ≤ r.issued) && !s.caps.any (calOwn r))) then
      endUrgBusy Busy.isStopCal stOk 0 []
        (returnGrant .cal .calSweep { s with cal := { s.cal with run := some { r with accumulating := false, step := .compute } } })
    else s

/-- R331: calibration lines go to ports that are not FAILED, so a port that fails before accumulation ends is skipped from
then on. -/
def calDrop (n : Nat) (s : State) : State :=
  match s.cal.run with
  | some r =>
    if r.step == .compute then s
    else calAccumulated { s with cal := { s.cal with run := some { r with
      segs := r.segs.filter (· != n), sums := r.sums.filter fun x => x.seg != n } } }
  | none => s

/-- R288: an access of a LINE.CONFIG has failed: the command completes with ABORTED and none of its entries applies. -/
def configFail (own : Nat) (s : State) : State :=
  if own = 0 then s
  else
    let t := { s with ports := vmap (fun p => { p with regQ := p.regQ.filter fun a => a.own != own }) s.ports }
    let isCfg (d : Deferred) : Bool := (match d.act with | .config _ _ => true | _ => false) && cfgOwn d.tag == own
    let t := endDeferred isCfg stState 0x0100 0xFFFFFFFF t
    match t.fw.busy with
    | some (c, .config _) => if cfgOwn c.req.tag = own then endBusy Busy.isConfig stState 0x0100 [] t else t
    | _ => t

/-- The LINE.CONFIGs with accesses on a port not yet answered. -/
def portOwners (p : PortU) : List Nat := ((p.regQ ++ p.regOut.map RegOut.acc).map RegAcc.own).eraseDups.filter (· != 0)

/-- R158, R272, R276, R278: a port becomes FAILED. Its accesses end with it, and with them the LINE.CONFIGs that made them
(R288). -/
def portFail (n cause : Nat) (s : State) : State :=
  let t := unwaitGrant (.port n) .digitizer (returnGrants (.port n) (modSeg n (fun p =>
    { p with st := .failed, bring := .none, rot := .idle, recal := 0, regQ := [], regOut := [] }) s))
  let u := linkError n cause t
  let v := if inRun u then captureFreeze 0 true u
    else if u.line.st = .ready then setLineState .declared 0 u
    else u
  (portOwners (sport s n)).foldl (fun w own => configFail own w)
    (checkLinkReady (endBusy (Busy.isLanes n) stState 0 [] (calDrop n v)))

/-! ### Training (R265, R266) -/

/-- The length of the run of error-free taps from `t`, circular. -/
def goodRun (good : List Bool) (t : Nat) : Nat → Nat
  | 0 => 0
  | k + 1 => if good.getD (t % 64) false then 1 + goodRun good (t + 1) k else 0

/-- R265: the longest circular run of error-free positions and the middle of it. -/
def bestRun (good : List Bool) : Nat × Nat :=
  (List.range 64).foldl (fun best t =>
    let r := goodRun good t 64
    if best.1 < r then (r, (t + r / 2) % 64) else best) (0, 0)

/-- Training begins: the checker has to lock first. -/
def trainBegin (l : Lane) : Lane :=
  { l with role := .training, train := some (.lock 0), windows := 0, clean := false, aligned := false
           goal := { tap := l.tap, boost := l.boost, slicer := l.slicer } }

/-- Training ends with these measures. -/
def trainEnd (l : Lane) : Lane :=
  { l with train := none, passed := decide (24 ≤ l.eye ∧ 6 ≤ l.margin) }

/-- R262: each setting that has not reached its goal moves one step; TAP goes round its circle the shorter way. -/
def laneStep (l : Lane) : Lane :=
  { l with
    tap := if l.tap = l.goal.tap then l.tap
      else if (l.goal.tap + 64 - l.tap) % 64 ≤ 32 then (l.tap + 1) % 64 else (l.tap + 63) % 64
    boost := if l.boost < l.goal.boost then l.boost + 1 else if l.goal.boost < l.boost then l.boost - 1 else l.boost
    slicer := if l.slicer < l.goal.slicer then l.slicer + 1 else if l.goal.slicer < l.slicer then l.slicer - 1 else l.slicer }

/-- Every setting has reached its goal. -/
def atGoal (l : Lane) : Bool := l.tap == l.goal.tap && l.boost == l.goal.boost && l.slicer == l.goal.slicer

/-- Training goes on at these settings, the first step toward them taken now. -/
def trainAt (l : Lane) (goal : LaneSet) (t : TrainStep) : Lane := laneStep { l with goal := goal, train := some t }

/-- The final phase sweep begins at the centre and the chosen boost. -/
def sweepFinal (l : Lane) (centre boost : Nat) : Lane :=
  trainAt l { l.goal with tap := centre, boost := boost } (.sweep true centre [])

/-- R265: a window with the lane at the settings to be measured: `ok` when it showed no bit error. -/
def trainMeasure (ok : Bool) (l : Lane) : TrainStep → Lane
  | .lock w => { l with train := some (.lock w) }
  | .settle => trainEnd l
  | .sweep final start good =>
    let g := good ++ [ok]
    if g.length < 64 then trainAt l { l.goal with tap := (l.tap + 1) % 64 } (.sweep final start g)
    else
      let byTap := (List.range 64).map fun t => g.getD ((t + 64 - start) % 64) false
      let r := bestRun byTap
      let l' := { l with eye := r.1 }
      if final then
        let v := min 31 (l.slicer + 1)
        trainAt l' { l.goal with tap := r.2, slicer := v } (.slicerUp l.slicer v)
      else
        let up := decide (l.boost < 15)
        trainAt l' { l.goal with tap := r.2, boost := if up then l.boost + 1 else l.boost - 1 }
          (.boost r.2 l.boost r.1 up 0 0 false 0)
  | .boost centre best width up tried off second first =>
    let stay (o : Nat) (sd : Bool) (f : Nat) (tap : Nat) : Lane :=
      trainAt l { l.goal with tap := tap } (.boost centre best width up tried o sd f)
    if ok && decide (off < 63) then
      let o := off + 1
      stay o second first (if second then (centre + 64 - o) % 64 else (centre + o) % 64)
    else if !second then stay 1 true off ((centre + 63) % 64)
    else
      -- The width of a phase sweep is at most its 64 positions.
      let w := min 64 (first + (off - 1))
      if width < w then
        let next := if up then l.boost + 1 else l.boost - 1
        if (up && decide (15 ≤ l.boost)) || (!up && decide (l.boost = 0)) then sweepFinal l centre l.boost
        else trainAt l { l.goal with tap := centre, boost := next } (.boost centre l.boost w up (tried + 1) 0 false 0)
      else if up && tried = 0 && decide (0 < best) then
        trainAt l { l.goal with tap := centre, boost := best - 1 } (.boost centre best width false 0 0 false 0)
      else sweepFinal l centre best
  | .slicerUp origin at_ =>
    if ok && decide (at_ < 31) then trainAt l { l.goal with slicer := at_ + 1 } (.slicerUp origin (at_ + 1))
    else
      let v := max (-31) (origin - 1)
      trainAt l { l.goal with slicer := v } (.slicerDown origin (if ok then at_ else at_ - 1) v)
  | .slicerDown origin hi at_ =>
    if ok && decide (-31 < at_) then trainAt l { l.goal with slicer := at_ - 1 } (.slicerDown origin hi (at_ - 1))
    else
      let lo := if ok then at_ else at_ + 1
      let mid := (hi + lo) / 2
      trainAt { l with margin := (min (hi - mid) (mid - lo)).toNat } { l.goal with slicer := mid } .settle

/-- R262, R265: what the end of a training window, with this many bit errors, does to a lane. While a setting is still on
its way, one step a window, nothing is measured. -/
def trainWindow (maxWait : Nat) (errors : Nat) (l0 : Lane) : Lane :=
  let ok := decide (errors = 0)
  let l := { l0 with windows := l0.windows + 1, clean := ok }
  match l0.train with
  | none => l0
  | some t =>
    if 1536 ≤ l.windows then trainEnd (if t == .settle then l else { l with margin := if l.margin < 6 then l.margin else 0 })
    else
      match t with
      | .lock w => if maxWait ≤ w + 1 then trainEnd { l with eye := 0, margin := 0 } else { l with train := some (.lock (w + 1)) }
      | t => if atGoal l then trainMeasure ok l t else laneStep l

/-! ### Bring-up (R275, R276, R823) -/

/-- R275, step 1: the timing lane runs, with IDLE (R221), and every lane is to be trained. -/
def startBringup (n : Nat) (s : State) : State :=
  let t := modSeg n (fun p => { p with
    st := .linking, bring := .train, rot := .idle, regQ := [], regOut := [], rxSeq := none, apply := false
    tx := { p.tx with on := true }, lanes := vmap trainBegin p.lanes }) s
  { t with line := { t.line with linkDue := true } }

/-- R275, step 4: stripes 0 to 2 on digitizer lanes 0 to 2, passed lanes being used in place of failed ones. -/
def assignLanes (n : Nat) (s : State) : State :=
  let map := ((dSegment? s n).map DSegment.laneMap).getD 0xE4
  let dev := (List.range 4).map fun m => bits map (2 * m) 2
  let good := dev.filter fun x => (lane s n x).passed
  let bad := dev.filter fun x => !(lane s n x).passed
  -- Digitizer lanes 0 to 2 in place, a failed one replaced by the passed lane 3.
  let data := ((dev.take 3).map fun x => if (lane s n x).passed then x else dev.getD 3 0)
  let t := data.zipIdx.foldl (fun u xk => modLane n xk.1 (fun l => { l with role := .data, stripe := xk.2, aligned := false }) u) s
  let u := (good.filter fun x => !data.contains x).foldl (fun u x => modLane n x (fun l => { l with role := .spare, stripe := 0 }) u) t
  bad.foldl (fun u x => modLane n x (fun l => { l with role := .training, stripe := 0 }) u) u

/-- R275, step 4, R276: all four lanes have been trained. -/
def bringTrained (n : Nat) (s : State) : State :=
  let passed := ((List.range 4).filter fun x => (lane s n x).passed).length
  if passed < 3 then portFail n 6 s
  else laneControl n (modSeg n (fun p => { p with bring := .align }) (assignLanes n s))

/-- R275, step 5: the identity registers are read. -/
def bringIdentify (n : Nat) (s : State) : State :=
  regAsk n ([0x0000, 0x0004, 0x0008].map fun a => { write := false, addr := a, data := 0, use := .bring })
    (modSeg n (fun p => { p with bring := .identify }) s)

/-- R276: the cause for which the digitizer is refused. -/
def digitizerCause (d : DSegment) (dual : Bool) (p : PortU) : Option Nat :=
  if d.digId != 0 && d.digId != p.digId % 65536 then some 4
  else if bits p.digVersion 0 8 != 1 || decide (d.clkDiv < bits p.digCaps 8 5) ||
      decide (8 * bits p.digCaps 16 16 < d.pixels) || (dual && !bit p.digCaps 0) then some 5
  else none

/-- R275, step 6. -/
def bringSetup (n : Nat) (d : DSegment) (s : State) : State :=
  let sp := segPar s n
  regAsk n ([(0x0014, d.clkDiv), (0x0018, d.pixels), (0x001C, d.overhead), (0x0020, expL d sp), (0x0024, expS d sp)].map
      fun a => { write := true, addr := a.1, data := a.2, use := .bring })
    (modSeg n (fun p => { p with bring := .setup }) s)

/-- R275, step 7, R749: the digitizer's grant is asked for; RUN is written once it is given. -/
def askDigitizer (n : Nat) (s : State) : State :=
  match dSegment? s n with
  | none => s
  | some d =>
    let a := askGrant (.port n) .digitizer [(d.budget, d.digMw)] 11000000 s
    if a.1 then
      regAsk n [{ write := true, addr := 0x0010, data := 1, use := .run }]
        (unwaitGrant (.port n) .digitizer (modSeg n (fun p => { p with bring := .settle s.localNs }) a.2))
    else waitGrant (.port n) .digitizer (modSeg n (fun p => { p with bring := .grant }) a.2)

/-- R275: the bring-up goes on once the accesses of its present step have been answered. -/
def bringNext (n : Nat) (s : State) : State :=
  let p := sport s n
  match dSegment? s n, p.bring with
  | some d, .identify =>
    if regBusy p .bring then s
    else
      match digitizerCause d (match s.decl with | some x => x.geometry.dual | none => false) p with
      | some c => portFail n c s
      | none => bringSetup n d s
  | some _, .setup => if regBusy p .bring then s else askDigitizer n s
  | _, _ => s

/-- DIGITIZER_RUN_SETTLE (R275, step 8). -/
def execDigitizerRunSettle (n : Nat) (s : State) : Host.Outcome State Fault Refusal :=
  settled (match (sport s n).bring with
    | .settle t0 =>
      if decide (t0 + 10000000 ≤ s.localNs) && fwRunning s then
        let spare := (spareLane (sport s n)).isSome
        checkLinkReady (modSeg n (fun p => { p with
          bring := .none, st := if spare then .up else .degraded, rotEnded := s.localNs
          apply := p.apply || p.expNext != p.expForce })
          (returnGrants (.port n) s))
      else s
    | _ => s)

/-- R244, R246: lane `x`, in DATA or COPY, has received a SOP in the same slot as the stripe lanes, once the skew of at most 16
code groups between them has been removed. -/
def sopTogether (p : PortU) (slots : List (Option Nat)) (x : Nat) : Bool :=
  let coded := (vget p.lanes x).role == .data || (vget p.lanes x).role == .copy
  coded && match slots.getD x none with
  | none => false
  | some k => (List.range 4).all fun y => (vget p.lanes y).role != .data ||
      match slots.getD y none with
      | some j => decide (k ≤ j + 16 ∧ j ≤ k + 16)
      | none => false

/-- SOP_ALIGNED (R244, R275): `sops` gives the slot of the first SOP on each device lane since the roles last changed. A lane
that has entered DATA or COPY is taken as carrying its stripe; at bring-up the identity registers are then read. -/
def execSopAligned (sops : Sops) (s : State) : Host.Outcome State Fault Refusal :=
  let n := sops.port
  settled (
    if !rootClks s || (sport s n).st == .off then s
    else
      let t := modSeg n (fun p => { p with
        lanes := vmapIdx (fun x l => { l with aligned := l.aligned || sopTogether p sops.slots x }) p.lanes }) s
      let all := (List.range 4).all fun x => (lane t n x).role != .data || (lane t n x).aligned
      match (sport t n).bring with
      | .align => if fwRunning t && all then bringIdentify n t else t
      | _ => t)

/-! ### Registers (R281, R286) -/

/-- R284: what a write answered leaves in the digitizer: E_L and E_S, in force at once while RUN is 0. -/
def noteWrite (a : RegAcc) (p : PortU) : PortU :=
  let next : Nat × Nat := if a.addr = 0x0020 then (a.data, p.expNext.2) else if a.addr = 0x0024 then (p.expNext.1, a.data)
    else p.expNext
  let run := if a.addr = 0x0010 then bit a.data 0 else p.digRun
  { p with expNext := next, digRun := run, expForce := if p.digRun && run then p.expForce else next }

/-- What a reply's data does. -/
def regApply (n : Nat) (a : RegAcc) (data : Nat) (s : State) : State :=
  if a.write then
    let t := modSeg n (noteWrite a) s
    bringNext n (if a.use == .shape && !regBusy (sport t n) .shape then modSeg n (fun p => { p with apply := true }) t else t)
  else
    match a.use with
    | .bring =>
      bringNext n (modSeg n (fun p =>
        if a.addr = 0 then { p with digId := data }
        else if a.addr = 4 then { p with digVersion := data }
        else { p with digCaps := data }) s)
    | .poll =>
      let t := modSeg n (fun p => { p with
        digStatus := data
        counts := { p.counts with
          findings := p.counts.findings + (if bit data 1 then 1 else 0) + (if bit data 2 then 1 else 0) } }) s
      let u := if data = 0 then t else regAsk n [{ write := true, addr := 0x0030, data := data, use := .clear }] t
      if bit data 5 || bit data 6 then linkError n 7 u else u
    | _ => s

/-! ### Packets on the stripe lanes (R217, R218, R220, R244 to R246, R255) -/

/-- R217: LANE_INVERT swaps the polarity of this device lane. -/
def laneInverted (s : State) (n x : Nat) : Bool := match dSegment? s n with
  | some d => bit d.laneInvert x
  | none => false

/-- A packet put together from its stripes. -/
structure Joined where
  bytes : List Byte
  /-- A code error, or no well-formed framing, on some stripe (R220, R245). -/
  err : Bool
  /-- Closed with ABORT (R255). -/
  abort : Bool
  deriving DecidableEq, Repr, Inhabited

/-- The device lane that stripe `k` is taken from: its DATA lane, or with `copy` the COPY lane of a rotation's step 3; none until
an aligned SOP has come (R244). -/
def stripeLane (p : PortU) (copy : Bool) (k : Nat) : Option Nat :=
  (List.range 4).find? fun x =>
    let l := vget p.lanes x
    let stands := copy && match p.rot with
      | .comparing a b => (vget p.lanes b).stripe == k && (vget p.lanes a).aligned
      | _ => false
    l.role == (if stands then .copy else .data) && l.stripe == k && l.aligned

/-- What one lane received from its SOP on, decoded (R217, R218, R220). -/
def laneSyms (s : State) (n x : Nat) (r : LaneRx) : List (Option Sym) :=
  symsOf dataLaneSyms r.pos (if laneInverted s n x then r.groups.map (~~~ ·) else r.groups)

/-- R245: SOP, data bytes, and END or ABORT. -/
def framed (l : List (Option Sym)) : Bool :=
  l.head? == some (some symSop) && (l.getLast? == some (some symEnd) || l.getLast? == some (some symAbort)) &&
    ((l.drop 1).dropLast.all fun y => match y with | some z => !z.k | none => false)

/-- What the device lanes received, lane by lane: the slot of the SOP, the running disparity before it, and the code groups. -/
def laneRxs (slots : List Nat) (pos : List Bool) (groups : List (List CodeGroup)) : List LaneRx :=
  List.zipWith (fun k x => { slot := k, pos := x.1, groups := x.2 }) slots (pos.zip groups)

/-- What every lane received, taken apart by `slot`, `pos` and `groups`, is put together again. -/
theorem laneRxs_eq (rx : List LaneRx) : laneRxs (rx.map (·.slot)) (rx.map (·.pos)) (rx.map (·.groups)) = rx := by
  induction rx with
  | nil => rfl
  | cons _ _ ih => exact congrArg (_ :: ·) ih

/-- R245, R246: a packet from what the device lanes received: byte i is the ⌊i / 3⌋-th after the SOP of stripe i mod 3. None while
a stripe has no lane. -/
def joinPacket (s : State) (n : Nat) (copy : Bool) (rx : List LaneRx) : Option Joined :=
  let p := sport s n
  match stripeLane p copy 0, stripeLane p copy 1, stripeLane p copy 2 with
  | some x, some y, some z =>
    let on (v : Nat) : LaneRx := rx.getD v default
    let strips := [x, y, z].map fun v => laneSyms s n v (on v)
    let slots := [x, y, z].map fun v => (on v).slot
    let body := strips.map fun l => (l.drop 1).dropLast.map fun y => match y with | some q => q.byte | none => 0#8
    let len := (body.map List.length).foldl min ((body.headD []).length)
    some {
      bytes := (List.range (3 * len)).map fun i => (body.getD (i % 3) []).getD (i / 3) 0#8
      err := !strips.all framed || (strips.map List.length).eraseDups.length != 1 ||
        decide (slots.foldl min (slots.headD 0) + 16 < slots.foldl max 0)
      abort := strips.any fun l => l.getLast? == some (some symAbort) }
  | _, _, _ => none

/-- R252: CRC covers header and payload. -/
def packetCrc (bytes : List Byte) : Bool :=
  decide (30 ≤ bytes.length) && crc32 (bytes.take (bytes.length - 6)) == w32 (uAt bytes (bytes.length - 6) 4)

/-- Header, payload and trailer have come whole and correct. -/
def Joined.whole (j : Joined) : Bool := !j.err && !j.abort && packetCrc j.bytes

/-- R248, R257: SEQ expected after a packet that is not whole, whose own SEQ cannot be trusted: one further (log 95). -/
def seqBroken (p : PortU) : Option Nat := p.rxSeq.map fun e => (e + 1) % 65536

/-- R248, R257: SEQ expected after a packet. -/
def seqAfter (j : Joined) (p : PortU) : Option Nat :=
  if j.whole then some ((uAt j.bytes 12 2 + 1) % 65536) else seqBroken p

/-- R251, R281: a register reply: the access with its TAG is complete. -/
def regReply (n : Nat) (rx : List LaneRx) (s : State) : State :=
  -- R270: a packet whole on the COPY lane stands in for one that is not.
  match (joinPacket s n false rx).map fun j => if j.whole then j else (joinPacket s n true rx).getD j with
  | none => modSeg n (fun p => { p with rxSeq := seqBroken p }) s
  | some j =>
    let t := modSeg n (fun p => { p with rxSeq := seqAfter j p }) s
    if !j.whole || j.bytes.length != 42 || uAt j.bytes 0 1 != 2 then t
    else
      match (sport t n).regOut.find? fun o => o.tag == uAt j.bytes 24 1 with
      | none => t
      | some o =>
        regApply n o.acc (uAt j.bytes 28 4)
          (regPump n (modSeg n (fun p => { p with regOut := p.regOut.filter fun x => x.tag != o.tag }) t))

/-- R276, R281: no reply within 100 µs: sent again up to three more times; then the access fails, and with it the port. -/
def regTimeout (n : Nat) (s : State) : State :=
  match (sport s n).regOut.find? fun o => decide (o.sentAt + 100000 ≤ s.localNs) with
  | none => s
  | some o =>
    if o.tries < 4 then
      regWire n o (modSeg n (fun p => { p with regOut := p.regOut.map fun x =>
        if x.tag = o.tag then { x with tries := x.tries + 1, sentAt := s.localNs } else x }) s)
    else portFail n 3 s

/-! ### Rotation and failover (R268 to R273) -/

/-- A lane in training outside step 3 of bring-up ends with success: it becomes the spare. A port that is still LINKING takes its
state at the bring-up's end (R275). -/
def laneRestored (n x : Nat) (s : State) : State :=
  let was := (sport s n).st
  let t := laneControl n (modLane n x (fun l => { l with role := .spare, stripe := 0 })
    (modSeg n (fun p => { p with
      st := if p.st == .linking then .linking else .up, rot := .idle, rotEnded := s.localNs }) s))
  if was == .degraded then laneEvent n x 5 t else t

/-- R270: a lane fails its training: no spare. -/
def laneUnfit (n x : Nat) (s : State) : State :=
  laneEvent n x 3 (modSeg n (fun p => { p with
    st := if p.st == .linking then .linking else .degraded, rot := .idle, rotEnded := s.localNs }) s)

/-- R273: one step of a CAL.LANES RECAL has run. -/
def recalStep (n : Nat) (s : State) : State :=
  let p := sport s n
  if p.recal = 0 then s
  else
    let t := modSeg n (fun p => { p with recal := p.recal - 1 }) s
    if p.recal = 1 then endBusy (Busy.isLanes n) stOk 0 [] t else t

/-- A lane's training has ended. -/
def trainingEnded (n x : Nat) (s : State) : State :=
  let k := (sport s n).trainings
  let t := modLane n x (fun l => { l with trainedAt := k + 1 }) (modSeg n (fun p => { p with trainings := k + 1 }) s)
  match (sport t n).bring with
  | .train =>
    if (List.range 4).all fun y => (lane t n y).train.isNone then bringTrained n t else t
  | b =>
    -- R823, R278: after a control reset a LINKING port takes no further step, and a FAILED one only in a bring-up.
    if b == .none && !portUp (sport t n) then t else
    let step := match (sport t n).rot with | .training y => x == y | _ => false
    let u := if (lane t n x).passed then laneRestored n x t else laneUnfit n x t
    if step then recalStep n u else u

/-- R217: what the PRBS-7 checker of a lane receives. -/
def prbsRx (s : State) (n x : Nat) (bits : List Bool) : List Bool := if laneInverted s n x then bits.map (!·) else bits

/-- TRAINING_WINDOW (R239, R265): the bit errors that the PRBS-7 checker counts in the window. It must lock within 2 windows on a
rotated lane (R268), and within the 200 µs of the digitizer's clock lock at bring-up (R275). -/
def execTrainingWindow (n x : Nat) (rx : PrbsRx) (s : State) : Host.Outcome State Fault Refusal :=
  settled (
    if (lane s n x).train.isNone || (sport s n).st == .off || !rootClks s then s
    else
      let wait := match (sport s n).bring with | .train => 34 | _ => 2
      let t := modLane n x (trainWindow wait (prbsErrors rx.reg (prbsRx s n x rx.bits))) s
      if (lane t n x).train.isNone then trainingEnded n x t else t)

/-- PRBS_LOCK (R239, R268, R275): the checker locks on the bits a lane receives, and the lane's training begins with the phase
sweep. -/
def execPrbsLock (n : Nat) (rx : LaneBits) (s : State) : Host.Outcome State Fault Refusal :=
  settled (match (lane s n rx.ln).train with
    | some (.lock _) =>
      if rootClks s && (sport s n).st != .off && prbsLocks (prbsRx s n rx.ln rx.bits) then
        modLane n rx.ln (fun l => { l with train := some (.sweep false l.tap []) }) s
      else s
    | _ => s)

/-- PHASE_TRACK_WINDOW (R263): TAP moves one step when one side leads by more than 64. -/
def execPhaseTrackWindow (n x early late : Nat) (s : State) : Host.Outcome State Fault Refusal :=
  let p := sport s n
  let l := vget p.lanes x
  settled (
    if !p.track || p.frozen || l.role == .training || p.st == .off || !rootClks s then s
    else if late + 64 < early then modLane n x (fun l => { l with tap := (l.tap + 63) % 64 }) s
    else if early + 64 < late then modLane n x (fun l => { l with tap := (l.tap + 1) % 64 }) s
    else s)

/-- R268: the DATA lane whose last training is oldest. -/
def oldestData (p : PortU) : Option Nat :=
  (List.range 4).foldl (fun best x =>
    if (vget p.lanes x).role == .data then
      match best with
      | some y => if (vget p.lanes x).trainedAt < (vget p.lanes y).trainedAt then some x else some y
      | none => some x
    else best) none

/-- ROTATE_INTERVAL (R268, R270): a step begins, or a lane unfit to be the spare is trained again. -/
def execRotateInterval (n : Nat) (s : State) : Host.Outcome State Fault Refusal :=
  let p := sport s n
  let ms := s.cal.par.rotateMs
  let due := decide (0 < p.recal) || (ms != 0 && decide (p.rotEnded + ms * 1000000 ≤ s.localNs))
  settled (
    if p.frozen || !due || p.rot != .idle || !rootClks s then s
    else if p.st == .up then
      match spareLane p, oldestData p with
      | some a, some b =>
        laneControl n (modLane n a (fun l => { l with role := .copy, stripe := (vget p.lanes b).stripe, aligned := false })
          (modSeg n (fun p => { p with rot := .comparing a b }) s))
      | _, _ => s
    else if p.st == .degraded then
      match (List.range 4).find? fun x => (vget p.lanes x).role == .training && (vget p.lanes x).train.isNone with
      | some x => modLane n x trainBegin (modSeg n (fun p => { p with rot := .training x }) s)
      | none => s
    else s)

/-- R268, step 4: the stripe is taken from S, and X goes to training. -/
def takeOver (n a b : Nat) (s : State) : State :=
  let k := (lane s n b).stripe
  laneControl n (modLane n b trainBegin (modLane n a (fun l => { l with role := .data, stripe := k })
    (modSeg n (fun p => { p with rot := .training b }) s)))

/-- R270: the copy differs: S returns to TRAINING and is trained. -/
def copyMismatch (n a : Nat) (s : State) : State :=
  laneEvent n a 2 (laneControl n (modLane n a trainBegin (modSeg n (fun p => { p with rot := .training a }) s)))

/-- COPY_COMPARE_END (R268, R270): the comparison of S, once aligned, with X: packets and code groups compared, code groups that
differed, and code errors on S. It ends well after 64 packets, or 17,280 code groups when no packets flow. -/
def execCopyCompareEnd (n : Nat) (got : CopyCompare) (s : State) : Host.Outcome State Fault Refusal :=
  settled (match (sport s n).rot with
    | .comparing a b =>
      if !rootClks s || !(lane s n a).aligned then s
      else if got.differ != 0 || got.errors != 0 then copyMismatch n a s
      else if 64 ≤ got.packets || (got.packets = 0 && decide (17280 ≤ got.groups)) then takeOver n a b s
      else s
    | _ => s)

/-- R270: X is lost in step 3: packets that were whole and correct on S stand in for those of X. -/
def copyStands (n : Nat) (s : State) : State :=
  { s with caps := s.caps.map fun c => { c with segs := c.segs.map fun x =>
      if x.seg = n then { x with readouts := x.readouts.map fun r => { r with onCopy := false } } else x } }

/-- R271: a lost DATA lane's stripe goes to the spare, or to a training lane whose last window was clean; or the port
fails. -/
def failover (n x : Nat) (s : State) : State :=
  let p := sport s n
  let k := (vget p.lanes x).stripe
  let heir := match spareLane p with
    | some y => some y
    | none => (List.range 4).find? fun y => (vget p.lanes y).role == .training && (vget p.lanes y).clean && y != x
  match heir with
  | some y =>
    laneEvent n x 1 (laneControl n (modLane n x trainBegin
      (modLane n y (fun l => { l with role := .data, stripe := k, train := none, aligned := false })
        (modSeg n (fun p => { p with rot := .training x }) s))))
  | none => portFail n 2 s

/-- R267, R270, R271: one lane is lost. -/
def laneLost (n x : Nat) (s : State) : State :=
  match (lane s n x).role with
  | .training => s
  | .spare => laneEvent n x 4 (laneControl n (modLane n x trainBegin (modSeg n (fun p => { p with rot := .training x }) s)))
  | .copy => copyMismatch n x s
  | .data =>
    match (sport s n).rot with
    | .comparing a b => if x = b then laneEvent n b 1 (takeOver n a b (copyStands n s)) else failover n x s
    | _ => failover n x s

/-- R267: a lane is lost by what it received over the last window of 1,024 code groups. -/
def laneIsLost (s : State) (n x : Nat) (w : LaneWatch) : Bool :=
  let errs := codeErrors dataLaneSyms w.pos (if laneInverted s n x then w.groups.map (~~~ ·) else w.groups)
  match (lane s n x).role with
  | .data => decide (4 ≤ errs) || decide (8192 ≤ w.silent)
  | .copy => decide (4 ≤ errs)
  | .spare => decide (16 ≤ prbsErrors w.prbs.reg (prbsRx s n x w.prbs.bits))
  | .training => false

/-- Lanes of a port hold roles given by a lane-control sequence: it is UP or DEGRADED, or its bring-up has passed step 4
(R274, R275). -/
def rolesHeld (p : PortU) : Bool :=
  portUp p || (p.st == .linking && (match p.bring with | .none => false | .train => false | _ => true))

/-- LANE_LOST (R267, R271, R278): what each device lane received over one window; those it loses are lost within that window. -/
def execLaneLost (n : Nat) (rx : List LaneWatch) (s : State) : Host.Outcome State Fault Refusal :=
  let p := sport s n
  let coded := (List.range 4).filter fun x => (vget p.lanes x).role == .data || (vget p.lanes x).role == .copy
  let gone (x : Nat) : Bool := laneIsLost s n x (rx.getD x default)
  settled (
    if !rolesHeld p || !rootClks s then s
    else if coded.all gone then
      let t := portFail n 1 s
      if p.retried || !fwRunning s then t else startBringup n (modSeg n (fun p => { p with retried := true }) t)
    else
      (List.range 4).foldl (fun t x => if gone x && rolesHeld (sport t n) then laneLost n x t else t) s)

/-- CAL.LANES (R273, R185). -/
def vCalLanes (c : Cmd) (s : State) : Ans × State :=
  let n := objIdx c.req.obj
  let p := sport s n
  checked [objIs [kSegment] c s, modsIn 3 c, noPayload c, declared s] s <|
    match modField c 0 2 with
    | 0 =>
      done ((List.range 4).flatMap fun x =>
        let l := vget p.lanes x
        [b8 l.tap, b8 l.boost] ++ leInt 1 l.slicer ++ [b8 (roleCode l.role)]) s
    | 1 =>
      let t := modSeg n (fun p => { p with recal := 4, retried := false }) s
      let u := if p.st == .failed then modSeg n (fun p => { p with recal := 4 }) (startBringup n t) else t
      (.wait (.lanes n), u)
    | 2 => done [] (modSeg n (fun p => { p with frozen := true }) s)
    | _ => done [] (modSeg n (fun p => { p with frozen := false }) s)

/-! ### Integrity (R261, R286) -/

/-- R289: RPT.LINE_INTEGRITY of a port. -/
def integrityReport (n : Nat) (s : State) : State :=
  let c := (sport s n).counts
  let sat (v : Nat) : Nat := min v 65535
  if c == {} && s.line.overruns == 0 then s
  else
    fwReport 0x0022 [n, s.line.winFirst, sat c.short + 65536 * sat c.long, sat c.missing + 65536 * sat c.bubble,
      sat c.stale + 65536 * sat c.findings, sat s.line.overruns] s

/-- INTEGRITY_WINDOW_END (R261, R286): the reports, and a read of DIG_STATUS on each running port. -/
def execIntegrityWindowEnd (s : State) : Host.Outcome State Fault Refusal :=
  settled (
    if s.line.winLines < 1024 then s
    else
      let t := (segNumbers s).foldl (fun u n =>
        let v := modSeg n (fun p => { p with counts := {} }) (integrityReport n u)
        if portUp (sport v n) then regAsk n [{ write := false, addr := 0x0030, data := 0, use := .poll }] v else v) s
      { t with line := { t.line with winLines := 0, overruns := 0 } })

end Sys2Proof.Machine
end

