-- ==== Sys2Proof/Machine/Capture.lean ====
section
/-! DEFINITION. Lines started and taken in: triggers and their admission (R178, R234, R397 to R400, R568, R572, R778, R824),
line starts (R228 to R237), placement moves (R361), data packets (R245 to R259), readout deadlines and disposition (R256 to
R260, R300 to R304), and the rows LINE_TRIGGER, ENCODER_POSITION_LATCH, CALIBRATION_LINE_TIMER, DATA_PACKET_RECEIVED,
READOUT_DEADLINE, ACHROMAT_FORM_LINE, REGISTER_REPLY_RECEIVED and REGISTER_SEQUENCE_TIMEOUT. -/

namespace Sys2Proof.Machine

/-! ### Grid indices and lines -/

/-- R397: the output lines to be claimed for grid index `i`: those from the next unclaimed one that meet
Y_n + O_max ≤ G_i + CAPTURE_PITCH, none beyond LINE_COUNT. -/
def claimsFor (d : Decl) (s : State) (i : Nat) : List Nat :=
  let n := s.deliv.claim
  let room := gridUnits d s i + (gridPitch s : Nat) - oMax d - outPos d s n
  let k := if room < 0 then 0 else (room / (max 1 d.geometry.outPitch : Nat)).toNat + 1
  let k := if s.line.lineCount = 0 then k else min k (s.line.lineCount - n)
  (List.range k).map fun j => n + j

/-- R395: output line n occupies slot n mod R, which an earlier line may still hold. -/
def slotHeld (d : Decl) (s : State) (n : Nat) : Bool :=
  (s.deliv.old ++ s.deliv.slots).any fun x => x.n % max 1 (ringSlots d) == n % max 1 (ringSlots d)

def claimSlots (l : List Nat) (s : State) : State :=
  modDeliv (fun u => { u with
    slots := u.slots ++ l.map fun n => { n := n, num := outNumber s n, st := .claimed, line := none, owed := [], later := 0 }
    claim := u.claim + l.length }) s

/-! ### Line starts (R228 to R237) -/

def ceilNs (q : Rat) : Nat := q.ceil.toNat

/-- R233: readout slots of a line start. -/
def slotCount (expSet : Nat) : Nat := if expSet = 3 then 2 else 1

/-- R235: pixel clocks from the instant of R230 to the end of slot 0, and of slot 1. -/
def slotEnd (g : DSegment) (p : SegPar) (expSet : Nat) (slot : Nat) : Nat :=
  if expSet = 1 then expL g p + nRd g
  else if slot = 0 then expS g p + nRd g
  else expS g p + 2 * nRd g

/-- R235: pixel clocks from that instant to the end of the last integration. -/
def lastIntegration (g : DSegment) (p : SegPar) (expSet : Nat) : Nat :=
  if expSet = 1 then expL g p else if expSet = 2 then expS g p else expS g p + nRd g

/-- R237: C in pixel clocks, doubled. -/
def latchClocks2 (g : DSegment) (p : SegPar) (expSet : Nat) : Nat :=
  if expSet = 1 then expL g p else if expSet = 2 then expS g p else 2 * expS g p + 2 * nRd g - expL g p

/-- R237: the cycle of the 48 MHz timebase nearest to an instant of local time, in ns. -/
def motionCycle (t : Rat) : Nat := ceilNs (((t * 48 / 1000 + 1 / 2).floor : Rat) * 1000 / 48)

/-- R256: one expected readout of a line issued at local time `t`. -/
def expectReadout (g : DSegment) (p : SegPar) (expSet t slot : Nat) : Readout :=
  { short := expSet != 1 && slot == 0
    deadline := t + 800 + ceilNs ((slotEnd g p expSet slot : Rat) * pixClkNs g) + 4000
    px := [], next := 0, any := false, bad := false, onCopy := false, closed := false, overs := false, cls := none }

def expectSeg (d : Decl) (par : LinePar) (expSet t n : Nat) : SegLine :=
  let g := d.segments.getD n default
  { seg := n, readouts := (List.range (slotCount expSet)).map (expectReadout g (vget par.segs n) expSet t), planes := none,
    partialMerge := false }

/-- R228: `PLAN`. -/
def planByte (expSet : Nat) (cal apply : Bool) : Byte := b8 (expSet + flag cal 2 + flag apply 3)

/-- R224, R229, R233, R284, R288: one port's copy of a line start, due in the slot that begins at `t`. -/
def sendLineStart (d : Decl) (expSet line t : Nat) (cal apply : Bool) (n : Nat) (s : State) : State :=
  let g := d.segments.getD n default
  let body := leBytes 4 line ++ [planByte expSet cal apply]
  let seq := symLs :: (body ++ [crc8 body]).map symData
  modSeg n (fun p => { p with
    tx := { p.tx with starts := p.tx.starts ++ [(slotNo t, seq)] }
    apply := false, expForce := if apply then p.expNext else p.expForce, lsFree := t + ceilNs ((slotCount expSet * nRd g : Nat) * pixClkNs g) }) s

/-- R235: the parameters of a line started now: E_L and E_S as they are in force in the digitizers at this line start. -/
def parInForce (par : LinePar) (ports : List Nat) (apply : Bool) (s : State) : LinePar :=
  { par with segs := vmapIdx (fun n p =>
      let q := sport s n
      let e := if apply then q.expNext else q.expForce
      if ports.contains n then { p with expLong := some e.1, expShort := some e.2 } else p) par.segs }

/-- R233: every port of a line start is free for one at local time `t`. -/
def portsFree (ports : List Nat) (t : Nat) (s : State) : Bool := ports.all fun n => decide ((sport s n).lsFree ≤ t)

/-- R414, R684: lines issued now carry TIME_SLEW. -/
def slewing (s : State) : Bool := (pJoined s && !pAligned s) || s.prism.orphan || s.time.left != 0

/-- R201, R352: the shift in force of each segment. -/
def shiftsNow (d : Decl) (s : State) : List Int :=
  (List.range d.segments.length).map fun n => if d.geometry.nativeOnly then 0 else (vget s.achr.place n).shift

/-- R228 to R237, R483: a line is issued at local time `t`: the line mark, the line start on every port, and what is
expected of it. -/
def issueLine (d : Decl) (cal : Bool) (index line expSet : Nat) (par : LinePar) (bank : Nat) (ports : List Nat) (t : Nat)
    (mon : List Mon) (s : State) : State :=
  let u := lineMark mon t s
  let apply := ports.any fun n => (sport u n).apply
  let par := parInForce par ports apply u
  let pts : List (DSegment × SegPar) := ports.map fun n => (d.segments.getD n default, vget par.segs n)
  let ends := pts.map fun x => (lastIntegration x.1 x.2 expSet : Rat) * pixClkNs x.1
  let c : Rat := match refSegment? u with
    | some (n, g) => (latchClocks2 g (vget par.segs n) expSet : Rat) * pixClkNs g / 2
    | none => 0
  let cap : Capture :=
    { cal := cal, index := index, line := line, expSet := expSet, issueNs := sysNs u + (t - u.localNs), issueLocal := t
      mirror := u.achr.mirror.sel, pos := none, latchAt := motionCycle (((t + 800 : Nat) : Rat) + c), bank := bank, par := par
      epoch := u.line.epoch.toNat
      speed := speedByte u, timeSlew := slewing u, intEnd := t + 800 + ceilNs (ends.foldl max 0)
      faultStrings := faultStrings u, shifts := shiftsNow d u, apply := apply
      segs := ports.map (expectSeg d par expSet t), gap := 0, done := false }
  let u := ports.foldl (fun v n => sendLineStart d expSet line t cal apply n v) { u with caps := u.caps ++ [cap] }
  stagePump (if u.fw.deferred.isEmpty then u else ports.foldl (fun v n => regPump n v) u)

/-! ### Admission -/

/-- R185: the SHIFT of a CAL.PLACE SET takes force at the line boundary. -/
def takeSet (p : Place) : Place :=
  match p.pending with
  | some v => { p with shift := v, pending := none }
  | none => p

/-- R360, R361: at the admission of a line a released segment's shift moves one step toward its demand. -/
def movePlace (rate : Nat) (p : Place) : Place :=
  let since := p.since.map (· + 1)
  let ready := match since with | some n => decide (rate ≤ n) | none => true
  match p.demand with
  | some t =>
    if !p.frozen && ready && t != p.shift then
      { p with shift := if p.shift < t then p.shift + 1 else p.shift - 1, since := some 0 }
    else { p with since := since }
  | none => { p with since := since }

def placementMoves (d : Decl) (s : State) : State :=
  if d.geometry.nativeOnly then s
  else modAchr (fun a => { a with place := vmap (fun p => movePlace a.par.placeRate (takeSet p)) a.place }) s

/-- Admission ends under LINE.STOP with END (R174, R176): the feed stops on its ramp. -/
def stopEnd (verb : Half) (s : State) : State :=
  stopFeed (modLine (fun l => { l with admitting := false, drain := .stopEnd verb }) s)

/-- LINE.STOP with SEAM: the seam keeper stops the run, and the resume point will be held (R176). -/
def stopSeam (verb : Half) (s : State) : State :=
  beginSeam verb.toNat false (modLine (fun l => { l with drain := .stopSeam verb }) s)

/-- A trigger that is not admitted: its capture is missing with this gap cause. -/
def missCapture (i line cause : Nat) (s : State) : State :=
  let c : Capture :=
    { (default : Capture) with
      index := i, line := line, issueNs := sysNs s, issueLocal := s.localNs, bank := s.cal.active, epoch := s.line.epoch.toNat
      speed := speedByte s, gap := cause, done := true, segs := [], cal := false }
  seamWatch { s with caps := s.caps ++ [c] }

/-- R157, R159, R432: the line state at the admission of `line`: CAPTURING from the first on, and after a seam's resume;
the report of the change gives `line` as the last admitted one. -/
def admitState (line : Nat) (s : State) : State :=
  let t := modLine (fun l => { l with resuming := false, resume := none, lastAdmitted := some line }) s
  if t.deliv.seam.phase == .fwd then setLineState .capturing 0 (modSeam (fun m => { m with phase := .join }) t)
  else if t.line.st == .armed then setLineState .capturing 0 t
  else t

/-- R180: a pending LINE.RECONFIGURE with FORCE_SEAM starts a seam at the next line. -/
def forcedSeam (s : State) : Bool := s.fw.deferred.any fun d => match d.act with
  | .reconf .forceSeam _ => true
  | _ => false

/-- R824: a LINE.STOP deferred to this line. -/
def stopDue (i : Nat) (s : State) (d : Deferred) : Option StopMode := match d.act with
  | .stop m l => if namedIndex s l ≤ i then some m else none
  | _ => none

/-- R168, R824: a LINE.STOP with AT_LINE acts at the admission of grid index `i`, the last one. -/
def stopAt (i line : Nat) (s : State) : State :=
  let tree (x : StopMode × Nat) : Bool := decide (namedIndex s x.2 ≤ i)
  match (s.fw.deferred.findSome? (stopDue i s)).or ((s.line.treeStops.find? tree).map Prod.fst) with
  | none => s
  | some m =>
    let t := endDeferred (fun d => (stopDue i s d).isSome) stOk 0 line
      (modLine (fun l => { l with treeStops := l.treeStops.filter fun x => !tree x }) s)
    match m with
    | .endRun => stopEnd 0x0403 t
    | .seam => modLine (fun l => { l with admitting := false }) (stopSeam 0x0403 t)

/-- R261, R286: DIG_STATUS is read on each running port at the 960th line of a window (log 66). -/
def statusPoll (s : State) : State :=
  if s.line.winLines = 960 then
    (segNumbers s).foldl (fun t n =>
      if portUp (sport t n) then regAsk n [{ write := false, addr := 0x0030, data := 0, use := .poll }] t else t) s
  else s

/-- A trigger is admitted (R229, R361, R397, R778, R824). -/
def admitLine (d : Decl) (i line t : Nat) (overs : Bool) (mon : List Mon) (s : State) : State :=
  let ports := (segNumbers s).filter fun n => portUp (sport s n)
  let u := claimSlots (claimsFor d s i) s
  let u := admitState line (admissionBoundary i line u)
  let u := placementMoves d u
  let u := issueLine d false i line (if d.geometry.dual then 3 else 1) u.par u.cal.active ports t mon u
  let first := decide (u.line.winLines = 0)
  let u := modLine (fun l => { l with
    winLines := l.winLines + 1, winFirst := if first then line else l.winFirst }) u
  let u := statusPoll { u with live := { u.live with life := { u.live.life with lines := satInc u.live.life.lines } } }
  let u := if overs && u.deliv.seam.phase != .ramp then beginSeam 0 true u else u
  let u := if forcedSeam u && u.deliv.seam.phase == .off then beginSeam 0x0405 false u else u
  stopAt i line u

/-- The tests in order: R399, R397, R398, R400, then R234. -/
def decideTrigger (d : Decl) (i : Nat) (mon : List Mon) (s : State) : State :=
  let line := outNumber s i
  let claims := claimsFor d s i
  let overs := decide (claimLimit d s < occupancy s + claims.length) || claims.any fun n => slotHeld d s n
  let held := s.deliv.refusing && decide (s.deliv.par.lowPm * ringSlots d < occupancy s * 1000)
  if !d.system.scan && held then missCapture i line 1 s
  else if !d.system.scan && overs then
    missCapture i line 1 (hostStall 0xF 2 (modDeliv (fun u => { u with refusing := true }) s))
  else
    let s := modDeliv (fun u => { u with refusing := false }) s
    let s := if overs && s.deliv.seam.phase == .off then beginSeam 0 true s else s
    let t := issueAt s
    if portsFree ((segNumbers s).filter fun n => portUp (sport s n)) t s then admitLine d i line t overs mon s
    else missCapture i line 3 (modLine (fun l => { l with overruns := l.overruns + 1 }) s)

/-- R178, R568: the last trigger that the counted lines need has fired. -/
def countedEnd (d : Decl) (i : Nat) (s : State) : State :=
  if s.line.lineCount != 0 && (match s.line.drain with | .none => true | .stopSeam _ => true | _ => false) &&
      decide (lastNeeded d s (s.line.lineCount - 1) ≤ i) then
    stopFeed (modLine (fun l => { l with admitting := false, drain := .counted }) s)
  else s

/-- The compare has a trigger due: the count is at or above G_i of the pending index (R572). -/
def triggerDue (s : State) : Bool :=
  match s.motion.cmp.g0 with
  | some g => decide (g + (s.motion.cmp.index : Int) * (s.motion.cmp.gridPitch : Int) ≤ (encd s (feedEnc s)).count * 4294967296)
  | none => false

/-- LINE_TRIGGER (R572): the trigger of the pending index fires; while triggers are admitted, admission decides it. -/
def execLineTrigger (mon : List Mon) (s : State) : Host.Outcome State Fault Refusal :=
  settled (match s.decl with
    | none => s
    | some d =>
      if !triggerDue s || !dpClk s then s
      else
        let i := s.motion.cmp.index
        let t := modLine (fun l => { l with start := none }) (modCmp (fun c => { c with index := i + 1 }) s)
        if inRun t && t.line.admitting then countedEnd d i (decideTrigger d i mon t) else t)

/-- ENCODER_POSITION_LATCH (R237): the oldest line not yet latched whose instant has come takes the feed encoder's
count. -/
def execEncoderPositionLatch (s : State) : Host.Outcome State Fault Refusal :=
  settled (match s.caps.find? fun c => c.pos.isNone && c.gap == 0 && decide (c.latchAt ≤ s.localNs) with
    | some x => { s with caps := s.caps.map fun c =>
        if c.cal == x.cal && c.index == x.index then { c with pos := some (encd s (feedEnc s)).count } else c }
    | none => s)

/-! ### Data packets (R245 to R259) -/

/-- A packet's pixels. -/
def packetPixels (bytes : List Byte) (n : Nat) : List (Nat × Nat × Nat) :=
  (List.range n).map fun i => (uAt bytes (24 + 6 * i) 2, uAt bytes (26 + 6 * i) 2, uAt bytes (28 + 6 * i) 2)

/-- R257: a packet taken into the readout it belongs to. One that comes after the deadline makes a BUBBLE of a readout, but is
none that arrived by it. -/
def takePacket (pixels : Nat) (bytes : List Byte) (bad onCopy : Bool) (now : Nat) (r : Readout) : Readout :=
  let count := uAt bytes 10 2
  let follows := uAt bytes 2 2 == r.next && uAt bytes 8 2 == r.px.length
  let sane := bytes.length == 30 + 6 * count && count % 8 == 0 && inR 8 128 count
  let px := r.px ++ packetPixels bytes count
  { r with any := r.any || decide (now ≤ r.deadline), onCopy := r.onCopy || onCopy, next := uAt bytes 2 2 + 1
           closed := r.closed || bit (uAt bytes 1 1) 2
           bad := r.bad || bad || !follows || !sane || bit (uAt bytes 14 2) 0 || decide (r.deadline < now)
           px := if sane then px else r.px, overs := r.overs || decide (pixels < px.length) }

/-- R259: the readout is one still expected for this `LINE`, `CAL` and `EXP`. -/
def expects (bytes : List Byte) (r : Readout) : Bool := r.short == bit (uAt bytes 1 1) 0 && r.cls.isNone && !r.closed
def expectsSeg (port : Nat) (bytes : List Byte) (x : SegLine) : Bool := x.seg == port && x.readouts.any (expects bytes)
def expectsCap (port : Nat) (bytes : List Byte) (c : Capture) : Bool :=
  c.cal == bit (uAt bytes 1 1) 3 && c.line == uAt bytes 4 4 && c.segs.any (expectsSeg port bytes)

/-- Segment pixels of a port. -/
def segPixels (s : State) (n : Nat) : Nat := ((dSegment? s n).map DSegment.pixels).getD 0

/-- The readout that a packet goes to is changed. -/
def modReadout (port : Nat) (bytes : List Byte) (f : Readout → Readout) (x : Capture) (s : State) : State :=
  { s with caps := s.caps.map fun c =>
      if c.cal == x.cal && c.index == x.index && expectsCap port bytes c then
        { c with segs := c.segs.map fun y =>
          if expectsSeg port bytes y then
            { y with readouts := y.readouts.map fun r => if expects bytes r then f r else r }
          else y }
      else c }

/-- R259: a stale packet is counted. -/
def stalePacket (port : Nat) (s : State) : State :=
  modSeg port (fun p => { p with counts := { p.counts with stale := p.counts.stale + 1 } }) s

/-- R245 to R259: a line-data packet, `onCopy` when it is whole by the COPY lane only (R270). -/
def dataPacket (port : Nat) (j : Joined) (onCopy : Bool) (s : State) : State :=
  let p := sport s port
  let seqOk := match p.rxSeq with | some e => e == uAt j.bytes 12 2 | none => true
  let t := modSeg port (fun p => { p with rxSeq := seqAfter j p }) s
  match t.caps.find? (expectsCap port j.bytes) with
  | some x => modReadout port j.bytes (takePacket (segPixels s port) j.bytes (!j.whole || !seqOk) onCopy s.localNs) x t
  | none => stalePacket port t

/-- R271: a packet on a port of which a stripe has no lane yet cannot be put together: the oldest readout still expected of the
port, to which it belongs, is a BUBBLE (log 95). -/
def brokenPacket (port : Nat) (s : State) : State :=
  let waits (r : Readout) : Bool := r.cls.isNone && !r.closed
  let due (c : Capture) : Bool := c.segs.any fun x => x.seg == port && x.readouts.any waits
  let first (rs : List Readout) : List Readout := match rs.findIdx? waits with
    | some k => rs.modify k fun r => { r with any := r.any || decide (s.localNs ≤ r.deadline), bad := true }
    | none => rs
  match s.caps.find? due with
  | some x => { s with caps := s.caps.map fun c =>
      if c.cal == x.cal && c.index == x.index then
        { c with segs := c.segs.map fun y => if y.seg = port then { y with readouts := first y.readouts } else y }
      else c }
  | none => s

/-- DATA_PACKET_RECEIVED (R217, R218, R244 to R246): what the device lanes received of one packet. Line data (TYPE 1) goes to its
readout; a reserved TYPE is stale (R259); register replies have their own row. -/
def execDataPacketReceived (port : Nat) (slots : List Nat) (pos : List Bool) (groups : List (List CodeGroup)) (s : State) :
    Host.Outcome State Fault Refusal :=
  let rx := laneRxs slots pos groups
  settled (
    if !rootClks s || (sport s port).st == .off || !decide (port < 24) then s
    else
      match joinPacket s port false rx with
      | none => brokenPacket port (modSeg port (fun p => { p with rxSeq := seqBroken p }) s)
      | some j =>
        let alt := if j.whole then none else (joinPacket s port true rx).filter Joined.whole
        let k := alt.getD j
        if uAt k.bytes 0 1 = 1 then dataPacket port k alt.isSome s
        else if uAt k.bytes 0 1 = 2 then s
        else stalePacket port (modSeg port (fun p => { p with rxSeq := seqAfter k p }) s))

/-! ### Classification (R256 to R258) -/

def classOfReadout (pixels : Nat) (r : Readout) : RClass :=
  if !r.any then .missing
  else if r.bad || r.onCopy || !r.closed then .bubble
  else if r.px.length < pixels then .short
  else if r.overs then .long
  else .valid

/-- R258: padded with samples of 0, or cut. -/
def fitPixels (pixels : Nat) (px : List (Nat × Nat × Nat)) : List (Nat × Nat × Nat) :=
  px.take pixels ++ List.replicate (pixels - px.length) (0, 0, 0)

def usable : RClass → Bool
  | .missing => false
  | .bubble => false
  | _ => true

def readoutUsable (r : Readout) : Bool := match r.cls with | some k => usable k | none => false

/-- R261: a class counted. -/
def countClass (k : RClass) (c : SegCounts) : SegCounts :=
  match k with
  | .short => { c with short := c.short + 1 }
  | .long => { c with long := c.long + 1 }
  | .missing => { c with missing := c.missing + 1 }
  | .bubble => { c with bubble := c.bubble + 1 }
  | .valid => c

/-- A mirror record of a segment's line at points 1 to 3 (R386, R387). -/
def segMirror (point : Nat) (c : Capture) (seg exp flags pixels : Nat) (samples : List Byte) (s : State) : State :=
  if mirrorWants c.mirror point c.index (some seg) then
    mirrorPut { point := point, seg := seg, exp := exp, flags := flag c.cal 0 + flags,
                line := if c.cal then c.line else c.index, pixels := pixels, position := c.pos.getD 0, timeNs := c.issueNs,
                samples := samples } s
  else s

/-- R386, point 1: a readout as it enters the corrections. -/
def mirrorReadout (c : Capture) (seg : Nat) (r : Readout) (k : RClass) (px : List (Nat × Nat × Nat)) (s : State) : State :=
  if usable k then
    segMirror 1 c seg (if r.short then 1 else 0) (flag (k == .short) 2 + flag (k == .long) 3) px.length
      (px.flatMap fun p => leBytes 2 p.1 ++ leBytes 2 p.2.1 ++ leBytes 2 p.2.2) s
  else s

/-- The readouts of one segment's line whose deadline has passed are classified (R257, R258, R261). -/
def classifyReadout (c : Capture) (seg : Nat) (acc : List Readout × State) (r : Readout) : List Readout × State :=
  if r.cls.isSome || decide (acc.2.localNs < r.deadline) then (acc.1 ++ [r], acc.2)
  else
    let n := segPixels acc.2 seg
    let k := classOfReadout n r
    let px := fitPixels n r.px
    let t := modSeg seg (fun p => { p with counts := countClass k p.counts }) acc.2
    let raw := r.px
    (acc.1 ++ [{ r with cls := some k, px := if usable k then px else raw }], mirrorReadout c seg r k px t)

def classifySeg (c : Capture) (acc : List SegLine × State) (x : SegLine) : List SegLine × State :=
  let r := x.readouts.foldl (classifyReadout c x.seg) ([], acc.2)
  (acc.1 ++ [{ x with readouts := r.1 }], r.2)

/-! ### Corrections of a segment's line -/

/-- What the corrections read for a segment's line. -/
def segInput (d : Decl) (s : State) (c : Capture) (x : SegLine) : SegIn :=
  let g := d.segments.getD x.seg default
  let sp := vget c.par.segs x.seg
  let pick (short : Bool) : Option (List Px) :=
    (x.readouts.find? fun r => r.short == short && readoutUsable r).map Readout.px
  { par := c.par, sp := sp, tab := vget (vget s.cal.banks c.bank).segs x.seg, n := g.pixels, ratio := ratioOf g sp,
    expSet := c.expSet, long := pick false, short := pick true }

/-- s32 samples, red, green, blue of each pixel. -/
def wSamples (n : Nat) (planes : List (List Int)) : List Byte :=
  (List.range n).flatMap fun j => planes.flatMap fun p => leInt 4 (p.getD j 0)

/-- The flags [1] to [3] of a mirror record (R387). -/
def segFlags (q : SegIn) (x : SegLine) : Nat :=
  let cls (k : RClass) : Bool := x.readouts.any fun r => r.cls == some k
  flag (mergePartial q) 1 + flag (cls .short) 2 + flag (cls .long) 3

/-- R304: a long readout lost after some of its pixels had passed the merge: the first result, whose further pixels are
free values, goes to the mirror point after the merge. -/
def firstMerge (c : Capture) (x : SegLine) (q : SegIn) (s : State) : State :=
  match x.readouts.find? fun r => !r.short && !readoutUsable r && !r.px.isEmpty with
  | some r =>
    if c.expSet == 3 && q.short.isSome && mirrorWants c.mirror 2 c.index (some x.seg) then
      let free (j : Nat) : Nat := Config.freeNat (s.freeCtr + j)
      let pad (j : Nat) : Px := (free j % 65536, free j / 65536 % 65536, free j / 4294967296 % 65536)
      let px := r.px.take q.n ++ (List.range (q.n - r.px.length)).map pad
      let q' := { q with long := some px }
      segMirror 2 c x.seg 2 (segFlags q' x - flag (mergePartial q') 1) q.n
        (wSamples q.n ((List.range 3).map fun k => (mergedPlane q' k).map Prod.fst)) { s with freeCtr := s.freeCtr + q.n }
    else s
  | none => s

/-- The merge's and the shading's records of a segment's line (R386). -/
def mirrorStages (c : Capture) (x : SegLine) (q : SegIn) (s : State) : State :=
  if !(mirrorWants c.mirror 2 c.index (some x.seg) || mirrorWants c.mirror 3 c.index (some x.seg)) then s
  else
    let fl := segFlags q x
    let t := segMirror 2 c x.seg 2 fl q.n (wSamples q.n ((List.range 3).map fun k => (mergedPlane q k).map Prod.fst))
      (firstMerge c x q s)
    segMirror 3 c x.seg 2 fl q.n (wSamples q.n ((List.range 3).map (shadedPlane q))) t

/-- Stages 2 to 8 of a segment's line (R291 to R347). -/
def correctSeg (d : Decl) (c : Capture) (acc : List SegLine × State) (x : SegLine) : List SegLine × State :=
  let q := segInput d acc.2 c x
  let t := mirrorStages c x q acc.2
  let w := (vget t.cal.banks c.bank).weights
  let planes := (List.range 3).map fun k => stage8 w d.segments x.seg k (c.shifts.getD x.seg 0) (outputPlane q k)
  (acc.1 ++ [{ x with readouts := x.readouts.map fun r => { r with px := [] }, planes := some planes, partialMerge := mergePartial q }], t)

/-- R386, point 4: the W_s columns of one capture. -/
def mirrorStitched (d : Decl) (c : Capture) (segs : List SegLine) (s : State) : State :=
  let m := c.mirror
  if !mirrorWants m 4 c.index none then s
  else
    let strip (x k : Nat) : List Nat := match segs.find? fun y => y.seg == x with
      | some y => (y.planes.getD []).getD k []
      | none => []
    let full := (List.range 3).map fun k => registered d.segments (fun x => strip x k)
    let ps := match m.seg with
      | some n => full.map fun p => (p.drop (pPos d.segments n)).take (d.segments.getD n default).pixels
      | none => full
    let px := (ps.headD []).length
    let cls (k : RClass) : Bool := segs.any fun x => x.readouts.any fun r => r.cls == some k
    mirrorPut { point := 4, seg := m.seg.getD 0xFF, exp := 2,
                flags := flag (segs.any SegLine.partialMerge) 1 + flag (cls .short) 2 + flag (cls .long) 3,
                line := c.index, pixels := px, position := c.pos.getD 0, timeNs := c.issueNs,
                samples := interleave px 2 id ps } s

/-! ### Disposition (R260) -/

/-- R260, R302: a segment's line is formed: from one usable readout under SINGLE, and from all of them under the others. -/
def segForms (policy : Nat) (x : SegLine) : Bool :=
  if policy = 1 then x.readouts.any readoutUsable else x.readouts.all readoutUsable

/-- The position is missing: some segment cannot form its line under the policy. -/
def lineLost (policy : Nat) (c : Capture) : Bool := c.segs.any fun x => !segForms policy x

/-- One capture is replaced. -/
def putCapture (c : Capture) (s : State) : State :=
  { s with caps := s.caps.map fun x => if x.cal == c.cal && x.index == c.index then c else x }

/-- A run's capture whose readouts have all been classified (R260, R302, R347). -/
def disposeRun (d : Decl) (c : Capture) (s : State) : State :=
  if lineLost (bubblePolicy d) c then
    seamWatch (putCapture { c with gap := 2, done := true, segs := c.segs.map fun x =>
      { x with readouts := x.readouts.map fun r => { r with px := [] } } } s)
  else
    let r := c.segs.foldl (correctSeg d c) ([], s)
    putCapture { c with segs := r.1, done := true } (mirrorStitched d c r.1 r.2)

/-! ### Calibration lines (R331 to R334) -/

/-- R332: a calibration line's contribution of one segment and exposure. -/
def calPlane (white : Bool) (q : SegIn) (short : Bool) : List Int :=
  (List.range q.n).flatMap fun j => (List.range 3).map fun k =>
    if white then (((stage4 q j k).getD (0, false)).1 + 8) / 16
    else match (if short then q.short else q.long) with
      | some l => (linOf q l j k : Int)
      | none => 0

def addSums (a b : List Int) : List Int := if a.isEmpty then b else (a.zip b).map fun p => p.1 + p.2

def addCal (seg : Nat) (short : Bool) (v : List Int) (l : List CalSums) : List CalSums :=
  if l.any fun x => x.seg == seg && x.short == short then
    l.map fun x => if x.seg == seg && x.short == short then { x with sums := addSums x.sums v } else x
  else l ++ [{ seg := seg, short := short, sums := v }]

/-- R332: what a counted line adds, for the ports still calibrated. -/
def calAdd (d : Decl) (s : State) (r : CalRun) (c : Capture) (l : List CalSums) (x : SegLine) : List CalSums :=
  let q := segInput d s c x
  if !r.segs.contains x.seg then l
  else if r.white then addCal x.seg false (calPlane true q false) l
  else
    let l := if r.expSet != 2 then addCal x.seg false (calPlane false q false) l else l
    if r.expSet != 1 then addCal x.seg true (calPlane false q true) l else l

/-- R332, R334: a calibration line whose readouts have all been classified leaves the stages, and counts when every one is
VALID. -/
def disposeCal (d : Decl) (c : Capture) (s : State) : State :=
  let valid := c.segs.all fun x => x.readouts.all fun r => r.cls == some .valid
  let t := (c.segs.filter (segForms (bubblePolicy d))).foldl (fun u x => mirrorStages c x (segInput d u c x) u) s
  let t := { t with caps := t.caps.filter fun x => !(x.cal && x.index == c.index) }
  calAccumulated (match t.cal.run with
    | some r =>
      if valid && r.accumulating && calOwn r c then
        { t with cal := { t.cal with run := some { r with counted := r.counted + 1, sums := c.segs.foldl (calAdd d t r c) r.sums } } }
      else t
    | none => t)

/-- The captures whose last readout has been classified are disposed of. -/
def disposeOne (d : Decl) (c : Capture) (s : State) : State :=
  if c.done || !c.segs.all (fun x => x.readouts.all fun r => r.cls.isSome) then s
  else if c.cal then disposeCal d c s
  else disposeRun d c s

/-- One capture at a deadline: readouts classified, then disposed of. -/
def deadlineOne (d : Decl) (s : State) (c : Capture) : State :=
  if c.done then s
  else
    let r := c.segs.foldl (classifySeg c) ([], s)
    let c' := { c with segs := r.1 }
    disposeOne d c' (putCapture c' r.2)

/-- READOUT_DEADLINE (R256): every readout whose deadline has passed is classified, and lines then complete are disposed
of. -/
def execReadoutDeadline (s : State) : Host.Outcome State Fault Refusal :=
  settled (match s.decl with
    | none => s
    | some d => if rootClks s then armIfWaiting (settleIfDone (s.caps.foldl (deadlineOne d) s)) else s)

/-- CALIBRATION_LINE_TIMER (R186, R331): the next calibration line is due, and R233 permits it on every port addressed. -/
def execCalibrationLineTimer (mon : List Mon) (s : State) : Host.Outcome State Fault Refusal :=
  settled (match s.decl, s.cal.run with
    | some d, some r =>
      if !r.accumulating || decide (s.localNs < r.nextAt) || !dpClk s || decide (r.lines ≤ r.counted) ||
          decide (2 * r.lines + 16 ≤ r.issued) then s
      else
        let t := issueAt s
        if !portsFree r.segs t s then s
        else
          let k := s.cal.counter
          let u := { s with cal := { s.cal with
            counter := (k + 1) % 2 ^ 32, run := some { r with issued := r.issued + 1, nextAt := s.localNs + d.system.calPeriodNs } } }
          issueLine d true k k r.expSet r.par (1 - s.cal.active) r.segs t mon u
    | _, _ => s)

/-! ### Forming lines (R183, R369, R375) -/

/-- R183, R375: a LINE.RECONFIGURE with FORCE_AT_LINE takes force at its output line, which begins the lines that carry
TRANSITION. Word 7 of RPT.VERB_DONE is the capture line number of the last capture that this line needs (R825; log 87), and the
line carries the epoch advanced although its captures were issued before (R169; log 87). -/
def forcedAt (d : Decl) (s : State) : State :=
  let n := s.achr.next
  let due (x : Deferred) : Option (List RawRec) := match x.act with
    | .reconf (.atLine l) r => if l = outNumber s n then some r else none
    | _ => none
  match s.fw.deferred.findSome? due with
  | none => s
  | some r =>
    let t := applyReconf r (some n) s
    let d' := match t.decl with | some x => x | none => d
    let span := ceilDiv (max (spanOf d) (spanOf d')) (max 1 d'.geometry.outPitch)
    endDeferred (fun x => (due x).isSome) stOk 0 (outNumber t (lastNeeded d' t n)) (modAchr (fun a => { a with
      transition := some (n, n + span), epochFrom := some (n, t.line.epoch.toNat, t.motion.cmp.index) }) t)

/-- ACHROMAT_FORM_LINE (R369). -/
def execAchromatFormLine (s : State) : Host.Outcome State Fault Refusal :=
  settled (match s.decl with
    | none => s
    | some d =>
      if !dpClk s then s
      else armIfWaiting <| settleIfDone (seamWatch (formNext (if s.line.st == .capturing then forcedAt d s else s))))

/-! ### Register replies (R251, R281, R288) -/

/-- REGISTER_REPLY_RECEIVED (R251, R281): what the device lanes received of one packet. -/
def execRegisterReplyReceived (port : Nat) (rx : List LaneRx) (s : State) : Host.Outcome State Fault Refusal :=
  settled (if rootClks s && decide (port < 24) && (sport s port).st != .off then boundaryNow (regReply port rx s) else s)

/-- REGISTER_SEQUENCE_TIMEOUT (R276, R281). -/
def execRegisterSequenceTimeout (port : Nat) (s : State) : Host.Outcome State Fault Refusal :=
  settled (if rootClks s then regTimeout port s else s)

end Sys2Proof.Machine
end

