-- ==== Sys2Proof/Machine/Cal.lean ====
section
/-! DEFINITION. Calibration and the coefficient store: CAL.DARK, CAL.WHITE, CAL.LOAD, CAL.SWAP and CAL.PLACE (R185, R186,
R315 to R344, R350 to R363), the banks' release and copy (R329), and the rows CALIBRATION_TABLES_WRITTEN, BANK_RELEASE and
BANK_COPY_END. CAL.LANES stands with the Segment link. -/

namespace Sys2Proof.Machine

def modCal (f : CalU → CalU) (s : State) : State := { s with cal := f s.cal }

/-- R326: a CAL.SWAP with AT_LINE is pending. -/
def swapPending (s : State) : Bool := s.fw.deferred.any fun d => match d.act with
  | .swap _ => true
  | _ => false

/-- R329: table writes into the loaded bank may proceed. -/
def bankOpen (s : State) : Bool := s.cal.copy == .idle

/-- The loaded bank's number. -/
def loadedBank (s : State) : Nat := 1 - s.cal.active

/-- R320: one segment's tables of the loaded bank change, and it becomes LOADED. -/
def writeTables (n : Nat) (f : SegTables → SegTables) (s : State) : State :=
  modCal (fun c => { c with written := true, banks := vmod c.banks (1 - c.active) fun b =>
    { b with loaded := true, segs := vmod b.segs n f } }) s

/-- R320: the neutral main table of a segment. -/
def neutralMain (pixels : Nat) : List Nat := List.replicate (3 * pixels) 0x04000000
def mainOf (pixels : Nat) (t : SegTables) : List Nat := t.main.getD (neutralMain pixels)

/-! ### CAL.LOAD (R324, R325) -/

/-- R324: the bytes a table takes for segments `l`. -/
def tableBytes (d : Decl) (table : Nat) (n : Nat) : Nat :=
  let px := (d.segments.getD n default).pixels
  match table with
  | 0 => 12 * px
  | 1 => 6 * px
  | 2 => 24576
  | _ => 36864

/-- R324: the segments SEGMENT names for a table; none: outside the table. -/
def loadSegs (d : Decl) (table seg : Nat) : Option (List Nat) :=
  if table = 4 then (if seg = 0xFF then some [] else none)
  else if 4 < table then none
  else if seg = 0xFF then some (List.range d.segments.length)
  else if seg < d.segments.length then some [seg] else none

def loadSize (d : Decl) (table seg : Nat) : Option Nat :=
  (loadSegs d table seg).map fun l => if table = 4 then 98304 else (l.map (tableBytes d table)).sum

/-- The words of a little-endian table. -/
def words (size n : Nat) (b : List Byte) : List Nat := (List.range n).map fun i => uAt b (size * i) size

/-- R319: a list's entries up to its end. -/
def listEntries (l : List Nat) : List Nat := l.takeWhile fun e => e != 0xFFFFFFFF

/-- R319: the runs of one list, ascending, within the segment, and separated. -/
def runsOk (pixels : Nat) : Nat → List Nat → Bool
  | _, [] => true
  | from_, e :: es =>
    let f := bits e 0 14
    let n := bits e 14 4 + 1
    decide (e < 2 ^ 18) && decide (1 ≤ f ∧ from_ ≤ f ∧ f + n ≤ pixels - 1) && runsOk pixels (f + n + 1) es

/-- One segment's data within an upload. -/
def segData (d : Decl) (table : Nat) (segs : List Nat) (n : Nat) (data : List Byte) : List Byte :=
  (data.drop (((segs.takeWhile fun k => k != n).map (tableBytes d table)).sum)).take (tableBytes d table n)

/-- R325: the contents of one segment's table are allowed. -/
def loadOk (d : Decl) (table n : Nat) (b : List Byte) : Bool :=
  let px := (d.segments.getD n default).pixels
  match table with
  | 0 => (words 4 (3 * px) b).all fun w => decide (bits w 28 4 < 8)
  | 3 => (List.range 3).all fun c => runsOk px 1 (listEntries (words 4 3072 (b.drop (12288 * c))))
  | _ => true

/-- R353, R357: the overlap weights: reserved locations 0, and no entry from 32,769 to 65,534. -/
def weightsOk (data : List Byte) : Bool :=
  (words 2 49152 data).zipIdx.all fun w =>
    if w.2 / 2048 < 23 ∧ w.2 % 2048 < 768 then decide (w.1 ≤ 32768 ∨ w.1 = 65535) else w.1 == 0

/-- R324: one segment's table is written. -/
def loadSeg (d : Decl) (table n : Nat) (b : List Byte) (s : State) : State :=
  let px := (d.segments.getD n default).pixels
  writeTables n (fun t =>
    match table with
    | 0 => { t with main := some (words 4 (3 * px) b) }
    | 1 => { t with short := some ((List.range (3 * px)).map fun i => sAt b (2 * i) 2) }
    | 2 => { t with lin := some ((List.range 3).map fun c => words 2 4096 (b.drop (8192 * c))) }
    | _ => { t with defects := some ((List.range 3).map fun c => listEntries (words 4 3072 (b.drop (12288 * c)))) }) s

/-- A whole CAL.LOAD is written. -/
def loadTable (table seg : Nat) (data : List Byte) (s : State) : State :=
  match s.decl with
  | none => s
  | some d =>
    if table = 4 then
      modCal (fun c => { c with written := true, banks := vmod c.banks (1 - c.active) fun b =>
        { b with loaded := true, weights := some (words 2 49152 data) } }) s
    else
      let l := (loadSegs d table seg).getD []
      l.foldl (fun t n => loadSeg d table n (segData d table l n data) t) s

/-- R749: the grant of a bank load or a bank copy of so many bytes. -/
def askBank (bytes : Nat) (s : State) : Bool × State :=
  askGrant .cal .bankLoad [(dDramBudget s, 800)] (ceilDiv bytes 1000000 * 1000000 + 10000000) s

/-- The load runs, under its grant. -/
def runLoad (table seg : Nat) (data : List Byte) (s : State) : Nat × State :=
  let g := askBank data.length s
  if g.1 then (stOk, returnGrant .cal .bankLoad (loadTable table seg data g.2)) else (stNoGrant, g.2)

/-- CAL.LOAD (R185, R324 to R326). -/
def vCalLoad (c : Cmd) (s : State) : Ans × State :=
  checked [objIs [kDevice] c s, modsIn 1 c, shape ([.u 1, .u 1, .r 2] ++ uploadFields) c,
      need (modBit c 0) stBadArg 0, declared s, need (!swapPending s) stBusy 0] s
    (match s.decl with
     | none => refuse stState 0 s
     | some d =>
       let table := pu c 0 1
       let seg := pu c 1 1
       match upload 4 c s with
       | (.inl e, t) => refuse e.1 e.2 t
       | (.inr data, t) =>
         let segs := (loadSegs d table seg).getD []
         if loadSize d table seg != some data.length ||
             !(if table == 4 then weightsOk data else segs.all fun n => loadOk d table n (segData d table segs n data)) then refuse stBadArg 0 t
         else if !bankOpen t then (.wait (.load table seg data), t)
         else
           let r := runLoad table seg data t
           (.reply r.1 0 [], r.2))

/-! ### CAL.SWAP and CAL.PLACE -/

/-- CAL.SWAP (R185, R186, R327 to R330). -/
def vCalSwap (c : Cmd) (s : State) : Ans × State :=
  checked [objIs [kDevice] c s, modsIn 1 c, shape [.u 4] c, declared s, need s.cal.written stState 0x0101] s
    (if modBit c 0 then deferCmd c (.swap (pu c 0 4)) s
     else if lineFlow s then (.wait .swap, modCal (fun u => { u with swapping := true }) s)
     else (.wait .swap, swapBanks s))

/-- R352, R363: what an action of CAL.PLACE does to a segment. -/
def placeAct (native : Bool) (action : Nat) (v : Int) (p : Place) : Place :=
  match action with
  | 1 => { p with frozen := true }
  | 2 => { p with frozen := false }
  | 3 => if native then p else { p with pending := some v }
  | _ => p

/-- CAL.PLACE (R185, R350, R352, R363). A SET waits for the next line boundary, and the reply gives the shift in force till then. -/
def vCalPlace (c : Cmd) (s : State) : Ans × State :=
  let n := objIdx c.req.obj
  let v := ps c 0 1
  checked [objIs [kSegment] c s, modsIn 3 c, shape [.u 1] c, need (decide (-32 ≤ v ∧ v ≤ 32)) stBadArg 0, declared s] s
    (let native := match s.decl with | some d => d.geometry.nativeOnly | none => false
     let t := modAchr (fun a => { a with place := vmod a.place n (placeAct native (modField c 0 2) v) }) s
     done (leInt 1 (if native then 0 else (vget t.achr.place n).shift)) t)

/-! ### CAL.DARK and CAL.WHITE taken (R185, R331, R335) -/

/-- R331: the interval of calibration lines in ns. -/
def calInterval (d : Decl) (expSet : Nat) (segs : List Nat) : Nat :=
  segs.foldl (fun m n =>
    let g := d.segments.getD n default
    max m (ceilNs ((slotCount expSet * nRd g : Nat) * pixClkNs g))) d.system.calPeriodNs

/-- Step 3: the accumulators are cleared once the loaded bank is open to writes; with no port to read, accumulation is
over at once. -/
def calBegin (s : State) : State :=
  match s.cal.run with
  | some r =>
    if r.step == .start && bankOpen s then
      if r.segs.isEmpty then
        endUrgBusy Busy.isStopCal stOk 0 [] (returnGrant .cal .calSweep (modCal (fun u => { u with run := some { r with step := .compute } }) s))
      else modCal (fun u => { u with run := some { r with step := .lines, accumulating := true, nextAt := s.localNs } }) s
    else s
  | none => s

/-- R749: the sweep's grant, in ns: 100 ms beyond the accumulation, which is expected to take LINES lines (log 69). -/
def sweepNs (d : Decl) (r : CalRun) : Nat := (ceilDiv (r.lines * calInterval d r.expSet r.segs) 1000000 + 100) * 1000000

/-- Steps 1 to 3 (R335): CALIBRATING, the sweep's grant, and the accumulators. -/
def startCal (c : Cmd) (d : Decl) (r : CalRun) (s : State) : Ans × State :=
  let t := setLineState .calibrating c.verb.toNat s
  let g := askGrant .cal .calSweep [(dDramBudget t, 1800)] (sweepNs d r) t
  if g.1 then (.wait .cal, calBegin (modCal (fun u => { u with run := some r }) g.2))
  else (.reply stNoGrant 0 [], setLineState .ready c.verb.toNat g.2)

/-- The ports a calibration addresses, and those it issues lines to (R331). -/
def calPorts (c : Cmd) (s : State) : List Nat × List Nat :=
  let asked := if objKind c.req.obj = kSegment then [objIdx c.req.obj] else segNumbers s
  (asked, asked.filter fun n => (sport s n).st != .failed)

def newCal (c : Cmd) (white : Bool) (expSet target : Nat) (s : State) : CalRun :=
  let p := calPorts c s
  { white := white, swap := modBit c 0, keep := white && modBit c 1, lines := pu c 0 2, target := target, par := s.par
    expSet := expSet, asked := p.1, segs := p.2, step := .start, issued := 0, counted := 0, nextAt := s.localNs, sums := []
    accumulating := false, first := s.cal.counter }

/-- CAL.DARK (R185, R335, R338). -/
def vCalDark (c : Cmd) (s : State) : Ans × State :=
  checked [objIs [kDevice, kSegment] c s, modsIn 1 c, shape [.u 2, .u 1] c,
      need (inR 16 4096 (pu c 0 2)) stBadArg 0, need (inR 1 3 (pu c 2 1)) stBadArg 0, stateIn [.ready] s, need (!swapPending s) stBusy 0,
      need ((dStrings s).all fun p => (str s p.1).st == .off) stState 0x0101] s
    (match s.decl with
     | some d => startCal c d (newCal c false (pu c 2 1) 0 s) s
     | none => refuse stState 0 s)

/-- CAL.WHITE (R185, R335, R339, R781). -/
def vCalWhite (c : Cmd) (s : State) : Ans × State :=
  let limited (p : Nat × DString) : Bool := decide (derateCeil p.2 (str s p.1) < iSetOf p.2 (str s p.1).level)
  checked [objIs [kDevice, kSegment] c s, modsIn 3 c, shape [.u 2, .u 2] c,
      need (inR 16 4096 (pu c 0 2)) stBadArg 0, stateIn [.ready] s, need (!swapPending s) stBusy 0,
      need ((dStrings s).all fun p => (str s p.1).st == .on) stState 0x0101,
      need (!(dStrings s).any limited) stState 0x0103] s
    (match s.decl with
     | some d => startCal c d (newCal c true (if d.geometry.dual then 3 else 1) (pu c 2 2) s) s
     | none => refuse stState 0 s)

/-! ### The tables (R337 to R342) -/

/-- R338: the 15 values about index `j`, the window moved inward at the ends. -/
def window15 (l : List Int) (j : Nat) : List Int :=
  let a := min (j - 7) (l.length - 15)
  (l.drop a).take 15

/-- A value put in its place in an ascending list. -/
def insertAsc (v : Int) : List Int → List Int
  | [] => [v]
  | x :: xs => if v ≤ x then v :: x :: xs else x :: insertAsc v xs

/-- The middle one of an odd number of values. -/
def median (l : List Int) : Int := (l.foldl (fun acc v => insertAsc v acc) []).getD (l.length / 2) 0

/-- One colour of interleaved sums. -/
def colourOf (l : List Int) (c : Nat) : List Int := (List.range (l.length / 3)).map fun j => l.getD (3 * j + c) 0

/-- Three planes interleaved. -/
def weave {α : Type} [Inhabited α] (n : Nat) (p : Nat → List α) : List α :=
  (List.range n).flatMap fun j => (List.range 3).map fun c => (p c).getD j default

/-- R338: hot marks of one colour. -/
def hotPlane (hot n : Nat) (l : List Int) : List Bool :=
  l.mapIdx fun j v => decide (((hot * n : Nat) : Int) < v - median (window15 l j))

def hotMarks (hot n : Nat) (sums : List Int) : List Bool :=
  weave (sums.length / 3) fun c => hotPlane hot n (colourOf sums c)

/-- R337: a dark entry and whether it was clamped. -/
def darkEntry (short : Bool) (n : Nat) (v : Int) : Int × Bool :=
  let m := roundHalfUp (if short then 16 * v else v) n
  let r := if short then clampI (-32768) 32767 m else clampI (-2048) 2047 m
  (r, r != m)

/-- R337, R338: what CAL.DARK writes of one segment and exposure; hot pixels and clamped values counted. -/
def darkSeg (d : Decl) (n : Nat) (x : CalSums) (acc : State × Nat × Nat × Nat) : State × Nat × Nat × Nat :=
  let px := (d.segments.getD x.seg default).pixels
  let e := x.sums.map (darkEntry x.short n)
  let marks := hotMarks acc.1.cal.par.darkHot n x.sums
  let hot := (marks.filter id).length
  let clamped := (e.filter Prod.snd).length
  let t := writeTables x.seg (fun t =>
    if x.short then { t with short := some (e.map Prod.fst) }
    else { t with main := some (((mainOf px t).zip e).map fun p => p.1 / 4096 * 4096 + unsignedOf 12 p.2.1) }) acc.1
  let t := modCal (fun c => { c with hot := c.hot ++ [(x.seg, x.short, marks)] }) t
  (t, acc.2.1 + (if x.short then 0 else hot), acc.2.2.1 + (if x.short then hot else 0), acc.2.2.2 + clamped)

/-- Hot marks of a segment and exposure, pixel and colour. -/
def hotAt (s : State) (seg : Nat) (short : Bool) (k : Nat) : Bool :=
  match s.cal.hot.find? fun h => h.1 == seg && h.2.1 == short with
  | some h => h.2.2.getD k false
  | none => false

/-- R340: the defect marks of one colour of a segment. -/
def defectPlane (s : State) (d : Decl) (x : CalSums) (c : Nat) : List Bool :=
  let l := colourOf x.sums c
  l.mapIdx fun j v =>
    let m := median (window15 l j)
    let h0 := hotAt s x.seg false (3 * j + c)
    let h1 := hotAt s x.seg true (3 * j + c)
    decide (v ≤ 0) || (if d.geometry.dual then h0 && h1 else h0) ||
      decide (1000 * v < (s.cal.par.whiteLow : Int) * m) || decide ((s.cal.par.whiteHigh : Int) * m < 1000 * v)

/-- R339: the gain a pixel needs. -/
def gainNeed (target n : Nat) (v : Int) : Nat := (roundHalfUp ((target * n * 16384 : Nat) : Int) v.toNat).toNat

/-- R341: the class of each pixel of one colour by its runs of defective pixels; the runs listed; those left unrepaired. -/
def runClasses (n : Nat) (marks : List Bool) : List Nat × List Nat × Nat :=
  let starts := (List.range n).filter fun j => marks.getD j false && (j == 0 || !marks.getD (j - 1) false)
  starts.foldl (fun (acc : List Nat × List Nat × Nat) j =>
    let len := ((marks.drop j).takeWhile id).length
    let set (k : Nat) : List Nat := (List.range n).map fun i => if j ≤ i ∧ i < j + len then k else acc.1.getD i 0
    if len = 1 then (set (if j = 0 then 2 else if j + 1 = n then 1 else 3), acc.2.1, acc.2.2)
    else if 0 < j && decide (j + len < n) && decide (len ≤ 16) && decide (acc.2.1.length < 3072) then
      (set 5, acc.2.1 ++ [j + 16384 * (len - 1)], acc.2.2)
    else (acc.1, acc.2.1, acc.2.2 + len)) (List.replicate n 0, [], 0)

/-- R340: classes 6 and 7 of pixels not marked. -/
def exposureClass (s : State) (dual : Bool) (seg c j : Nat) (k : Nat) (marked : Bool) : Nat :=
  if marked || !dual then k
  else if hotAt s seg false (3 * j + c) then 6
  else if hotAt s seg true (3 * j + c) then 7
  else k

/-- What one segment's white sums come to: words, defect lists, and counts. -/
structure WhiteSeg where
  seg : Nat
  words : List Nat
  lists : List (List Nat)
  defective : Nat
  runs : Nat
  unrepaired : Nat
  gains : List Nat
  deriving Repr, Inhabited

/-- R339 to R341 on one segment. -/
def whiteSeg (s : State) (d : Decl) (r : CalRun) (x : CalSums) : WhiteSeg :=
  let px := (d.segments.getD x.seg default).pixels
  let marks := (List.range 3).map (defectPlane s d x)
  let cls := marks.map (runClasses px)
  let old := mainOf px (vget (vget s.cal.banks (loadedBank s)).segs x.seg)
  let gain (j c : Nat) : Nat :=
    if (marks.getD c []).getD j false then 16384 else gainNeed r.target r.counted (x.sums.getD (3 * j + c) 0)
  let word (j c : Nat) : Nat :=
    let w := old.getD (3 * j + c) 0x04000000
    let k := if r.keep then bits w 28 4
      else exposureClass s d.geometry.dual x.seg c j (((cls.getD c default).1).getD j 0) ((marks.getD c []).getD j false)
    bits w 0 12 + fld (gain j c) 12 16 + fld k 28 4
  { seg := x.seg, words := weave px fun c => (List.range px).map fun j => word j c
    lists := cls.map fun k => k.2.1
    defective := (marks.map fun l => (l.filter id).length).sum
    runs := if r.keep then 0 else (cls.map fun k => k.2.1.length).sum
    unrepaired := if r.keep then 0 else (cls.map fun k => k.2.2).sum
    gains := (List.range 3).flatMap fun c => ((List.range px).filter fun j => !(marks.getD c []).getD j false).map fun j => gain j c }

/-- R342: the first pixel, in index order, not marked defective, that would need a gain beyond the range. -/
def gainFail (s : State) (d : Decl) (r : CalRun) : Option (List Byte) :=
  r.sums.findSome? fun x =>
    let marks := (List.range 3).map (defectPlane s d x)
    (List.range x.sums.length).findSome? fun k =>
      let v := x.sums.getD k 0
      let bad := !(marks.getD (k % 3) []).getD (k / 3) false && decide (65535 < gainNeed r.target r.counted v)
      if bad then
        some ([b8 x.seg, b8 (k % 3)] ++ leBytes 2 (k / 3) ++
          leBytes 4 (min 0xFFFFFFFF (roundHalfUp ((r.target * r.counted * 65536 : Nat) : Int) v.toNat).toNat))
      else none

/-! ### Steps 6 to 8 -/

def segMask (l : List Nat) : Nat := (l.map fun n => flag true n).sum

/-- R344: what both replies begin with. -/
def calHead (r : CalRun) (used : Nat) : List Byte :=
  let ok := 16 ≤ r.counted
  leBytes 4 (if ok then segMask r.segs else 0) ++
    leBytes 4 (segMask (if ok then r.asked.filter fun n => !r.segs.contains n else r.asked)) ++ leBytes 4 r.issued ++ leBytes 4 used

/-- R753: the calibration summary. -/
def calSummary (verb : Nat) (payload : List Byte) (s : State) : State :=
  let rec_ := bytesAt (leBytes 8 (sysNs s) ++ leBytes 8 (declDigest s) ++ leBytes 2 verb ++ leBytes 2 0 ++
    leBytes 4 s.store.summarySeq ++ payload) 0 64
  let l := s.store.summaries ++ [rec_]
  { s with store := { s.store with summaries := l.drop (l.length - 3072), summarySeq := (s.store.summarySeq + 1) % 2 ^ 32 } }

/-- Step 8 (R335): the reply, the summary of R753, and READY. -/
def calDone (r : CalRun) (payload : List Byte) (s : State) : State :=
  calSummary (if r.white then 0x0502 else 0x0501) payload (endCal stOk 0 payload s)

/-- Step 7 (R335): with SWAP, the banks are swapped at once. -/
def calSwap (r : CalRun) (s : State) : State := if r.swap then swapBanks s else s

/-- Steps 6 to 8 of CAL.DARK. -/
def finishDark (d : Decl) (r : CalRun) (s : State) : State :=
  let t := modCal (fun c => { c with hot := c.hot.filter fun h => !r.segs.contains h.1 }) s
  let a := r.sums.foldl (fun acc x => darkSeg d r.counted x acc) (t, 0, 0, 0)
  calDone r (calHead r r.counted ++ leBytes 4 a.2.1 ++ leBytes 4 a.2.2.1 ++ leBytes 4 a.2.2.2) (calSwap r a.1)

/-- R525: lamps retired or rebalanced are marked no longer once a CAL.WHITE has completed. -/
def clearMarks (s : State) : State :=
  { s with lamps := vmap (fun x => { x with markRetired := false, markRebalanced := false }) s.lamps }

/-- Steps 6 to 8 of CAL.WHITE. -/
def finishWhite (d : Decl) (r : CalRun) (s : State) : State :=
  match gainFail s d r with
  | some p => endCal stState 0x0102 p s
  | none =>
    let l := r.sums.map (whiteSeg s d r)
    let gains := l.flatMap WhiteSeg.gains
    let f := takeFree s
    let lo := if gains.isEmpty then f.1 % 65536 else gains.foldl min (gains.headD 0)
    let hi := if gains.isEmpty then f.1 / 65536 % 65536 else gains.foldl max 0
    let t := l.foldl (fun t w => writeTables w.seg (fun b =>
      { b with main := some w.words, defects := if r.keep then b.defects else some w.lists }) t) f.2
    calDone r (calHead r r.counted ++ leBytes 4 (l.map WhiteSeg.defective).sum ++ leBytes 4 (l.map WhiteSeg.runs).sum ++
      leBytes 4 (l.map WhiteSeg.unrepaired).sum ++ leBytes 2 lo ++ leBytes 2 hi) (clearMarks (calSwap r t))

/-- CALIBRATION_TABLES_WRITTEN (R334 to R344): firmware has finished computing. Fewer than 16 lines write nothing. -/
def execCalibrationTablesWritten (s : State) : Host.Outcome State Fault Refusal :=
  settled (match s.decl, s.cal.run with
    | some d, some r =>
      if r.step != .compute || !fwRunning s then s
      else if r.counted < 16 then calDone r (calHead r 0 ++ List.replicate (if r.white then 16 else 12) 0#8) s
      else if r.white then finishWhite d r s
      else finishDark d r s
    | _, _ => s)

/-! ### The bank copy (R329) -/

/-- R329: the copy begins under its grant; while it is refused the request is repeated every 10 ms. -/
def askCopy (s : State) : State :=
  let g := askBank 6291456 s
  if g.1 then unwaitGrant .cal .bankLoad (modCal (fun c => { c with copy := .copying s.localNs }) g.2)
  else waitGrant .cal .bankLoad (modCal (fun c => { c with copy := .grant }) g.2)

/-- BANK_RELEASE (R329): no line of the formerly active bank is still in the stages. -/
def execBankRelease (s : State) : Host.Outcome State Fault Refusal :=
  settled (
    if s.cal.copy == .release && fwRunning s && s.caps.all fun c => c.done || c.bank == s.cal.active then askCopy s else s)

def Busy.isSwap : Busy → Bool
  | .swap => true
  | _ => false

def Busy.isLoad : Busy → Bool
  | .load _ _ _ => true
  | _ => false

/-- R185, R330: the swaps whose copy has now ended are answered. -/
def swapsDone (s : State) : State :=
  let t := if s.cal.swapping then s else endBusy Busy.isSwap stOk 0 [] s
  (t.fw.deferred.filter fun d => d.acted.isSome).foldl (fun u x =>
    endDeferred (fun d => d.acted.isSome && d.tag == x.tag) stOk 0 (x.acted.getD 0) u) t

/-- A CAL.LOAD that waited for the bank is written. -/
def waitingLoad (s : State) : State :=
  match s.fw.busy with
  | some (_, .load table seg data) =>
    let r := runLoad table seg data s
    endBusy Busy.isLoad r.1 0 [] r.2
  | _ => s

/-- BANK_COPY_END (R329): the loaded bank is a copy of the active one. -/
def execBankCopyEnd (s : State) : Host.Outcome State Fault Refusal :=
  settled (match s.cal.copy with
    | .copying _ =>
      let t := modCal (fun c => { c with copy := .idle, banks := vset c.banks (1 - c.active) (vget c.banks c.active) }) s
      calBegin (waitingLoad (swapsDone (returnGrant .cal .bankLoad t)))
    | _ => s)

end Sys2Proof.Machine
end

