-- ==== Sys2Proof/Machine/Line.lean ====
section
/-! DEFINITION. The LINE verbs but LINE.ARM (R174 to R184, R192, R288, R389, R439, R440, R571), and the rows
LINE_STOP_COMPLETE and RUN_COUNT_END (R157, R178). -/

namespace Sys2Proof.Machine

/-! ### LINE.START (R175, R571) -/

/-- R571: G₀ of a start asked for at count `c`, in 2^-32 count. -/
def startGrid (w : StartAt) (c : Int) (pitch : Nat) : Option Int :=
  match w with
  | .now => some ((c + 1) * 4294967296)
  | .position p =>
    let g := p * 4294967296
    let at_ := c * 4294967296
    some (if at_ < g then g else g + ((at_ - g) / (max 1 pitch : Nat) + 1) * (max 1 pitch : Nat))
  | .time _ => none

/-- The grid of a run that begins afresh. -/
def setStart (w : StartAt) (s : State) : State :=
  let cap := (s.decl.map fun d => d.geometry.capPitch).getD 0
  modLine (fun l => { l with start := some w }) <| modCmp (fun c => { c with
    g0 := startGrid w (encd s (feedEnc s)).count c.pitch, index := 0, gridPitch := c.pitch, capPitch := cap }) s

/-- R440: a held resume point goes on from step 3 of the seam: step 2 is behind it, with its captures discarded. -/
def resumeStart (n : Nat) (s : State) : State :=
  let t := modSeam (fun m => { m with
    startNs := s.localNs, travel := 0, returns := 0, reported := false, mark := false, offset := false }) s
  seamBackup (modDeliv (fun u => { u with settleNow := u.par.settle }) (discardCaptures n t))

/-- The start point is set: from now on triggers are admitted. A LINE.RECONFIGURE that waits for LINE.START applies. -/
def startRun (w : StartAt) (s : State) : State :=
  let t := if s.line.fresh then beginFresh s.line.firstLine s else s
  match (if t.line.resuming then t.line.resume else none) with
  | some n => if t.deliv.seam.phase == .off then resumeStart n t else t
  | none =>
    let t := setStart w (modLine (fun l => { l with admitting := true }) (completeReconf none t))
    match feedAxis? t with
    | some a => if (drv t a).feed.isSome then t else startFeed t.line.speed t
    | none => t

/-- R696: the root of a system run schedules the start on every node. The message's LINE is a free value. -/
def sendStart (timeNs : Nat) (s : State) : State :=
  match s.prism.run with
  | some r =>
    if s.prism.root && s.line.system then
      let f := takeFree s
      pDown 0x0A 0xFFFF (leBytes 8 timeNs ++ leBytes 4 (f.1 % 2 ^ 32) ++ leBytes 2 r ++ [0#8]) (nodeId s) f.2
    else s
  | none => s

/-- LINE.START (R174, R175). -/
def vLineStart (c : Cmd) (s : State) : Ans × State :=
  let w := modField c 0 2
  let p := ps c 0 8
  let t := pu c 8 8
  checked [objIs [kDevice] c s, modsIn 3 c, shape [.u 8, .u 8] c, need (decide (w < 3)) stBadArg 0,
      need (w != 1 || decide (-(2 ^ 47) ≤ p ∧ p < 2 ^ 47)) stBadArg 0,
      need (w != 2 || decide (sysNs s + 8000 ≤ t)) stBadArg 0x0101, stateIn [.armed] s] s <|
    match w with
    | 0 => done [] (startRun .now s)
    | 1 => done [] (startRun (.position p) s)
    | _ => done [] (sendStart t (startRun (.time t) s))

/-! ### LINE.STOP (R176, R194, R439) -/

/-- A later step of a seam, or of a resume, is broken off: the feed stops and nothing more is admitted. -/
def breakSeam (s : State) : State :=
  stopFeed (modSeam (fun m => { m with phase := .off }) (modLine (fun l => { l with admitting := false }) s))

/-- LINE.STOP without AT_LINE in a run, and whether its reply waits for step 2 of a seam. In ARMED, before the first capture of
a run, SEAM holds line 0 as the resume point once LINE.START has given that line a position; before, no line has one, and the
run ends as with END (DESIGN CHOICE, log 86). -/
def stopAct (verb : Half) (mode : StopMode) (s : State) : Bool × State :=
  let s := abortBusy Busy.isSystemArm (modLine (fun l => { l with start := none }) s)
  let ramp := s.deliv.seam.phase == .ramp
  let drain (d : Drain) (t : State) : State := modLine (fun l => { l with drain := d }) t
  match mode with
  | .endRun =>
    if s.line.st == .seam && ramp then (true, drain (.stopEnd verb) s)
    else if s.line.st == .seam || s.line.resuming then (false, breakSeam (drain (.stopEnd verb) s))
    else (false, stopEnd verb s)
  | .seam =>
    match s.line.st with
    | .capturing => (true, stopSeam verb s)
    | .seam =>
      if ramp then (true, drain (.stopSeam verb) s)
      else (false, breakSeam (drain (.stopSeam verb) (modLine (fun l => { l with resume := some s.deliv.seam.nr }) s)))
    | .armed =>
      if s.line.resuming then (false, breakSeam (drain (.stopSeam verb) s))
      else if s.motion.cmp.g0.isSome && !s.line.fresh then
        (false, breakSeam (drain (.stopSeam verb) (modLine (fun l => { l with resume := some 0 }) s)))
      else (false, stopEnd verb s)
    | _ => if s.line.resume.isSome then (false, drain (.stopSeam verb) s) else (false, stopEnd verb s)

/-- R695: the root of a system run sends STOP down the tree. -/
def sendStop (mode atLine line : Nat) (s : State) : State :=
  match s.prism.run with
  | some r =>
    if s.prism.root && s.line.system then
      pDown 0x0E 0xFFFF (leBytes 4 line ++ leBytes 2 r ++ [b8 mode, b8 atLine]) (nodeId s) s
    else s
  | none => s

/-- LINE.STOP in CALIBRATING (R176, R194). -/
def stopCalibration (s : State) : Ans × State :=
  match s.cal.run with
  | some r =>
    if r.accumulating then done [] (endCal stState 0x0100 [] s)
    else match r.step with
      | .start => (.wait .stopCal, s)
      | _ => done [] s
  | none => done [] s

/-- LINE.STOP (R174, R176). -/
def vLineStop (c : Cmd) (s : State) : Ans × State :=
  let m := modField c 0 2
  let at_ := modBit c 2
  let mode : StopMode := if m = 1 then .seam else .endRun
  let line := pu c 0 4
  checked [objIs [kDevice] c s, modsIn 7 c, shape [.u 4] c, need (decide (m < 2)) stBadArg 0,
      need (m != 1 || isScan s || s.decl.isNone) stBadArg 0x0101,
      stateIn [.calibrating, .armed, .capturing, .seam, .frozen] s, need (!(at_ && s.line.st == .calibrating)) stState 0] s <|
    if s.line.st == .calibrating then stopCalibration s
    else if at_ then
      let r := deferCmd c (.stop mode line) s
      match r.1 with
      | .reply 9 _ _ => (r.1, sendStop m 1 line r.2)
      | _ => r
    else
      let r := stopAct c.verb mode (sendStop m 0 line s)
      if r.1 then (.wait .stopSeam, r.2) else done [] r.2

/-! ### The ends of a run (R157, R178) -/

/-- A LINE.STOP has completed: the admitted lines have drained and the feed stands. -/
def stopped (s : State) : Bool := drained s && feedStill s && s.deliv.seam.phase != .ramp

/-- R176, R439: the run ends and its resume point is held. -/
def holdRun (s : State) : State :=
  let t := abortNamed s
  let t := { t with prism := { t.prism with run := none } }
  settleIfDone (boundaryNow (modLine (fun l => { l with
    admitting := false, drain := .none, system := false, resuming := false, settling := true, treeStops := [] }) t))

/-- LINE_STOP_COMPLETE (R157, R176, R568). -/
def execLineStopComplete (s : State) : Host.Outcome State Fault Refusal :=
  settled (
    if !stopped s || s.line.st == .ready then s
    else match s.line.drain with
      | .stopEnd v => armIfWaiting (runEnds (setLineState .ready v.toNat s))
      | .limitEnd => armIfWaiting (runEnds (setLineState .ready 0 s))
      | .stopSeam v =>
        if s.line.resume.isSome then armIfWaiting (holdRun (setLineState .ready v.toNat s))
        else armIfWaiting (runEnds (setLineState .ready v.toNat s))
      | _ => s)

/-- RUN_COUNT_END (R178). -/
def execRunCountEnd (s : State) : Host.Outcome State Fault Refusal :=
  settled (match s.line.drain with
    | .counted => if inRun s && drained s then armIfWaiting (runEnds (setLineState .ready 0 s)) else s
    | _ => s)

/-! ### LINE.CONFIG (R174, R179, R288) -/

/-- The entries of the payload. -/
def cfgEntries (p : List Byte) : List CfgEntry :=
  (List.range ((p.length - 8) / 8)).map fun k => (uAt p (8 + 8 * k) 2, uAt p (10 + 8 * k) 2, uAt p (12 + 8 * k) 4)

/-- R288: the command's writes. Where the commands `later`, which act after it, have already left values in a port's
registers, the values in force go back first, and those commands' writes are made again once this one has acted. -/
def cfgAsk (d : Decl) (own : Nat) (es : List CfgEntry) (later : List Deferred) (s : State) : State :=
  let ports := ((cfgWrites d own es s).map Prod.fst).eraseDups
  let begun := if ports.isEmpty then [] else
    (List.range d.segments.length).filter fun n => !ports.contains n && later.any (writesBegun d n s)
  (ports ++ begun).foldl (fun t n =>
    let mine := portWrites d own es n s
    let xs := later.filter (writesBegun d n t)
    let u := modSeg n (fun p => { p with regQ := p.regQ.filter fun a => !(xs.any fun x => cfgOwn x.tag == a.own) }) t
    modSeg n (fun p => { p with regQ := p.regQ ++ xs.flatMap (laterWrites d n s) })
      (regAsk n (restoreWrites d own mine xs n s ++ mine) u)) s

/-- R163: the payload's shape: 1 to 509 entries after the two first words, the second of them reserved. -/
def cfgShape (c : Cmd) : List Check :=
  let n := c.req.payload.length
  [need (decide (16 ≤ n ∧ n ≤ 8 + 8 * 509) && n % 8 == 0) stBadArg 0, need (pu c 4 4 == 0) stBadArg 4]

/-- LINE.CONFIG. Without a declaration only the PARAM of an entry can be checked before the state is (log 85). -/
def vLineConfig (c : Cmd) (s : State) : Ans × State :=
  let p := c.req.payload
  let es := cfgEntries p
  match s.decl with
  | none =>
    checked ([objIs [kDevice] c s, modsIn 1 c] ++ cfgShape c ++ [need (es.all fun e => cfgKnown e.1) stBadArg 0]) s
      (refuse stState 0 s)
  | some d =>
    checked ([objIs [kDevice] c s, modsIn 1 c] ++ cfgShape c ++ [need (cfgFits d es s) stBadArg 0, declared s]) s <|
      let own := cfgOwn c.req.tag
      let configs := s.fw.deferred.filter fun x => (configAt s x).isSome
      if modBit c 0 then
        let r := deferCmd c (.config (pu c 0 4) es) s
        match r.1 with
        | .reply 9 _ _ =>
          (r.1, cfgAsk d own es (configs.filter fun x => decide (namedIndex s (pu c 0 4) < (configAt s x).getD 0)) r.2)
        | _ => r
      else if (cfgWrites d own es s).isEmpty && (cfgWindows d es s).isNone && !lineFlow s then done [] (cfgApply d es s)
      else
        let t := cfgAsk d own es configs s
        (.wait (.config es), match cfgWindows d es t with
          | some w => stageWindows own w (unstage t)
          | none => t)

/-! ### LINE.RECONFIGURE (R179 to R184, R323, R375) -/

/-- R180: what the line state and the mode make of a choice that names the other mode's. -/
def reconfMode (change : Nat) (s : State) : Check :=
  match s.line.st with
  | .capturing => need (change != (if isScan s then 3 else 2)) stBadArg 0x0108
  | .seam => need (change != 3) stBadArg 0x0108
  | _ => none

/-- R180: REJECT is refused while a run captures. -/
def midRun (change : Nat) (s : State) : Check :=
  need (!(change == 0 && (s.line.st == .capturing || s.line.st == .seam))) stState 0x0101

/-- R181. -/
def changeAllowed (change : Nat) (s : State) : Bool :=
  match dSystem? s with
  | some y => change == 0 || bit y.changeAllow (change - 1)
  | none => false

/-- R182. -/
def tooLate (line : Nat) (s : State) : Bool :=
  let last := s.line.lastAdmitted.getD (s.line.firstLine + 2 ^ 32 - 1)
  decide (signed 32 (line + 2 ^ 33 - last) < 64)

/-- The offset at which a record of this key stands among others. -/
def standsAt (l : List RawRec) (k : Nat × Nat) : Nat :=
  match (placeRecs l).find? fun p => !keyLt (p.rr.type, p.rr.inst) k with
  | some p => p.off
  | none => totalSize l

/-- The replacement records, or the failure of their form: GEOMETRY, COLOUR and SEGMENT records, each once. -/
def readReplacement (old : List RawRec) (bs : List Byte) : Except DFail (List RawRec) :=
  match walkRecords (bs.length + 1) 32 bs [] with
  | .error e => .error e
  | .ok l =>
    let merged := mergeRecords old l
    match l.find? fun r => !([2, 3, 4].contains r.type) with
    | some r => .error (dFail dFormat r.type r.inst (standsAt merged (r.type, r.inst)))
    | none =>
      match l.find? fun r => decide (1 < (l.filter fun x => x.type == r.type && x.inst == r.inst).length) with
      | some r => .error (dFail dOrder r.type r.inst (standsAt merged (r.type, r.inst)))
      | none => .ok l

/-- R179, R375: the accepted declaration with these records replaced passes every check. -/
def checkReplacement (d : Decl) (running : Bool) (l : List RawRec) (s : State) : Except DFail Decl :=
  let merged := mergeRecords d.records l
  match checkRecords s.limit (fwMinor s) d.minMinor d.declId none merged with
  | .error e => .error e
  | .ok d' =>
    let slots := ceilDiv (max (spanOf d) (spanOf d')) (max 1 d'.geometry.capPitch) + 24
    if running && decide (usableDram d' < 4 * (slots * (6 * qPos d'.segments d'.segments.length))) then
      .error (dFail dConflict 0x50 0 (fieldOffset merged (0x50, 0, 0)))
    else .ok d'

/-- A change that passed its checks: applied at once outside a run's capture, deferred in it. Where a run's lines are still being
formed, or held for a resume, it applies from the next of them (R375). -/
def reconfTake (c : Cmd) (change : Nat) (l : List RawRec) (s : State) : Ans × State :=
  if s.line.st == .capturing || s.line.st == .seam then
    let w : ReconfWait := if change = 1 then .defer else if change = 2 then .forceSeam else .atLine (pu c 0 4)
    deferCmd c (.reconf w l) (endDeferred (fun x => isReconf x.act) stState 0x0103 0xFFFFFFFF s)
  else
    let held := s.line.resume.isSome && !s.line.fresh
    let from_ := if held then s.line.resume else if s.line.settling then some s.achr.next else none
    done [] (modSeam (fun m => { m with reconf := m.reconf || held }) (applyReconf l from_ s))

/-- The records as they came. -/
def reconfRecords (c : Cmd) (change : Nat) (d : Decl) (bs : List Byte) (s : State) : Ans × State :=
  let fail (e : DFail) : Ans × State := (.reply e.status e.detail e.payload, s)
  let running := s.line.st == .capturing || s.line.st == .seam || s.line.resume.isSome
  match readReplacement d.records bs with
  | .error e => fail e
  | .ok l =>
    match checkReplacement d running l s with
    | .error e => fail e
    | .ok d' =>
      if segmentsChange d d' && s.line.st != .ready && s.line.st != .frozen then refuse stBadArg 0x0108 s
      else reconfTake c change l s

/-- R163: the payload's shape: LINE and a reserved word, then the records or an upload reference. -/
def reconfShape (c : Cmd) : List Check :=
  [if modBit c 2 then shape ([.u 4, .r 4] ++ uploadFields) c else need (decide (8 ≤ c.req.payload.length)) stBadArg 0,
    need (pu c 4 4 == 0) stBadArg 4]

/-- LINE.RECONFIGURE. -/
def vLineReconfigure (c : Cmd) (s : State) : Ans × State :=
  let change := modField c 0 2
  let up := modBit c 2
  match s.decl with
  | none => checked ([objIs [kDevice] c s, modsIn 7 c] ++ reconfShape c) s (refuse stState 0 s)
  | some d =>
    checked ([objIs [kDevice] c s, modsIn 7 c] ++ reconfShape c ++ [reconfMode change s,
        need (!(change == 3 && s.line.st == .capturing && tooLate (pu c 0 4) s)) stBadArg 0x0109,
        stateIn [.ready, .armed, .capturing, .seam, .frozen] s, midRun change s,
        need (changeAllowed change s) stState 0x0102]) s <|
      if up then
        let r := upload 8 c s
        match r.1 with
        | .inl e => refuse e.1 e.2 r.2
        | .inr bs => reconfRecords c change d bs r.2
      else reconfRecords c change d (c.req.payload.drop 8) s

/-! ### LINE.MIRROR and LINE.STATUS -/

/-- LINE.MIRROR (R174, R385, R389). -/
def vLineMirror (c : Cmd) (s : State) : Ans × State :=
  let p := modField c 0 3
  let n := pu c 0 2
  checked [objIs [kDevice, kSegment] c s, modsIn 7 c, shape [.u 2] c, need (decide (p ≤ 5)) stBadArg 0,
      need (decide (1 ≤ n)) stBadArg 0, declared s] s <|
    let sel : MirrorSel :=
      { point := p, seg := if objKind c.req.obj = kSegment then some (objIdx c.req.obj) else none, decimate := n }
    let t := modAchr (fun a => { a with mirror := { a.mirror with next := some sel } }) s
    if lineFlow t then (.wait .mirror, t) else done [] (takeMirror t)

/-- LINE.STATUS (R174). In follower mode, where there is no speed, its index is 0xFF, as the line header's (DESIGN CHOICE,
log 90). -/
def vLineStatus (c : Cmd) (s : State) : Ans × State :=
  checked [objIs [kDevice] c s, modsIn 0 c, noPayload c, declared s] s <|
    done ([b8 (lineCode s.line.st), b8 (speedByte s), 0#8, 0#8] ++ leBytes 4 (lastAdm s) ++ leBytes 4 (lastDeliv s) ++
      wordBytes s.line.epoch ++ leBytes 4 s.line.seams ++ leBytes 4 s.line.gaps) s

end Sys2Proof.Machine
end

