-- ==== Sys2Proof/Machine/Retain.lean ====
section
/-! DEFINITION. Retention memory (R734, R735): what entry to Doze or Deep standby writes, and what a wake or the first
declaration after it restores (R736, R741). -/

namespace Sys2Proof.Machine

/-- A field in a byte of retention memory at place `o`. -/
def retU (b : List Byte) (o n : Nat) : Nat := uAt b o n
def retS (b : List Byte) (o n : Nat) : Int := sAt b o n

/-- R736, R734: φ in 2^-40. -/
def phiFixed (q : Rat) : Int := (q * ((2 ^ 40 : Nat) : Rat)).floor

/-- R734: the Prism values. -/
def retainPrism (s : State) : List Byte :=
  let c := s.prism.cfg
  leBytes 2 (nodeId s) ++ [b8 (s.prism.incident.getD 0xFF), b8 ((c.map DPrism.ports).getD 0), b8 s.prism.depth,
    b8 (if s.prism.root then 0 else 1)] ++ leBytes 2 s.prism.expect ++ leBytes 4 ((c.map DPrism.systemId).getD 0) ++
    leInt 4 (phiFixed s.time.phi) ++ leBytes 8 (sysNs s) ++ List.replicate 8 0#8

/-- R734: one axis. -/
def retainAxis (s : State) (a : Nat) : List Byte :=
  let enc := axisEnc s a
  leInt 4 (ax s a).pos ++ [b8 (axCode (ax s a).st), 0#8] ++ leInt 6 (if enc < 4 then (encd s enc).count else 0) ++
    List.replicate 4 0#8

def retainLane (l : Lane) : List Byte := [b8 l.tap, b8 l.boost] ++ leInt 1 l.slicer ++ [b8 (roleCode l.role)]

/-- R734: the bytes 0x000 to 0xFFB. -/
def retainBody (origin : Nat) (s : State) : List Byte :=
  let head := leBytes 4 0x52544E31 ++ leBytes 4 origin ++ leBytes 8 (declDigest s)
  let image := bytesAt ((s.boot.image.map ImageInfo.signedDigest).getD []) 0 32 ++ wordBytes s.boot.fwVersion ++
    leBytes 4 s.boot.source ++ List.replicate 8 0#8
  let wake := [b8 s.wake.enable, b8 s.wake.polarity, b8 (s.wake.i2cAddr.getD 0)] ++ List.replicate 13 0#8
  let axes := (List.range 4).flatMap (retainAxis s)
  let lanes := (List.range 24).flatMap fun n => (vget s.ports n).lanes.toList.flatMap retainLane
  let lamps := s.lamps.toList.flatMap fun x => x.lamps.toList
  let duty := lamps.flatMap fun l => leBytes 2 l.duty
  let trim := lamps.flatMap fun l => leInt 1 l.trim
  let ff := s.lamps.toList.flatMap fun x => x.ff.toList.flatMap (leInt 1)
  let force := s.lampLink.force.toList.flatMap (leBytes 2)
  bytesAt (head ++ image ++ wake ++ retainPrism s ++ axes ++ lanes ++ duty ++ trim ++ ff ++ force) 0 4092

/-- R734: the whole memory, with its CRC. -/
def retention (origin : Nat) (s : State) : List Byte :=
  let b := retainBody origin s
  b ++ wordBytes (crc32 b)

/-- R735: MAGIC and the CRC are right. -/
def retentionOk (b : List Byte) : Bool :=
  b.length == 4096 && retU b 0 4 == 0x52544E31 && crc32 (b.take 4092) == w32 (retU b 4092 4)

/-! ### Restoring -/

def roleOf : Nat → LaneRole
  | 0 => .data
  | 1 => .spare
  | 2 => .copy
  | _ => .training

/-- R280: the settings of one lane, from place `o`. -/
def restoreLane (b : List Byte) (o : Nat) (l : Lane) : Lane :=
  { l with tap := retU b o 1, boost := retU b (o + 1) 1, slicer := retS b (o + 2) 1, role := roleOf (retU b (o + 3) 1) }

/-- R280: the lane settings. -/
def restoreLanes (b : List Byte) (s : State) : State :=
  let port (n : Nat) (p : PortU) : PortU := { p with lanes := vmapIdx (fun x l => restoreLane b (0x0B0 + 16 * n + 4 * x) l) p.lanes }
  { s with ports := vmapIdx port s.ports }

/-- R736, R741: duties, trims and the feed-forward table of one string. -/
def restoreStr (b : List Byte) (n : Nat) (x : LampStr) : LampStr :=
  let lamp (j : Nat) (l : Lamp) : Lamp := { l with duty := retU b (0x230 + 2 * (24 * n + j)) 2, trim := retS b (0x530 + 24 * n + j) 1 }
  { x with ff := vmapIdx (fun k _ => retS b (0x6B0 + 25 * n + k) 1) x.ff, lamps := vmapIdx lamp x.lamps }

/-- R736, R741: duties, trims, feed-forward tables and BYP_FORCE masks. -/
def restoreLamps (b : List Byte) (s : State) : State :=
  let force := vmapIdx (fun k _ => retU b (0x840 + 2 * k) 2) s.lampLink.force
  { s with lamps := vmapIdx (restoreStr b) s.lamps, lampLink := { s.lampLink with force := force } }

/-- R736, R737: axis positions and encoder counts. -/
def restoreAxes (b : List Byte) (s : State) : State :=
  (List.range 4).foldl (fun t a =>
    let o := 0x070 + 16 * a
    let u := modAx a (fun x => { x with pos := retS b o 4 }) t
    if axisEnc s a < 4 then modEnc (axisEnc s a) (fun e => { e with count := signed 48 (retU b (o + 6) 6) }) u else u) s

/-- R709, R736: the node's ID and port roles, φ and the system time. -/
def restorePrism (b : List Byte) (s : State) : State :=
  let o := 0x050
  let inc := retU b (o + 2) 1
  let root := retU b (o + 5) 1 == 0
  { s with
    time := { s.time with phi := (retS b (o + 12) 4 : Rat) / ((2 ^ 40 : Nat) : Rat) }
    prism := { s.prism with
      incident := if inc < 3 then some inc else none, depth := retU b (o + 4) 1, root := root, expect := retU b (o + 6) 2 } }

/-- R707, R709: the node joins again without PRISM.JOIN. -/
def rejoin (s : State) : State :=
  match s.prism.cfg with
  | none => s
  | some _ =>
    let t := (List.range 3).foldl (fun t p => if pDeclared t p then modPort p (fun x => { x with enabled := true }) t else t) s
    if t.prism.root then { t with prism := { t.prism with join := .joined, depth := 0, offset := 0 } }
    else { t with prism := { t.prism with join := .linking, orphan := true } }

end Sys2Proof.Machine
end

