-- ==== Sys2Proof/Machine/Declare.lean ====
section
/-! DEFINITION. DECLARE.BOARD and DECLARE.QUERY (R172, R210 to R213, R822), what an accepted declaration brings up and
changes (R322, R351, R502, R554, R597, R659, R708, R731, R741, R777), and DRAM training (R749, R750): the row
DRAM_TRAINING_END. -/

namespace Sys2Proof.Machine

/-! ### DRAM training, and the link bring-up that follows it -/

/-- R212, step 5: training has ended, whether it succeeded or failed: RPT.DRAM_READY, and the bring-up of the ports that
waited for it. -/
def dramEnd (code mib : Nat) (s : State) : State :=
  let t := unwaitGrant .dram .dramTraining (modLine (fun l => { l with
    dram := some code, dramMib := mib, dramAsk := none, dramRun := false, bringDue := [] }) s)
  let t := report 0x0012 [code, mib] (if code = 0 then t else logFault 0x000B [code] t)
  checkLinkReady (s.line.bringDue.foldl (fun u n => startBringup n u) t)

/-- R749: the grant of DRAM training is asked for. -/
def dramTry (s : State) : State :=
  let a := askGrant .dram .dramTraining [(dDramBudget s, 2500)] 250000000 s
  if a.1 then modLine (fun l => { l with dramRun := true }) (unwaitGrant .dram .dramTraining a.2)
  else waitGrant .dram .dramTraining a.2

/-- DRAM_TRAINING_END (R750): the channels' result and the trained capacity. -/
def execDramTrainingEnd (code mib : Nat) (s : State) : Host.Outcome State Fault Refusal :=
  settled (match s.decl with
    | none => s
    | some d =>
      if !s.line.dramRun || !fwRunning s || 3 < code then s
      else
        let c := if code = 0 && mib != 1024 * d.dram.sizeGib then 2 else code
        dramEnd c mib (returnGrants .dram s))

/-! ### What an acceptance changes -/

/-- The records of some types. -/
def recordsOf (types : List Nat) (l : List RawRec) : List RawRec := l.filter fun r => types.contains r.type

/-- One record. -/
def recordAt (l : List RawRec) (t i : Nat) : Option (List Byte) := (findRec l t i).map RawRec.body

/-- R663, R708: the PRISM record takes effect; a different one takes the node out of its tree first. -/
def acceptPrism (d : Decl) (s : State) : State :=
  if s.prism.cfg == d.prism && d.prism.isSome then s
  else
    let t := if s.prism.cfg.isSome then prismLeave s else s
    let root := match d.prism with | some p => p.root | none => true
    { t with prism := { t.prism with
      cfg := d.prism, root := root, incident := if root then none else some 0, depth := 0, offset := 0
      expect := (d.prism.map DPrism.expect).getD 0 } }

/-- R777: everything still undelivered is discarded. -/
def discardUndelivered (s : State) : State :=
  let t := modDeliv (fun u => { u with
    slots := [], old := [], streams := [], claim := 0, refusing := false, gapLog := [], gapOpen := none, gapBuf := none
    loupeBuf := none, seam := {} }) s
  let t := modAchr (fun a => { a with
    mirror := { a.mirror with buf := [], dropped := 0 }, base := none, next := 0, first := 0, stored := 0, lastPos := none
    winFirst := 0, counts := {}, transition := none, epochFrom := none }) t
  { t with caps := [], loupe := { t.loupe with
    cur := none, finalised := [], packets := [], lost := 0, lastInput := none, baseline := [none, none, none] } }

/-- R322, R338, R351, R383: banks, hot marks, shifts and the coefficient set. -/
def acceptImage (old : Option Decl) (d : Decl) (s : State) : State :=
  let shape := d.segments.map DSegment.pixels
  let t := if s.cal.shape != shape then emptyBanks s else s
  let t := { t with cal := { t.cal with shape := shape, hot := [] } }
  let keep := match old with
    | some o => o.geometry.outDpi == d.geometry.outDpi && o.system.nativeDpi == d.system.nativeDpi
    | none => false
  modAchr (fun a => { a with
    place := vmapIdx (fun n _ => { shift := (d.segments.getD n default).shift }) a.place
    hist := Vector.replicate 24 [], custom := if keep then a.custom else none }) t

/-- A port whose segment is no longer declared, or whose bring-up is to begin afresh: its timing lane stops. -/
def portOff (n : Nat) (s : State) : State :=
  let t := dropClaims (.port n) (returnGrants (.port n) (unwaitGrant (.port n) .digitizer s))
  endBusy (Busy.isLanes n) stState 0 [] (modSeg n (fun p => { p with
    st := .off, bring := .none, rot := .idle, recal := 0, regQ := [], regOut := [], rxSeq := none, apply := false
    retried := false, tx := {}, lanes := vmap (fun l => { l with train := none, aligned := false }) p.lanes }) t)

/-- R212: the ports whose SEGMENT record differs, those that are FAILED, and all after a reset. -/
def portsDue (old : Option Decl) (d : Decl) (s : State) : List Nat :=
  (List.range d.segments.length).filter fun n =>
    (sport s n).st == .failed || (sport s n).st == .off ||
      (match old with
       | some o => recordAt o.records 3 n != recordAt d.records 3 n
       | none => true)

/-- R538, R554: an axis of the new declaration: DISABLED, unless it is not at standstill. One whose queued moves pass a
new limit falls to standstill. An axis no longer declared is held off (R528). -/
def acceptAxis (d : Decl) (a : Nat) (s : State) : State :=
  let off (t : State) : State := modAx a (fun x => { x with st := .disabled, en := false, step := false, iref := 0, irefTo := 0 })
    ((drivesOver t a).foldl (fun t k => modDrv k (fun _ => {}) t) t)
  match assoc d.axes a with
  | none => off s
  | some x =>
    if axStill s a then off s
    else
      (drivesOver s a).foldl (fun t k =>
        let beyond := (drv t k).queue.any fun m => let e := m.ends.getD a 0; decide (e < x.limMin ∨ x.limMax < e)
        if !beyond then t
        else if still (drv t k) then modDrv k (fun v => { v with queue := [] }) t
        else beginFall false k t) s

/-- R536, R538: axes and encoders. -/
def acceptMotion (d : Decl) (s : State) : State :=
  let t := (List.range 4).foldl (fun t a => acceptAxis d a t) s
  let t := d.encoders.foldl (fun t e => modEnc e.1 (fun x => { x with indexDue := e.2.useIndex, count := 0 }) t) t
  modCmp (fun c => { c with pitch := comparePitch d, gridPitch := comparePitch d, capPitch := d.geometry.capPitch, g0 := none, index := 0 }) t

/-- R582, R597: a sensor whose record differs starts afresh. -/
def acceptSensor (old : Option Decl) (d : Decl) (n : Nat) (s : State) : State :=
  let before := old.bind fun o => recordAt o.records 0x20 n
  if before == recordAt d.records 0x20 n then s
  else modSen n (fun _ => { start := s.localNs, due := s.localNs, readAt := s.localNs })
    { s with therm := { s.therm with slot := if s.therm.slot = some n then none else s.therm.slot } }

/-- R487, R502, R513: strings and the lamp link. -/
def acceptLamps (old : Option Decl) (d : Decl) (s : State) : State :=
  let t := (List.range 16).foldl (fun t n =>
    let t := modStr n (fun x => { x with learned := false }) t
    if (assoc d.strings n).isSome || (str t n).st == .off then t else modStr n (fun x => { x with st := .off }) (stageOff n t)) s
  let same := match old with
    | some o => recordsOf [0x10, 0x11] o.records == recordsOf [0x10, 0x11] d.records
    | none => false
  if d.strings.isEmpty then
    { t with lampLink := { t.lampLink with
        st := .off, bring := .idle, queue := [], flight := none, tx := [], markSlot := none, applyLeft := none, stage := none } }
  else if same && t.lampLink.st == .up then t
  else startLink t

/-- R731: the WAKE record writes the always-on domain's wake settings. -/
def acceptWake (d : Decl) (s : State) : State :=
  match d.wake with
  | some w => { s with wake := { s.wake with
      enable := w.enable, polarity := w.polarity, i2cAddr := if bit w.enable 4 then some w.i2cAddr else none } }
  | none => s

/-- R741, R709: the values retained over Deep standby, when the declaration carries the retained digest; otherwise they are
discarded. -/
def acceptRetained (s : State) : State :=
  if !s.prism.retained then s
  else
    let t := { s with prism := { s.prism with retained := false } }
    match s.wake.retention with
    | some b =>
      if retU b 8 8 = declDigest s then rejoin (restorePrism b (restoreLamps b (restoreLanes b t))) else t
    | none => t

/-- R212, step 5: DRAM first, when its record differs or after a reset; the Segment link once training has ended. -/
def acceptBringup (old : Option Decl) (d : Decl) (due : List Nat) (s : State) : State :=
  let t := modLine (fun l => { l with bringDue := due, linkDue := true, linkReady := none }) (due.foldl (fun t n => portOff n t) s)
  let t := (List.range 24).foldl (fun t n => if n < d.segments.length then t else portOff n t) t
  let same := match old with
    | some o => recordAt o.records 0x50 0 == recordAt d.records 0x50 0
    | none => false
  if !same then dramTry (modLine (fun l => { l with dram := none, dramRun := false, dramAsk := some s.localNs }) (returnGrants .dram t))
  else match s.line.dram with
    | some c => dramEnd c s.line.dramMib t
    | none => t

/-- R212: the acceptance. -/
def acceptDeclaration (d : Decl) (s : State) : State :=
  let old := if s.line.st == .booted then none else s.decl
  let due := portsDue old d s
  let cams := (List.range 2).filter fun n => match old with
    | some o => recordAt o.records 0x70 n != recordAt d.records 0x70 n
    | none => true
  let t := cams.foldl (fun t n => camRedeclared n t) (acceptPrism d s)
  let t := endDeferred (fun x => isReconf x.act) stState 0x0100 0xFFFFFFFF t
  let t := { t with decl := some d, limit := fillLimits d.records t.limit }
  let t := bumpEpoch (modLine (fun l => { l with
    resume := none, settling := false, drain := .none, fresh := false, resuming := false }) (discardUndelivered t))
  let t := acceptLamps old d (acceptMotion d (acceptImage old d (clampExps d t)))
  let t := (List.range 8).foldl (fun t n => acceptSensor old d n t) t
  let t := acceptRetained (acceptWake d t)
  acceptBringup old d due (setLineState .declared 0x0301 (syncAgree t))

/-! ### The verbs -/

/-- The digests of a declaration (R213). -/
def digestReply (d : Decl) : List Byte :=
  leBytes 8 (recordsDigest d.records) ++ leBytes 8 (recordsDigest (d.records.filter fun r => r.type == 1 || r.type == 2))

/-- DECLARE.BOARD with its bytes at hand. -/
def declareBytes (checkOnly : Bool) (bs : List Byte) (s : State) : Ans × State :=
  match checkDeclaration s.limit (fwMinor s) bs with
  | .error e => (.reply e.status e.detail e.payload, s)
  | .ok d => done (digestReply d) (if checkOnly then s else acceptDeclaration d s)

/-- DECLARE.BOARD (R172, R210, R212). -/
def vDeclareBoard (c : Cmd) (s : State) : Ans × State :=
  let up := modBit c 0
  checked [objIs [kDevice] c s, modsIn 3 c, if up then shape uploadFields c else none, stateIn [.booted, .declared, .ready] s] s <|
    if up then
      let r := upload 0 c s
      match r.1 with
      | .inl e => refuse e.1 e.2 r.2
      | .inr bs => declareBytes (modBit c 1) bs r.2
    else declareBytes (modBit c 1) c.req.payload s

/-- The record that covers an object (R162, R172). A bypass device is covered by the lamp maps whose highest DEVICE is at or above
its index: the lowest-numbered string's; a group by its axes: the lowest-numbered one's; a context by the cameras: camera 0's, or
camera 1's where that alone is declared (which of several, log 73). None covers a ring. -/
def coveringRecord (d : Decl) (kind idx : Nat) : Option (Nat × Nat) :=
  match kind with
  | 4 => (d.strings.find? fun p => p.2.map.any fun l => decide (idx ≤ l.device)).map fun p => (0x11, p.1)
  | 6 => (d.axes.find? fun a => a.2.group == idx).map fun a => (0x30, a.1)
  | 10 => d.cameras.head?.map fun x => (0x70, x.1)
  | 0 => some (1, 0)
  | 1 => some (3, idx)
  | 2 => some (0x10, idx)
  | 3 => some (0x11, idx / 24)
  | 5 => some (0x30, idx)
  | 7 => some (0x31, idx)
  | 8 => some (0x20, idx)
  | 9 => some (0x70, idx)
  | 12 => some (0x60, 0)
  | 13 => some (0x40, idx)
  | _ => none

/-- DECLARE.QUERY (R172): any declared object; a data ring, which no record covers, is refused with ST_BAD_OBJECT (log 73). -/
def vDeclareQuery (c : Cmd) (s : State) : Ans × State :=
  checked [objIs (List.range 14) c s, modsIn 0 c, noPayload c, declared s] s <|
    match s.decl.bind fun d => (coveringRecord d (objKind c.req.obj) (objIdx c.req.obj)).map fun k => (d, k) with
    | some (d, k) =>
      match findRec d.records k.1 k.2 with
      | some r => done (recBytes r) s
      | none => refuse stNotDeclared 0 s
    | none => refuse stBadObject 0 s

end Sys2Proof.Machine
end

