-- ==== Sys2Proof/Machine/Reset.lean ====
section
/-! DEFINITION. Resets (R35 to R45, R827), their effects (R36 to R40, R106, R155), the watchdog's (R69, R70) and the thermal
shutdown's (R41), the debug port's (R71 to R76), clock faults (R34) and power-up sequencing (R788): the rows POWER_ON,
RESET_N_LOW, PERST_N_FALL, PERST_N_RISE, SOFT_RESET_CORE, SOFT_RESET_CONTROL, THERMAL_SHUTDOWN, THERMAL_SHUTDOWN_RELEASE,
WATCHDOG_EXPIRY, DEBUG_RESET_REQUEST, DEBUG_CHALLENGE_RESPONSE, DEBUG_HALT, DEBUG_HALT_RELEASE, TAP_RESET, CLOCK_FAULT,
REFERENCE_RETURN, SUPPLY_LOSS and PWR_EN_SEQUENCE_TIMER. -/

namespace Sys2Proof.Machine

/-! ### The effects that faults share (R765) -/

/-- R765, class S: the effects of CAPTURE.FREEZE, LAMPS.SAFE and HALT.MOTION. -/
def classS (s : State) : State := haltMotion (lampsSafe (captureFreeze 0 true s))

/-- The lifetime counters as firmware holds them and as the store holds them. -/
def countLife (f : Lifetime → Lifetime) (s : State) : State :=
  { s with live := { s.live with life := f s.live.life }, store := { s.store with lifetime := f s.store.lifetime } }

/-- R754, R755: what firmware holds after a start: the store's values. -/
def liveFromStore (u : StoreU) : LiveCounters := { life := u.lifetime, lamps := u.ageing }

/-! ### Core and system resets (R36) -/

/-- The PCIe link and configuration space, kept while the rest of the host link's registers are reset (R36). -/
def keptLink (u : HostU) : HostU :=
  { linkSpeed := u.linkSpeed, linkWidth := u.linkWidth, linkDown := u.linkDown, link := u.link, pci := u.pci }

/-- The same of MSI-X: its capability, table and pending bits (R36, R78; log 64). -/
def keptMsix (u : IntU) : IntU := { msixOn := u.msixOn, msixMasked := u.msixMasked, table := u.table, pba := u.pba }

/-- What a loss of the core's state leaves: the always-on domain, the store and the flash; the PCIe link's own state where
it is kept. -/
def coreWiped (keepLink : Bool) (s : State) : State :=
  { ({} : State) with
    pending := s.pending, localNs := s.localNs, freeCtr := s.freeCtr, outbox := s.outbox
    pins := { s.pins with faultLow := true }
    rst := { s.rst with d3hot := keepLink && s.rst.d3hot }
    clk := { ({} : ClockU) with refRunning := s.clk.refRunning, clockFault := !s.clk.refRunning }
    boot := { ({} : BootU) with endpointOn := keepLink && s.boot.endpointOn }
    flash := s.flash, wake := s.wake, store := s.store, live := liveFromStore s.store
    power := { ({} : PowerU) with seqAt := s.power.seqAt, seqDown := s.power.seqDown }
    int := if keepLink then keptMsix s.int else {}
    host := if keepLink then keptLink s.host else {} }

/-- R42: a reset of core or system scope is in effect. -/
def wideReset (s : State) : Bool := s.rst.inEffect == some .core || s.rst.inEffect == some .system

/-- R827: PERST_N low holds the PCIe link and configuration space in reset, and nothing else. -/
def linkHeld (s : State) : State :=
  { s with
    rst := { s.rst with d3hot := false }
    int := { s.int with msixOn := false, msixMasked := false, table := Vector.replicate 64 {}, pba := 0#64 }
    host := { s.host with linkSpeed := 0, linkWidth := 0, linkDown := false, link := .detect, pci := {} } }

/-- A core reset takes hold (R35, R36, R45). -/
def coreReset (cause : Nat) (keepLink : Bool) (s : State) : State :=
  let t := coreWiped keepLink s
  { t with
    rst := { t.rst with inEffect := some .core, cause := t.rst.cause ||| (1#32 <<< cause) }
    wake := { t.wake with retention := none } }

/-- A system reset takes hold: the always-on domain is cleared (R36, R45, R723, R731). -/
def systemReset (cause : Nat) (s : State) : State :=
  let t := coreWiped false s
  { t with
    rst := { inEffect := some .system, byPin := cause == 1, cause := 1#32 <<< cause, thermalHold := s.rst.thermalHold }
    pins := { t.pins with wakeAsserted := false }
    wake := {} }

/-! ### Control resets (R36 to R40, R104, R126, R134, R167, R823) -/

/-- R823: a bring-up in progress takes no further step; lane training already begun completes. -/
def endBringup (p : PortU) : PortU :=
  { p with bring := .none, regQ := [], regOut := [], recal := 0, frozen := false, retried := false }

/-- Firmware's own state is cleared (R36, R38, R134, R167, R458). -/
def firmwareCleared (s : State) : State :=
  let u := s.grants
  trackOver { s with
    fw := { lastTag := s.fw.lastTag }
    line := { s.line with
      dramRun := false, dramAsk := none, bringDue := [], linkDue := false, linkReady := none, dram := none, epoch := 0#32 }
    ports := vmap endBringup s.ports
    cal := { s.cal with run := none, swapping := false, hot := [], copy := .idle }
    loupe := { s.loupe with
      lines := 1024, nextNumber := 0, colBin := 1, zones := 16, freq := [], anomaly := {}, alarms := [], pendingSet := []
      tripped := 0
      baseline := [none, none, none], lastBins := none }
    achr := { s.achr with mirror := { s.achr.mirror with next := none } }
    prism := { s.prism with
      joinAt := none, ownAns := none, heldArm := none, armAt := none, relayIn := [], relayQ := [], relayCur := none }
    grants := { u with grants := [], waiting := [], refusedRuns := [], guard := Vector.replicate 8 none }
    power := { s.power with
      trans := if s.power.trans == .waking then .waking else .none, wakeDue := none, wakeForVerb := false
      stored := none, idleOkSince := none, dozeOkSince := none }
    live := liveFromStore s.store }

/-- R38: the unread commands are discarded. -/
def discardCommands (s : State) : State :=
  let r := s.host.cmd
  { s with
    host := { s.host with cmd := { r with head := r.tail, served := r.tail } }
    boot := { s.boot with discarded := (r.tail - r.head).toNat } }

/-- R39: no declaration is held; lines already captured go on as at the end of a run (R777). -/
def lineBooted (s : State) : State :=
  modSeam (fun m => { m with phase := .off }) (modLine (fun l => { l with
    st := .booted, admitting := false, start := none, drain := .none, resume := none, resuming := false, system := false
    fresh := false, frozenFault := false, treeStops := []
    settling := l.settling || l.resume.isSome || l.st == .seam }) s)

/-- R70: firmware has held RUNNING for 10 s. -/
def heldTen (s : State) : Bool :=
  match s.boot.runningSince with
  | some t => decide (t + 10000000000 ≤ s.localNs)
  | none => false

/-- A control reset takes hold (R37): the class S effects, then the control processor is reset. Ignored while a reset of
equal or wider scope is in effect (R42). -/
def controlReset (cause : Nat) (s : State) : State :=
  if s.rst.inEffect.isSome then s
  else
    let u := setStage .reset s
    let t := { u with boot := { u.boot with fwVersion := 0#32, wdogRunning := false, wdogPaused := false,
                                            runningSince := none, restartDue := true, flashTry := none
                                            loopCount := if heldTen s then 0 else u.boot.loopCount } }
    let t := lineBooted (classS (firmwareCleared t))
    let t := discardCommands { t with
      rst := { t.rst with inEffect := some .control, cause := t.rst.cause ||| (1#32 <<< cause) }
      clk := { t.clk with pllActive := false }
      dbg := { t.dbg with halted := false } }
    driveFault (settleIfDone t)

/-! ### Reports of clock faults (R34, R772) -/

/-- R756, R772: firmware commits one RPT.CLOCK_FAULT, and logs a fault (word 4 bits 0 and 1). -/
def commitClock (s : State) (body : List Nat) : State :=
  report 0x00C2 body (if bits (body.headD 0) 0 2 = 0 then s else logFault 0x0008 [] s)

/-- R34: what waits for firmware is committed once it executes. -/
def clockFlush (s : State) : State :=
  if fwActive s && !s.clk.due.isEmpty then s.clk.due.foldl commitClock { s with clk := { s.clk with due := [] } } else s

/-- R34, R772: RPT.CLOCK_FAULT with this word 4 is queued: firmware commits it at once, or when it next executes. -/
def clockReport (w4 : Nat) (s : State) : State :=
  clockFlush { s with clk := { s.clk with due := s.clk.due ++ [[w4, s.clk.stateBefore, s.clk.faultCount, lastAdm s]] } }

/-! ### The sources (R35) -/

/-- POWER_ON: VAON rises through its threshold. -/
def execPowerOn (s : State) : Host.Outcome State Fault Refusal :=
  let t := systemReset 0 { s with pins := { resetLow := s.pins.resetLow }, clk := { s.clk with refRunning := true } }
  settled { t with power := { t.power with seqAt := some s.localNs, seqDown := false } }

/-- R35, R42: the reset that RESET_N asks for takes hold. -/
def pinReset (s : State) : State :=
  let t := systemReset 1 s
  if s.power.present == .deep then { t with power := { t.power with seqAt := some s.localNs, seqDown := false } } else t

/-- RESET_N_LOW (R35, R42): the pin has been low for so many ns, and has been released since or is low still. A held level
that comes while a system reset is in effect takes hold when that reset ends (BOOT_ROM_START). -/
def execResetNLow (low : PinLow) (s : State) : Host.Outcome State Fault Refusal :=
  let t := { s with pins := { s.pins with resetLow := !low.released && (s.pins.resetLow || decide (1000 ≤ low.ns)) } }
  settled (if 1000 ≤ low.ns && s.rst.inEffect != some .system then pinReset t else t)

/-- PERST_N_FALL (R827, R739). -/
def execPerstNFall (s : State) : Host.Outcome State Fault Refusal :=
  let t := linkHeld { s with pins := { s.pins with perstHigh := false } }
  settled (if !s.pins.perstHigh || wideReset s || s.power.present == .deep || s.power.trans == .deepEntry || s.pins.wakeAsserted ||
      !s.pins.pwrEnCore then t
    else coreReset 2 false t)

/-- PERST_N_RISE (R60, R738, R827): WAKE_N is released. -/
def execPerstNRise (s : State) : Host.Outcome State Fault Refusal :=
  settled { s with pins := { s.pins with perstHigh := true, wakeAsserted := false } }

/-- SOFT_RESET_CORE (R44): a write of SOFT_RESET. -/
def softResetCore (v : Word) (s : State) : State :=
  if bits v.toNat 16 16 = 0xD1E5 && bit v.toNat 0 && !wideReset s then
    let t := coreReset 3 true s
    { t with rst := { t.rst with bootFromHost := bit v.toNat 4 } }
  else s

/-- SOFT_RESET_CONTROL (R44). -/
def softResetControl (v : Word) (s : State) : State :=
  if bits v.toNat 16 16 = 0xD1E5 && bit v.toNat 1 && !bit v.toNat 0 then controlReset 6 s else s

/-- SOFT_RESET_CORE, SOFT_RESET_CONTROL: a write of SOFT_RESET that reaches the device (R84). -/
def execSoftResetCore (v : Word) (s : State) : Host.Outcome State Fault Refusal :=
  settled (if hostReach s then softResetCore v s else s)
def execSoftResetControl (v : Word) (s : State) : Host.Outcome State Fault Refusal :=
  settled (if hostReach s then softResetControl v s else s)

/-- THERMAL_SHUTDOWN (R41, R42): a held level, which takes hold once a wider or equal reset has ended. -/
def execThermalShutdown (s : State) : Host.Outcome State Fault Refusal :=
  let t := { s with rst := { s.rst with thermalHold := true } }
  settled (if s.power.present == .deep then s
    else if wideReset s then t
    else
      let u := coreReset 4 true t
      { u with rst := { u.rst with thermalFlag := true } })

/-- THERMAL_SHUTDOWN_RELEASE (R41). -/
def execThermalShutdownRelease (s : State) : Host.Outcome State Fault Refusal :=
  settled { s with rst := { s.rst with thermalHold := false } }

/-- R61, R69, R76: the watchdog counts: it has been started, no halt pauses it, and its reference runs. -/
def wdogCounts (s : State) : Bool := s.boot.wdogRunning && !s.boot.wdogPaused && s.clk.refRunning

/-- R69: the watchdog has counted WDOG_MS of the running image since it was started; firmware's kicks after that are the
sender's to tell: the row comes only where none came within WDOG_MS (log 83). -/
def wdogDue (s : State) : Bool := decide (((s.boot.image.map ImageInfo.wdogMs).getD 0) * 1000000 ≤ s.boot.wdogNs)

/-- WATCHDOG_EXPIRY (R69, R70). -/
def execWatchdogExpiry (s : State) : Host.Outcome State Fault Refusal :=
  settled (
    if !wdogCounts s || !wdogDue s || s.rst.inEffect.isSome then s
    else
      let t := logFault 0x0002 [] { s with boot := { s.boot with
        wdogCount := min 15 (s.boot.wdogCount + 1), loopCount := if heldTen s then 1 else s.boot.loopCount + 1
        runningSince := none } }
      controlReset 7 (countLife (fun l => { l with wdogs := min (l.wdogs + 1) (2 ^ 32 - 1) }) t))

/-- SUPPLY_LOSS (R790): every domain is lost; the store and the flash keep their contents. -/
def execSupplyLoss (s : State) : Host.Outcome State Fault Refusal :=
  settled { ({} : State) with
    pending := s.pending, localNs := s.localNs, freeCtr := s.freeCtr, outbox := s.outbox, flash := s.flash, store := s.store
    live := liveFromStore s.store, power := { ({} : PowerU) with seqAt := none }
    clk := { ({} : ClockU) with refRunning := false } }

/-- PWR_EN_SEQUENCE_TIMER (R726, R788). -/
def execPwrEnSequenceTimer (s : State) : Host.Outcome State Fault Refusal :=
  settled (match s.power.seqAt with
    | none => s
    | some t0 =>
      let put (p : Pins) (a : Option Nat) : State := { s with pins := p, power := { s.power with seqAt := a } }
      if s.power.seqDown then
        if t0 + 100000 ≤ s.localNs then put { s.pins with pwrEnIo := false } none else s
      else if !s.pins.pwrEnIo then
        if t0 + 1000000 ≤ s.localNs then put { s.pins with pwrEnIo := true } (some s.localNs) else s
      else if !s.pins.pwrEnCore then
        if t0 + 2000000 ≤ s.localNs then put { s.pins with pwrEnCore := true } none else s
      else put s.pins none)

/-! ### The debug port (R71 to R76) -/

/-- DEBUG_RESET_REQUEST (R35). -/
def execDebugResetRequest (s : State) : Host.Outcome State Fault Refusal :=
  settled (if s.dbg.openScope = some 1 then controlReset 8 s else s)

/-- R73: the 32 bytes of a challenge: the nonce, the device's unique identifier and 8 zero bytes. -/
def challengeBytes (nonce : List Byte) : List Byte := nonce ++ bytesAt Config.uniqueId 0 8 ++ List.replicate 8 0#8

/-- R73, R74: a challenge is put out, with a fresh nonce of 16 free bytes from the on-chip random source, unless the port
refuses responses or a challenge is outstanding (when the port does so is the model's choice, log 84). -/
def issueChallenge (s : State) : State :=
  if 3 ≤ s.dbg.failures || s.dbg.nonce.isSome then s
  else
    let f := takeFree s
    let nonce := leBytes 16 f.1
    emit (.challenge (challengeBytes nonce)) { f.2 with dbg := { f.2.dbg with nonce := some nonce } }

/-- R73: the response verifies: the key's digest is that of an unrevoked slot, and the signature is over the challenge and
the scope. -/
def responseOk (s : State) (nonce : List Byte) (scope : Byte) (key signature : List Byte) : Bool :=
  let slot := (List.range 4).any fun k => !bit s.store.revoked k && sha256 key == Config.romKeyDigest k
  slot && key.length == 64 && signature.length == 64 && scope.toNat ≤ 1 &&
    Config.ecdsaVerify key (sha256 (challengeBytes nonce ++ [scope])) signature

/-- DEBUG_CHALLENGE_RESPONSE (R73 to R75). Each nonce serves one response, and the next challenge follows it. A valid response
while the port is open replaces the scope held, be it the wider one (DESIGN CHOICE, log 84). -/
def execDebugChallengeResponse (scope : Byte) (key signature : List Byte) (s : State) : Host.Outcome State Fault Refusal :=
  settled (
    match s.dbg.nonce with
    | none => s
    | some nonce =>
      if 3 ≤ s.dbg.failures || wideReset s || s.power.present == .deep then s
      else
        let t := { s with dbg := { s.dbg with nonce := none } }
        issueChallenge (if responseOk t nonce scope key signature then
          logFault 0x0004 [scope.toNat] { t with dbg := { t.dbg with openScope := some scope.toNat } }
        else { t with dbg := { t.dbg with failures := t.dbg.failures + 1 } }))

/-- DEBUG_HALT (R76). -/
def execDebugHalt (s : State) : Host.Outcome State Fault Refusal :=
  settled (if s.dbg.openScope = some 1 && !s.dbg.halted && s.rst.inEffect.isNone then
    let t := classS s
    driveFault { t with dbg := { t.dbg with halted := true }, boot := { t.boot with wdogPaused := true } }
  else s)

/-- DEBUG_HALT_RELEASE (R76). -/
def execDebugHaltRelease (s : State) : Host.Outcome State Fault Refusal :=
  settled (if s.dbg.halted then
    clockFlush (driveFault { s with dbg := { s.dbg with halted := false }, boot := { s.boot with wdogPaused := false } })
  else s)

/-- R71: levels of the pins that the boundary cells of the model's pins sample, in the order of `Pins` (log 5). -/
def boundaryCells (p : Pins) : Nat :=
  p.wakeIn + flag p.perstHigh 4 + flag p.resetLow 5 + flag p.pwrEnIo 6 + flag p.pwrEnCore 7 + flag p.wakeAsserted 8 + flag p.faultLow 9

/-- R71: what the data register of an instruction holds when the TAP has captured it: IDCODE returns the identity, BYPASS one
0 bit, SAMPLE/PRELOAD and EXTEST the boundary cells. -/
def tapCapture (i : TapInstr) (s : State) : Nat :=
  match i with
  | .idcode => 0x12472A3F
  | .bypass => 0
  | .samplePreload => boundaryCells s.pins
  | .extest => boundaryCells s.pins

/-- R71: an instruction is in the TAP, and its data register captured. All four are always available. -/
def selectTap (i : TapInstr) (s : State) : State :=
  { s with dbg := { s.dbg with tapInstruction := i, tapData := tapCapture i s } }

/-- TAP_RESET: the TAP and the debug port alone: IDCODE is selected, and the port puts out a new challenge. An unlock lasts
(R75), and so does the count of failed attempts (R74). -/
def execTapReset (s : State) : Host.Outcome State Fault Refusal :=
  let t := selectTap .idcode { s with dbg := { s.dbg with nonce := none } }
  settled (if coreOn t then issueChallenge t else t)

/-! ### Clock faults (R34, R772) -/


/-- CLOCK_FAULT (R34): the reference has stopped for 400 ns, or the root PLL has lost lock. -/
def execClockFault (refLost : Bool) (s : State) : Host.Outcome State Fault Refusal :=
  settled (
    if !(s.clk.pllLocked || (refLost && s.clk.refRunning)) then s
    else if wideReset s then
      { s with clk := { s.clk with refRunning := !refLost && s.clk.refRunning, clockFault := true,
                                   faultCount := (s.clk.faultCount + 1) % 2 ^ 32 } }
    else
      let before := lineCode s.line.st
      let t := classS s
      let t := { t with clk := { t.clk with
        refRunning := !refLost && t.clk.refRunning, pllLocked := false, pllActive := false, pllTries := 0, clockFault := true
        faultCount := (t.clk.faultCount + 1) % 2 ^ 32, stateBefore := before }, power := { t.power with avsDuty := 0 } }
      clockReport (flag refLost 0 + flag (!refLost) 1) (driveFault (anaStop t)))

/-- REFERENCE_RETURN (R34). -/
def execReferenceReturn (s : State) : Host.Outcome State Fault Refusal :=
  settled { s with clk := { s.clk with refRunning := true, pllTries := 0 } }

end Sys2Proof.Machine
end

