-- ==== Sys2Proof/Machine/Power.lean ====
section
/-! DEFINITION. The power states (R713 to R730), entry to a lower state and its refusals (R725 to R728), wakes (R731 to R738),
the I2C target (R732, R733, R776), the adaptive loop (R717 to R720): the rows POWER_REQUEST_RUN, POWER_REQUEST_IDLE,
POWER_REQUEST_DOZE, POWER_REQUEST_DEEP_STANDBY, DOZE_DRAM_IDLE, DEEP_STANDBY_HANDSHAKE, AUTO_IDLE_TIMER, AUTO_DOZE_TIMER,
WAKE_INPUT, I2C_ADDRESS_MATCH, I2C_POINTER_WRITE, I2C_SCL_TIMEOUT and ADAPTIVE_LOOP_TICK. -/

namespace Sys2Proof.Machine

def modPower (f : PowerU → PowerU) (s : State) : State := { s with power := f s.power }

/-- R721: the code of a power state. -/
def pCode : PState → Nat
  | .run => 0
  | .idle => 1
  | .doze => 2
  | .deep => 3

/-- R721: the power state of a code. -/
def pState : Nat → PState
  | 0 => .run
  | 1 => .idle
  | 2 => .doze
  | _ => .deep

/-- R759: RPT.POWER. -/
def powerReport (before after event w6 : Nat) (s : State) : State :=
  report 0x00B0 [before + fld after 4 4 + fld (pCode s.power.request) 8 4 + fld (if event = 2 then s.power.refuseReason else 0) 12 4 + fld event 16 8,
    s.wake.cause.toNat, w6 % 2 ^ 32, lastAdm s] s

/-- RPT.POWER of a change of power state, which firmware commits; its time runs from the transition's start (R716). -/
def powerChanged (before after : PState) (event : Nat) (s : State) : State :=
  if fwRunning s then powerReport (pCode before) (pCode after) event ((s.localNs - s.power.transStart) / 1000) s else s

/-! ### Refusals (R725) -/

/-- R725, code 8: data still awaits delivery. -/
def dataPending (s : State) : Bool :=
  let u := s.deliv
  let buf (b : Option FillBuf) : Bool := match b with | some x => decide (0 < x.count) | none => false
  u.slots.any (fun x => x.line.isSome && !x.owed.isEmpty) || !u.old.isEmpty || !u.gapLog.isEmpty || buf u.gapBuf ||
    !s.loupe.packets.isEmpty || buf u.loupeBuf || (List.range 2).any fun n => !(camRx s n).outQ.isEmpty

/-- R731, R732: an enabled WAKE_INn is at its active level. -/
def wakeInActive (s : State) (n : Nat) : Bool := bit s.wake.enable n && bit s.pins.wakeIn n == bit s.wake.polarity n

/-- R725: the reasons that refuse a state, in the table's order. -/
def refusalList (dest : PState) (s : State) : List (Nat × Bool) :=
  let low := dest == .doze || dest == .deep
  let deep := dest == .deep
  let line := inRun s || s.line.st == .calibrating || (deep && s.line.st == .frozen)
  let axis := (List.range 4).any fun a =>
    match (ax s a).st with
    | .disabled => false
    | .halted => !deep
    | _ => true
  let lamps := (List.range 16).any fun n => (str s n).st != .off && (str s n).st != .safe
  [(1, s.boot.stage != .running), (2, line), (3, (List.range 2).any fun n => (camRx s n).armed), (4, low && lamps),
    (5, low && axis), (6, low && (List.range 4).any (wakeInActive s)), (7, deep && s.wake.enable % 32 == 0),
    (8, deep && dataPending s)]

/-- R725: the code of the first reason that applies; 0 for none. -/
def powerRefusal (dest : PState) (s : State) : Nat := (((refusalList dest s).find? Prod.snd).map Prod.fst).getD 0

/-- R722, R725, R726: a refused request. One that firmware made by itself leaves REQUEST as it is (R728). -/
def refusePower (code : Nat) (auto : Bool) (dest : PState) (s : State) : State :=
  let t := modPower (fun p => { p with refuseReason := code }) s
  let r := if fwRunning t then powerReport (pCode t.power.present) (pCode dest) 2 0 t else t
  if auto then r else modPower (fun p => { p with request := p.present }) r

/-! ### Run and Idle (R717, R730) -/

/-- R730: DIG_CTRL.RUN is cleared on a port that is up. -/
def stopRun (n : Nat) (s : State) : State :=
  if portUp (sport s n) then
    regAsk n [{ write := true, addr := 0x0010, data := 0, use := .run }]
      (modSeg n (fun p => { p with bring := .none }) (returnGrants (.port n) (unwaitGrant (.port n) .digitizer s)))
  else s

/-- R730: RUN is set again under a digitizer grant. -/
def setRun (n : Nat) (s : State) : State := if portUp (sport s n) then askDigitizer n s else s

/-- Entry to Idle (R717, R726, R730). -/
def enterIdle (auto : Bool) (s : State) : State :=
  let t := (segNumbers s).foldl (fun t n => stopRun n t) s
  powerChanged .run .idle 1 (modPower (fun p => { p with present := .idle, biasStep := 0, auto := auto, transStart := s.localNs,
                                                         dozeOkSince := none }) t)

/-- Idle is left for Run (R728, R730); the return that a verb causes is reported. -/
def leaveIdle (forVerb : Bool) (s : State) : State :=
  let t := modPower (fun p => { p with present := .run, auto := false, transStart := s.localNs, idleOkSince := none }) s
  let t := (segNumbers t).foldl (fun t n => setRun n t) t
  if forVerb then powerChanged .idle .run 1 t else t

/-! ### Entry to Doze and Deep standby (R726) -/

/-- R754, R755: the ageing records and the lifetime counters are written. -/
def writeStore (s : State) : State :=
  { s with store := { s.store with ageing := s.live.lamps, lifetime := s.live.life }, live := { s.live with writtenAt := s.localNs } }

/-- R726, step 2: the links stop, and every grant is returned. -/
def stopLinks (s : State) : State :=
  let t := (List.range 24).foldl (fun t n => portOff n t) s
  let t := { t with lampLink := { t.lampLink with
      st := .off, bring := .idle, queue := [], flight := none, pollDue := false, tx := [], markSlot := none, applyLeft := none
      stage := none } }
  let t := (List.range 3).foldl (fun t p => if (pport t p).st == .down then t else portDown p t) t
  trackOver { t with grants := { t.grants with grants := [] } }

/-- R726: entry to Doze or Deep standby begins. -/
def beginEntry (dest : PTrans) (s : State) : State :=
  stopLinks (modPower (fun p => { p with trans := dest, leaving := p.present, transStart := s.localNs,
                                         idleOkSince := none, dozeOkSince := none }) s)

/-- R734: retention memory with its ORIGIN rewritten. -/
def reoriginate (origin : Nat) (b : List Byte) : List Byte :=
  let body := bytesAt (b.take 4 ++ leBytes 4 origin ++ b.drop 8) 0 4092
  body ++ wordBytes (crc32 body)

/-- R726, step 4: retention memory is written; in Doze it already holds what entry to Doze kept. -/
def writeRetention (origin : Nat) (s : State) : State :=
  let b := match s.wake.retention with
    | some b => if s.power.leaving == .doze then reoriginate origin b else retention origin s
    | none => retention origin s
  { s with wake := { s.wake with retention := some b } }

/-- Entry to Doze: steps 1 and 2. -/
def beginDoze (s : State) : State := beginEntry .dozeEntry s

/-- Entry to Deep standby: steps 1 to 4; step 5 waits for the handshake. -/
def beginDeep (s : State) : State :=
  modPower (fun p => { p with wakeDue := none }) (writeRetention 2 (writeStore (beginEntry .deepEntry s)))

/-! ### Wakes (R723, R732, R735 to R738) -/

/-- Bits of WAKE_CAUSE are set (R151, R723). -/
def setWakeCause (b : Word) (s : State) : State := setInt 9 { s with wake := { s.wake with cause := s.wake.cause ||| b } }

/-- R736, steps 5 and 6: the links are brought up. A port that stood FAILED before is to be reported (R277). -/
def wakePorts (s : State) : State :=
  let t := if s.line.st == .booted then s else (segNumbers s).foldl (fun t n => startBringup n t) s
  let t := modLine (fun l => { l with linkDue := s.line.linkDue || s.line.st == .declared }) t
  let t := if (dStrings t).isEmpty || t.line.st == .booted then t else startLink t
  if (List.range 3).any fun p => (pport t p).enabled then rejoin t else t

/-- R735, R736: retention memory is checked and restored. -/
def restoreRetained (s : State) : State :=
  match s.wake.retention with
  | some b =>
    if retentionOk b then restoreLamps b (restoreLanes b (restoreAxes b (restorePrism b s)))
    else fwLog 0x0009 [] (setWakeCause 0x100#32 s)
  | none => fwLog 0x0009 [] (setWakeCause 0x100#32 s)

/-- R736, steps 1 to 3: a wake from Doze. -/
def wakeDoze (b : Word) (s : State) : State :=
  let t := modPower (fun p => { p with trans := .waking, leaving := .doze, biasStep := 0, transStart := s.localNs }) (setWakeCause b s)
  let t := restoreRetained { t with host := { t.host with link := if linkTrained t then .l0 else t.host.link } }
  if t.clk.pllActive then wakePorts t else t

/-- R738, step 1: a wake from Deep standby. -/
def wakeDeep (b : Word) (s : State) : State :=
  { s with
    wake := { s.wake with cause := s.wake.cause ||| b ||| 0x20#32 }
    pins := { s.pins with pwrEnIo := true, pwrEnCore := false }
    power := { s.power with trans := .waking, transStart := s.localNs, seqAt := some s.localNs, seqDown := false, wakeDue := none } }

/-- R727: entry is abandoned; the device returns to the state it left. -/
def abandonEntry (s : State) : State :=
  let dest : PState := .doze
  let t := wakePorts (modPower (fun p => { p with trans := .none }) s)
  refusePower 9 t.power.auto dest t

/-- A wake source becomes active, with its bit of WAKE_CAUSE. -/
def wakeBy (b : Word) (s : State) : State :=
  match s.power.trans, s.power.present with
  | .dozeEntry, _ => abandonEntry s
  | .deepEntry, _ => modPower (fun p => { p with wakeDue := some (p.wakeDue.getD 0#32 ||| b) }) s
  | .waking, _ => s
  | .none, .doze => wakeDoze b s
  | .none, .deep => wakeDeep b s
  | .none, _ => s

/-! ### Requests (R721, R722) -/

/-- A lower state is asked for: refused under R725, or entered. -/
def requestLower (dest : PState) (s : State) : State :=
  let code := powerRefusal dest s
  if code != 0 then refusePower code false dest s
  else match dest with
    | .idle => enterIdle false s
    | .doze => beginDoze s
    | .deep => beginDeep s
    | .run => s

/-- R722: a transition starts toward REQUEST. A move to a higher state is never refused. -/
def startRequest (s : State) : State :=
  let dest := s.power.request
  let t := modPower (fun p => { p with auto := p.auto && dest == .run }) s
  if pCode s.power.present < pCode dest then requestLower dest t
  else if dest == s.power.present then t
  else match s.power.present with
    | .idle => leaveIdle false t
    | .doze => wakeDoze 0x80#32 t
    | _ => t

/-- R722: REQUEST is written. -/
def writeRequest (dest : PState) (s : State) : State :=
  if s.power.trans != .none || s.dbg.halted then modPower (fun p => { p with stored := some dest }) s
  else if dest == s.power.request && !(dest == .run && s.power.auto) then s
  else startRequest (modPower (fun p => { p with request := dest }) s)

/-- R722: a request stored while BUSY is acted on. -/
def actStored (s : State) : State :=
  match s.power.stored with
  | some dest =>
    if s.power.trans != .none || s.dbg.halted then s else writeRequest dest (modPower (fun p => { p with stored := none }) s)
  | none => s

/-- A write of POWER_STATE (R43, R721, R722). -/
def powerWrite (v : Word) (s : State) : State :=
  writeRequest (pState (bits v.toNat 0 2)) (modPower (fun p => { p with autoDoze := v.getLsbD 9, autoIdle := v.getLsbD 8 }) s)

/-- POWER_STATE as written, with this REQUEST. -/
def withRequest (v : Word) (r : Nat) : Word := (v &&& ~~~3#32) ||| BitVec.ofNat 32 r

/-- A write of POWER_STATE that reaches the device. -/
def powerRequest (v : Word) (r : Nat) (s : State) : Host.Outcome State Fault Refusal :=
  settled (if hostReach s then powerWrite (withRequest v r) s else s)

/-- POWER_REQUEST_RUN (R722, R728, R736). -/
def execPowerRequestRun (v : Word) (s : State) : Host.Outcome State Fault Refusal := powerRequest v 0 s

/-- POWER_REQUEST_IDLE (R722, R725). -/
def execPowerRequestIdle (v : Word) (s : State) : Host.Outcome State Fault Refusal := powerRequest v 1 s

/-- POWER_REQUEST_DOZE (R722, R725, R726). -/
def execPowerRequestDoze (v : Word) (s : State) : Host.Outcome State Fault Refusal := powerRequest v 2 s

/-- POWER_REQUEST_DEEP_STANDBY (R722, R725, R726). -/
def execPowerRequestDeepStandby (v : Word) (s : State) : Host.Outcome State Fault Refusal := powerRequest v 3 s

/-! ### The ends of entry (R726, R727) -/

/-- R713: the Segment link's logic loses its state in Doze. -/
def portUnpowered (p : PortU) : PortU :=
  { p with lanes := Vector.replicate 4 {}, laneSeq := 0, tag := 0, rot := .idle, rxSeq := none, counts := {} }

/-- DOZE_DRAM_IDLE (R713, R717, R726 steps 3 to 5, R730). -/
def execDozeDramIdle (s : State) : Host.Outcome State Fault Refusal :=
  settled (
    if s.power.trans != .dozeEntry || !fwRunning s then s
    else
      let t := anaStop (writeRetention 1 (writeStore s))
      let t := { t with
        ports := vmap portUnpowered t.ports
        dram := { t.dram with selfRefresh := t.line.dram.isSome }
        host := { t.host with link := if linkTrained t then .l12 else t.host.link }
        clk := { t.clk with pllLocked := false, pllActive := false }
        power := { t.power with present := .doze, trans := .none, avsDuty := 0, biasStep := 0, avsLimited := false } }
      actStored (powerChanged s.power.leaving .doze 1 t))

/-- DEEP_STANDBY_HANDSHAKE (R714, R726 step 5, R727, R775): every domain but the always-on one is lost. -/
def execDeepStandbyHandshake (s : State) : Host.Outcome State Fault Refusal :=
  settled (
    if s.power.trans != .deepEntry || !s.rst.d3hot then s
    else
      let t := coreWiped false s
      let t := { t with
        pins := { t.pins with pwrEnCore := false }
        clk := { t.clk with refRunning := false, clockFault := false }
        host := { t.host with link := .l2 }
        power := { t.power with present := .deep, seqAt := some s.localNs, seqDown := true } }
      match s.power.wakeDue with
      | some b => wakeDeep b t
      | none => t)

/-! ### Changes that firmware makes by itself (R728) -/

/-- AUTO_IDLE_TIMER. -/
def execAutoIdleTimer (s : State) : Host.Outcome State Fault Refusal :=
  settled (
    let due := match s.power.idleOkSince with | some t => decide (t + 1000000000 ≤ s.localNs) | none => false
    if due && s.power.autoIdle && s.power.request == .run && s.power.present == .run && s.power.trans == .none &&
        fwRunning s && powerRefusal .idle s == 0 then enterIdle true s
    else s)

/-- AUTO_DOZE_TIMER. -/
def execAutoDozeTimer (s : State) : Host.Outcome State Fault Refusal :=
  settled (
    let due := match s.power.dozeOkSince with | some t => decide (t + 60000000000 ≤ s.localNs) | none => false
    if due && s.power.autoDoze && s.power.auto && s.power.present == .idle && s.power.trans == .none && fwRunning s &&
        (dPrism? s).isNone && powerRefusal .doze s == 0 then beginDoze s
    else s)

/-- R728: since when R725 has permitted Idle, and Doze; kept as time passes. -/
def trackIdle (s : State) : State :=
  let keep (ok : Bool) (o : Option Nat) : Option Nat := if ok then some (o.getD s.localNs) else none
  let idle := s.power.present == .run && s.power.trans == .none && powerRefusal .idle s == 0
  let doze := s.power.present == .idle && s.power.auto && s.power.trans == .none && powerRefusal .doze s == 0
  modPower (fun p => { p with idleOkSince := keep idle p.idleOkSince, dozeOkSince := keep doze p.dozeOkSince }) s

/-! ### Wake sources (R731 to R733, R776) -/

/-- WAKE_INPUT (R732): WAKE_INn has held a level for so many ns. From 1 µs up to 4 µs the spec does not say whether it
wakes: a free value. -/
def execWakeInput (n : Nat) (high : Bool) (heldNs : Nat) (s : State) : Host.Outcome State Fault Refusal :=
  settled (
    let was := s.pins.wakeIn
    let t := { s with pins := { s.pins with wakeIn :=
      if n < 4 then (if bit was n == high then was else if high then was + 2 ^ n else was - 2 ^ n) else was } }
    if 4 ≤ n || !wakeInActive t n || heldNs < 1000 then t
    else if 4000 ≤ heldNs then wakeBy (1#32 <<< n) t
    else
      let f := takeFree t
      if f.1 % 2 = 1 then wakeBy (1#32 <<< n) f.2 else f.2)

/-- The I2C target matches in a state without its clocks. -/
def i2cAsleep (s : State) : Bool := s.power.present == .doze || s.power.present == .deep

/-- I2C_ADDRESS_MATCH (R732, R733): an address byte after a START. In Doze and Deep standby a match wakes the device, and no
byte that follows is acknowledged. -/
def execI2cAddressMatch (addr : Nat) (s : State) : Host.Outcome State Fault Refusal :=
  settled (
    let hit := s.wake.i2cAddr == some addr
    let t := { s with wake := { s.wake with i2cOpen := hit && !i2cAsleep s, i2cPointed := false } }
    let t := if hit then emit .i2cAck t else t
    if hit && bit s.wake.enable 4 then wakeBy 0x10#32 t else t)

/-- I2C_POINTER_WRITE (R733): the first byte written sets the pointer; a byte after it is not acknowledged. -/
def execI2cPointerWrite (p : Byte) (s : State) : Host.Outcome State Fault Refusal :=
  settled (if s.wake.i2cOpen && !s.wake.i2cPointed && !i2cAsleep s && coreOn s then
    emit .i2cAck { s with wake := { s.wake with i2cPointer := p.toNat, i2cPointed := true } }
  else s)

/-- I2C_SCL_TIMEOUT (R776). -/
def execI2cSclTimeout (s : State) : Host.Outcome State Fault Refusal :=
  settled { s with wake := { s.wake with i2cOpen := false } }

/-! ### The adaptive loop (R717 to R720) -/

/-- R717, R718: VDD_CORE in V, as the duty of AVS_PWM has the board give it. -/
def vddCore (s : State) : Rat := 18 / 25 + 9 / 50 * (s.power.avsDuty : Rat) / 1023

/-- R717: the back bias of core logic in mV: forward under the loop in Run, none in Idle and while a wake brings the device up, and
reverse in Doze. -/
def backBiasMv (s : State) : Int :=
  if s.power.present == .doze && s.power.trans != .waking then -600 else 40 * (s.power.biasStep : Int)

/-- R717: the SRAM periphery is off and its array retained at 0.60 V. -/
def sramRetained (s : State) : Bool := s.power.present == .doze && s.power.trans != .waking

/-- R717: the SRAM's write assist. -/
def writeAssist (s : State) : Bool := s.power.present == .run && decide (vddCore s < 19 / 25)

/-- R717, R736: the loop runs in Run, and once a wake from Doze has started it. -/
def loopRuns (s : State) : Bool :=
  s.clk.pllActive && (s.power.present == .run || (s.power.present == .doze && s.power.trans == .waking))

/-- R719: what the least slack does to the duty and the bias. -/
def avsStep (slack : Int) (p : PowerU) : PowerU :=
  if slack < 6 then
    if p.biasStep < 15 then { p with biasStep := p.biasStep + 1 } else { p with avsDuty := min 1023 (p.avsDuty + 16) }
  else if 12 < slack then
    if 0 < p.avsDuty then { p with avsDuty := p.avsDuty - 16 } else { p with biasStep := p.biasStep - 1 }
  else p

/-- ADAPTIVE_LOOP_TICK (R719, R720): the readings of the 16 path monitors, every 50 µs. The slack stays short at the highest bias and
duty: AVS_LIMIT, once for each time it does. -/
def execAdaptiveLoopTick (slacks : List Int) (s : State) : Host.Outcome State Fault Refusal :=
  settled (
    if !loopRuns s || slacks.length != 16 || s.localNs < s.power.avsAt + 50000 then s
    else
      let least := slacks.foldl min (slacks.headD 0)
      let stuck := decide (least < 6) && s.power.biasStep == 15 && s.power.avsDuty == 1023
      let t := modPower (fun p => { avsStep least p with avsLimited := stuck, avsAt := s.localNs }) s
      if stuck && !s.power.avsLimited && fwRunning s then logFault 0x000C [] (powerReport 0 0 4 0 t) else t)

end Sys2Proof.Machine
end

