-- ==== Sys2Proof/Machine/Boot.lean ====
section
/-! DEFINITION. Boot (R46 to R63, R68 to R70, R740, R828): the boot ROM's sources and checks of images, the limit block's
ceilings, and firmware's start: the rows BOOT_ROM_START, FLASH_IMAGE_LOADED, HOST_IMAGE_RECEIVED, ROOT_PLL_LOCK, PLL_FAIL
and FW_RUNNING. -/

namespace Sys2Proof.Machine

/-! ### Images (R49 to R52) -/

/-- R51: the header bytes that the layout of R49 keeps reserved whole: those of FLAGS and FW_RELEASE above their bits, and the
fields without a name. A reserved bit in a byte that has others is no reserved byte (log 71). -/
def reservedHeader : List Nat :=
  [0x0F, 0x12, 0x13, 0x2D] ++ ((List.range 200).map fun i => 0x38 + i) ++ (List.range 128).map fun i => 0x180 + i

/-- R51: the header checks: 0, or the REASON. -/
def headerReason (h : List Byte) : Nat :=
  let size := uAt h 0x08 4
  let load := uAt h 0x18 4
  let entry := uAt h 0x1C 4
  let body := uAt h 0x20 4
  let off := uAt h 0x24 4
  let ok := uAt h 0 4 == 0x4C4E4C42 && uAt h 4 2 == 1 && uAt h 6 2 == 0x200 && size == 512 + body && load % 4096 == 0 &&
    decide (10 ≤ uAt h 0x2E 2 ∧ uAt h 0x2E 2 ≤ 1000) && decide (load ≤ entry ∧ entry < load + body) &&
    decide (0x200 ≤ off ∧ off + uAt h 0x28 4 ≤ size) &&
    reservedHeader.all fun o => uAt h o 1 == 0
  if !ok then 2 else if 491520 < load + body then 6 else 0

/-- R50: the digest that is signed. -/
def signedDigest (img : List Byte) : List Byte := sha256 (bytesAt img 0 0x140 ++ img.drop 0x180)

def imageInfo (img : List Byte) : ImageInfo :=
  { imageSize := uAt img 8 4, protoMajor := uAt img 0x0C 1, protoMinor := uAt img 0x0D 1, flags := uAt img 0x0E 2,
    release := uAt img 0x10 4, rollback := uAt img 0x14 4, keySlot := uAt img 0x2C 1, wdogMs := uAt img 0x2E 2,
    signedDigest := signedDigest img }

/-- R740: after a wake from Deep standby, an image with the retained digest needs no signature check. -/
def retainedImage (s : State) (img : List Byte) : Bool :=
  s.boot.wokeFromDeep && (match s.wake.retention with
    | some b => bytesAt b 0x10 32 == signedDigest img
    | none => false)

/-- R51: the header, size, key and signature checks: 0, or the REASON; `skip` leaves the signature itself unverified. No row
of R51 names a KEY_SLOT above 3: the model answers BAD_SIGNATURE, as for a key of no slot (DESIGN CHOICE, log 71). -/
def signatureReason (skip : Bool) (s : State) (img : List Byte) : Nat :=
  let h := headerReason img
  let slot := uAt img 0x2C 1
  if h != 0 then h
  else if 3 < slot || sha256 (bytesAt img 0x100 64) != Config.romKeyDigest slot then 3
  else if bit s.store.revoked slot then 5
  else if !(skip || Config.ecdsaVerify (bytesAt img 0x100 64) (signedDigest img) (bytesAt img 0x140 64)) then 3
  else 0

/-- R51: every check of the boot ROM. -/
def imageReason (s : State) (img : List Byte) : Nat :=
  let r := signatureReason (retainedImage s img) s img
  if r != 0 then r else if uAt img 0x14 4 < s.store.antiRollback then 4 else 0

/-! ### The limit section (R61, R63, R64, R68, R760) -/

/-- The places of the limit block in the order of R760. -/
def limitPlaces : List LimitKey :=
  ((List.range 16).flatMap fun n => [.strI n, .strV n, .strDuty n]) ++
    ((List.range 4).flatMap fun a => [.axV a, .axA a, .axD a, .axEmerg a, .axI a]) ++
    ((List.range 8).flatMap fun b => [.budCont b, .budPeak b, .budMs b]) ++ ((List.range 8).map fun k => .tempRise k) ++
    (List.range 4).flatMap fun c => [.supLow (24 + c), .supHigh (24 + c)]

/-- The bytes of an image's limit section. -/
def limitSection (img : List Byte) : List Byte := bytesAt img (uAt img 0x24 4) (uAt img 0x28 4)

/-- The ceilings of an image. -/
def imageCeilings (img : List Byte) : List (LimitKey × Int) :=
  limitPlaces.mapIdx fun i k => (k, Config.limitCeiling (limitSection img) i)

/-- R61, R64: the ceilings written, and CEILING_LOCK set. -/
def writeCeilings (img : List Byte) (u : LimitU) : LimitU :=
  { u with ceilingLock := true, entries := (imageCeilings img).map fun p => { key := p.1, ceiling := p.2, inForce := p.2 } }

/-- R68: the limit section equals the ceilings the locked block holds. -/
def ceilingsMatch (img : List Byte) (u : LimitU) : Bool := (u.entries.map fun e => (e.key, e.ceiling)) == imageCeilings img

/-! ### Outcomes of the boot ROM -/

/-- STATE becomes FAILED (R57, R62, R68, R70), and FAULT_N follows. -/
def bootStopped (reason source : Nat) (s : State) : State :=
  let t := setStage .failed s
  driveFault { t with boot := { t.boot with reason := reason, source := source, wdogRunning := false, flashTry := none } }

/-- R756, R774: a boot failure that ends in FAILED is logged. -/
def bootFailed (reason source : Nat) (s : State) : State := logFault 0x0003 [reason] (bootStopped reason source s)

/-- R61: firmware is started on the RC oscillator. -/
def startImage (img : List Byte) (source : Nat) (s : State) : State :=
  if s.limit.ceilingLock && !ceilingsMatch img s.limit then bootFailed 7 source s
  else
    let i := imageInfo img
    let t := setStage .starting s
    clockFlush (driveFault { t with
      limit := if t.limit.ceilingLock then t.limit else writeCeilings img t.limit
      boot := { t.boot with
        source := source, image := some i, wdogRunning := true, wdogPaused := false, wdogNs := 0, flashTry := none, loaded := []
        fwVersion := w32 (fld i.protoMajor 24 8 + fld i.protoMinor 16 8 + fld i.release 0 16) } })

/-- R58: data ring 0 is set to the host-to-device direction and holds a descriptor made available. -/
def imagePosted (s : State) : Bool := let r := ring s 0; ringReady r && bit r.ctrl.toNat 1

/-- The host is asked for an image (R58). One whose descriptors stand posted already has begun to load. -/
def waitHost (s : State) : State :=
  let t := setStage .waitHost { s with boot := { s.boot with flashTry := none, source := 0xF, loaded := [] } }
  if imagePosted t then setStage .loading t else t

/-! ### Flash (R55 to R57, R828) -/

/-- A slot's bytes; what was never programmed reads as erased. -/
def slotBytes (s : State) (k n : Nat) : List Byte :=
  let b := if k = 0 then s.flash.slot0 else s.flash.slot1
  b.take n ++ List.replicate (n - b.length) 0xFF#8

def slotHeader (s : State) (k : Nat) : List Byte := slotBytes s k 512

/-- R57: the slots that may be verified, the first to be verified first. -/
def flashOrder (s : State) : List Nat :=
  let good (k : Nat) : Bool :=
    headerReason (slotHeader s k) == 0 && decide (s.store.antiRollback ≤ uAt (slotHeader s k) 0x14 4)
  let key (k : Nat) : Nat := uAt (slotHeader s k) 0x14 4 * 2 ^ 32 + uAt (slotHeader s k) 0x10 4
  ((if key 0 < key 1 then [1, 0] else [0, 1]).filter good)

/-- R828. -/
def flashReason (s : State) : Nat :=
  let magic (k : Nat) : Bool := uAt (slotHeader s k) 0 4 == 0x4C4E4C42
  if !(magic 0 || magic 1) then 1
  else match s.boot.flashFailed.getLast? with
    | some (_, r) => r
    | none =>
      let k := if magic 0 then 0 else 1
      let h := headerReason (slotHeader s k)
      if h != 0 then h else 4

/-- No flash slot passed: the next source, or FAILED. -/
def flashExhausted (s : State) : State :=
  let r := flashReason s
  if s.store.policy = 1 then bootFailed r 0xF s
  else waitHost { s with boot := { s.boot with reason := r } }

/-- R55: where a slot begins in the flash. -/
def slotBase (k : Nat) : Nat := if k = 0 then 0 else 0x100000

/-- R56: a header is read with command 0x03 at 25 MHz on one line. -/
def readHeader (k : Nat) (s : State) : State := emit (.flashRead 0x03#8 (slotBase k) 512 1 0 25) s

/-- R56: the body of a slot is read with command 0x6B at 50 MHz where its header sets QUAD, and with 0x03 at 25 MHz otherwise. -/
def readBody (k : Nat) (s : State) : State :=
  let h := slotHeader s k
  let n := uAt h 0x20 4
  emit (if bit (uAt h 0x0E 2) 0 then .flashRead 0x6B#8 (slotBase k + 512) n 4 8 50
    else .flashRead 0x03#8 (slotBase k + 512) n 1 0 25) s

/-- The next flash slot in order is read. -/
def nextFlash (s : State) : State :=
  match (flashOrder s).find? fun k => !(s.boot.flashFailed.any fun f => f.1 == k) with
  | some k => readBody k { s with boot := { s.boot with flashTry := some k } }
  | none => flashExhausted s

/-- FLASH_IMAGE_LOADED (R57): the body has been read and hashed. A halted processor verifies nothing (R76). -/
def execFlashImageLoaded (s : State) : Host.Outcome State Fault Refusal :=
  settled (match s.boot.flashTry with
    | none => s
    | some k =>
      if s.dbg.halted then s else
      let img := slotBytes s k (uAt (slotHeader s k) 8 4)
      let r := imageReason s img
      if r = 0 then startImage img k s
      else nextFlash { s with boot := { s.boot with flashFailed := s.boot.flashFailed ++ [(k, r)] } })

/-! ### The boot ROM's start (R37, R55, R60, R70, R791) -/

/-- The boot ROM starts: the endpoint is enabled and a source chosen. -/
def bootRom (s : State) : State :=
  let host := s.rst.bootFromHost || s.store.policy == 2
  let t := setStage .romBoot { s with
    rst := { s.rst with inEffect := none, bootFromHost := false }
    boot := { s.boot with endpointOn := true, flashFailed := [], flashTry := none } }
  let t := issueChallenge t
  let t := if t.rst.thermalFlag then
      logFault 0x0001 [] (countLife (fun l => { l with thermals := min (l.thermals + 1) (2 ^ 32 - 1) })
        { t with rst := { t.rst with thermalFlag := false } })
    else t
  if 3 ≤ t.boot.loopCount then
    bootStopped 8 0xF { t with rst := { t.rst with cause := t.rst.cause ||| (1#32 <<< 9) } }
  else if host then waitHost t
  else nextFlash (readHeader 1 (readHeader 0 t))

/-- BOOT_ROM_START: the reset in effect has ended. RESET_N still low, or a junction still above its limit, takes hold now; a
reset that is RESET_N's own lasts while the pin is low (R42). -/
def execBootRomStart (s : State) : Host.Outcome State Fault Refusal :=
  settled (
    if s.rst.inEffect.isNone || s.power.present == .deep || !s.pins.pwrEnCore then s
    else if s.pins.resetLow then (if s.rst.byPin then s else pinReset s)
    else if s.rst.thermalHold then
      if s.rst.inEffect == some .core && s.rst.thermalFlag then s
      else
        let u := coreReset 4 true s
        { u with rst := { u.rst with thermalFlag := true } }
    else driveFault (bootRom s))

/-! ### The host's image (R58, R59) -/

/-- R58: the descriptors that read well, up to the first that does not. -/
def readable (posted : List UpDesc) : List UpDesc := posted.takeWhile UpDesc.ok

/-- R58, R138, R139: an image whose bytes have all arrived is verified, and started or refused (R59). -/
def verifyHostImage (need : Nat) (posted : List UpDesc) (s : State) : State :=
  let img := (s.boot.loaded ++ (readable posted).flatMap UpDesc.data).take need
  let why := imageReason s img
  let t := uploadConsume 0 (uploadTaken (need - s.boot.loaded.length) posted) true s
  if why = 0 then startImage img 2 t
  else
    logFault 0x0003 [why] (waitHost (modRing 0 (fun r => { r with head := 0#16, tail := 0#16, posted := 0#16 })
      { t with boot := { t.boot with reason := why } }))

/-- HOST_IMAGE_RECEIVED (R58, R59, R76, R138, R139): what the descriptors posted on data ring 0 hold, in order. A read that
fails stops the ring before the image is whole, and what came before it is kept. -/
def execHostImageReceived (descs : List UpDesc) (s : State) : Host.Outcome State Fault Refusal :=
  settled (
    let hostStage := (s.boot.stage == .waitHost || s.boot.stage == .loading) && s.boot.flashTry.isNone && !s.dbg.halted
    let posted := descs.take ((ring s 0).posted - (ring s 0).head).toNat
    let got := (readable posted).flatMap UpDesc.data
    let data := s.boot.loaded ++ got
    let need := max 512 (uAt data 8 4)
    if !hostStage || !imagePosted s || !hostReach s then s
    else if need ≤ data.length then verifyHostImage need posted s
    else if posted.all UpDesc.ok then s
    else
      let t := uploadConsume 0 (uploadTaken got.length posted) false s
      { t with boot := { t.boot with loaded := data } })

/-! ### Firmware's start (R32, R34, R54, R62, R104, R718) -/

/-- ROOT_PLL_LOCK (R32, R34, R718): firmware sets the core supply, holds it, and switches to CPU_CLK. -/
def execRootPllLock (s : State) : Host.Outcome State Fault Refusal :=
  settled (
    let firmware := s.boot.stage == .starting || s.boot.stage == .running
    let powered := s.boot.stage == .starting || s.power.present == .run || s.power.present == .idle || s.power.trans == .waking
    if !firmware || !powered || !s.clk.refRunning || s.clk.pllActive || s.rst.inEffect.isSome || s.dbg.halted then s
    else
      let t := { s with
        clk := { s.clk with pllLocked := true, pllActive := true, pllTries := 0, clockFault := false }
        power := { s.power with avsDuty := 455, avsAt := s.localNs }
        dram := { s.dram with selfRefresh := false } }
      let t := anaStart t
      let t := if s.clk.clockFault then clockReport (flag true 2) (driveFault t) else t
      if t.power.trans == .waking then wakePorts t else t)

/-- R32, R34, R736: firmware has the root PLL enabled and waits for its lock: it is starting, or has taken it up again after a
clock fault, or for a wake from Doze. -/
def pllTried (s : State) : Bool :=
  fwActive s && s.rst.inEffect.isNone && !s.clk.pllActive && !s.clk.pllLocked &&
    (s.boot.stage == .starting || s.power.present == .run || s.power.present == .idle || s.power.trans == .waking)

/-- PLL_FAIL (R62): three attempts have failed. -/
def execPllFail (s : State) : Host.Outcome State Fault Refusal :=
  settled (if pllTried s then bootFailed 9 s.boot.source { s with clk := { s.clk with pllTries := 3 } } else s)

/-- R53, R54: the running image is committed. -/
def commitImage (s : State) : State :=
  match s.boot.image with
  | none => s
  | some i =>
    let below := if bit i.flags 2 then 2 ^ i.keySlot - 1 else 0
    { s with store := { s.store with antiRollback := max s.store.antiRollback i.rollback, revoked := s.store.revoked ||| below } }

/-- R104: the command found in the firmware slot after a control reset. It was not executed by the firmware that now answers, and
no entry of the history, which the reset has cleared, is made for it (R127 is silent; DESIGN CHOICE, log 91). -/
def replyRestarted (s : State) : State :=
  match s.urg.slot with
  | some b => sendReply (packetCmd b .urgent [] true) stState stState 2 false [] s
  | none => s

/-- R38, R773. -/
def restartReport (urgent : Bool) (s : State) : State :=
  report 0x00C3 [s.rst.cause.toNat, s.boot.discarded % 65536 + fld ((s.fw.lastTag.map BitVec.toNat).getD 0) 16 16,
    s.boot.wdogCount + flag s.fw.lastTag.isSome 4 + flag urgent 5, lastAdm s] s

/-- R38, R54, R62, R104, R708, R738: what firmware does as it reaches RUNNING. -/
def fwStart (s : State) : State :=
  let urgent := s.boot.restartDue && s.urg.slot.isSome
  let t := if s.boot.restartDue then replyRestarted s else s
  let t := setStage .running { t with
    boot := { t.boot with runningSince := some t.localNs }, live := { t.live with writtenAt := t.localNs } }
  let t := cmdDoorbell t
  let t := if bit ((t.boot.image.map ImageInfo.flags).getD 0) 1 then commitImage t else t
  let t := countLife (fun l => { l with boots := min (l.boots + 1) (2 ^ 32 - 1) }) t
  let t := if t.boot.restartDue then restartReport urgent t else t
  let t := if t.boot.wokeFromDeep then
      let u := if t.wake.retention.isNone then logFault 0x0009 [] t else t
      powerReport 3 0 3 ((u.localNs - u.power.transStart) / 1000) u
    else t
  driveFault (syncAgree (admitHeld { t with boot := { t.boot with
    restartDue := false, discarded := 0, wokeFromDeep := false } }))

/-- FW_RUNNING (R62). -/
def execFwRunning (s : State) : Host.Outcome State Fault Refusal :=
  settled (if s.boot.stage == .starting && s.clk.pllActive && s.rst.inEffect.isNone && !s.dbg.halted then fwStart s else s)

end Sys2Proof.Machine
end

