-- ==== Sys2Proof/Machine/Urgent.lean ====
section
/-! DEFINITION. The urgent channel's hardware side (R95 to R100, R106 to R109): the checks every packet passes first (R94,
R98), the hardware urgent verbs, and the rows HALT_MOTION, LAMPS_SAFE, CAPTURE_FREEZE, CONTROL_RESET and URG_DOORBELL. -/

namespace Sys2Proof.Machine

/-! ### The first checks of a packet (R94 steps 1 to 4, R98, R123) -/

/-- R94: LENGTH against the channel's room, CRC, reserved header bits, CLASS; the first failure's status and detail. -/
def packetCheck (room cls : Nat) (b : List Byte) : Check :=
  let len := uAt b 8 2 % 4096
  firstFail [
    need (decide (len ≤ room)) stBadArg 2,
    need (crc32 (bytesAt b 0 12 ++ bytesAt b 16 len) == w32 (uAt b 12 4)) stBadArg 1,
    need (uAt b 8 2 / 4096 == 0 && uAt b 0x0B 1 == 0) stBadArg 4,
    need (uAt b 0x0A 1 == cls) stBadArg 3]

/-! ### The hardware urgent verbs (R106 to R109) -/

/-- A reply of the hardware to a packet's header (R98 to R100, R106). -/
def hwReply (tag verb obj : Half) (status detail : Nat) (payload : List Byte) (s : State) : State :=
  putHwReply (replyPacket tag verb obj status status detail false payload) s

/-- R106: OBJECT, LENGTH and MODIFIERS of a hardware urgent verb are as they must be. -/
def hwVerbOk (verb obj mods : Half) (len : Nat) : Bool :=
  obj == 0#16 && len == 0 && mods == (if verb = 0xF004#16 then 0xD1E5#16 else 0#16)

/-- R107: the reply's payload. -/
def hwStamp (s : State) : List Byte := leBytes 8 (sysNs s)

/-- A hardware urgent verb that reaches the device is executed at every arrival, or refused (R99, R106, R108). -/
def hwVerb (verb tag obj mods : Half) (len : Nat) (effect : State → State) (s : State) : State :=
  if !hostReach s then s
  else if hwVerbOk verb obj mods len then effect (hwReply tag verb obj stOk 0 (hwStamp s) s)
  else hwReply tag verb obj stBadArg 0 [] s

/-- R106, R439: HALT.MOTION; in a seam the effects of CAPTURE.FREEZE apply as well. -/
def haltEffect (s : State) : State := haltMotion (if seamOn s then captureFreeze 0xF001 false s else s)

def haltMotionVerb (tag obj mods : Half) (len : Nat) (s : State) : State := hwVerb 0xF001#16 tag obj mods len haltEffect s
def lampsSafeVerb (tag obj mods : Half) (len : Nat) (s : State) : State := hwVerb 0xF002#16 tag obj mods len lampsSafe s
def captureFreezeVerb (tag obj mods : Half) (len : Nat) (s : State) : State :=
  hwVerb 0xF003#16 tag obj mods len (captureFreeze 0xF003 false) s
def controlResetVerb (tag obj mods : Half) (len : Nat) (s : State) : State :=
  hwVerb 0xF004#16 tag obj mods len (controlReset 5) s

/-- HALT_MOTION (R106). -/
def execHaltMotion (tag obj mods : Half) (len : Nat) (s : State) : Host.Outcome State Fault Refusal :=
  settled (haltMotionVerb tag obj mods len s)

/-- LAMPS_SAFE (R106). -/
def execLampsSafe (tag obj mods : Half) (len : Nat) (s : State) : Host.Outcome State Fault Refusal :=
  settled (lampsSafeVerb tag obj mods len s)

/-- CAPTURE_FREEZE (R106). -/
def execCaptureFreeze (tag obj mods : Half) (len : Nat) (s : State) : Host.Outcome State Fault Refusal :=
  settled (captureFreezeVerb tag obj mods len s)

/-- CONTROL_RESET (R37, R106, R107). -/
def execControlReset (tag obj mods : Half) (len : Nat) (s : State) : Host.Outcome State Fault Refusal :=
  settled (controlResetVerb tag obj mods len s)

/-! ### URG_DOORBELL (R96 to R100) -/

/-- R100: a verb of firmware's, latched. -/
def urgToFirmware (tag verb obj : Half) (b : List Byte) (s : State) : State :=
  if s.boot.stage != .running then hwReply tag verb obj stState 1 [] s
  else if s.urg.slot.isSome then hwReply tag verb obj stBusy 1 [] s
  else { s with urg := { s.urg with slot := some b } }

/-- R98 to R100: the latched packet is checked and acted on. -/
def urgLatched (doorbell : Word) (s : State) : State :=
  let b := s.urg.latch
  let tag := h16 (uAt b 0 2)
  let verb := h16 (uAt b 2 2)
  let obj := h16 (uAt b 4 2)
  let mods := h16 (uAt b 6 2)
  let len := uAt b 8 2
  match firstFail [packetCheck 240 1 b, need (doorbell.setWidth 16 == tag) stBadArg 5] with
  | some e => hwReply tag verb obj e.1 e.2 [] s
  | none =>
    if verb = 0xF001#16 then haltMotionVerb tag obj mods len s
    else if verb = 0xF002#16 then lampsSafeVerb tag obj mods len s
    else if verb = 0xF003#16 then captureFreezeVerb tag obj mods len s
    else if verb = 0xF004#16 then controlResetVerb tag obj mods len s
    else if bits verb.toNat 8 8 = 0xF0 then hwReply tag verb obj stBadVerb 1 [] s
    else urgToFirmware tag verb obj b s

/-- A write of URG_DOORBELL: the window is latched in the same cycle (R97). -/
def urgDoorbell (v : Word) (s : State) : State := urgLatched v { s with urg := { s.urg with latch := s.urg.cmd } }

/-- URG_DOORBELL (R96, R97). -/
def execUrgDoorbell (v : Word) (s : State) : Host.Outcome State Fault Refusal :=
  settled (if hostReach s then urgDoorbell v s else s)

end Sys2Proof.Machine
end

