-- ==== Sys2Proof/Machine/Rings.lean ====
section
/-! DEFINITION. The host's registers of the rings, the report FIFO and the interrupts (R113 to R118, R122 to R125, R135 to
R139, R144, R151 to R154, R403, R405, R829), and the PCIe function's link and power states (R79, R84, R769): the rows
NRM_DOORBELL_CMD, NRM_DOORBELL_RINGS, COMMAND_FETCH_ERROR, RING_SIZE_WRITE, REPLY_RING_HEAD_WRITE, CMD_STATUS_CLEAR,
REPORT_DATA_READ, RING_TAIL_WRITE, DATA_RING_SIZE_WRITE, RING_CTRL_ENABLE, RING_CTRL_DISABLE, RING_STATUS_CLEAR,
DESCRIPTOR_FETCH_ERROR, IRQ_TIMEOUT, INT_MASK_WRITE, D3HOT_ENTRY, BAR_ACCESS_IN_D3HOT, D0_RETURN, LINK_TRAINED, LINK_DOWN
and LINK_RETURN_L0. -/

namespace Sys2Proof.Machine

/-- A register access of the host acts only where it reaches the device (R84). -/
def onHost (s : State) (t : State) : Host.Outcome State Fault Refusal := settled (if hostReach s then t else s)

/-- The same for a register of data ring `k`'s block; there is none beyond ring 15 (R13, R135). -/
def onRing (k : Nat) (s : State) (t : State) : Host.Outcome State Fault Refusal :=
  settled (if hostReach s && decide (k < 16) then t else s)

/-! ### The command and reply rings (R113 to R125) -/

/-- R115, R116: the write is refused. -/
def setupReject (s : State) : State := setCmdStatus 0 s

/-- R116: while RUNNING, the rings are set up only when idle. -/
def setupOpen (s : State) : Bool :=
  s.boot.stage != .running ||
    (s.host.cmd.tail == s.host.cmd.head && s.fw.busy.isNone && s.fw.urgBusy.isNone && s.fw.relaying.isNone &&
      s.host.rep.head == s.host.rep.tail)

/-- R115: 0 and the powers of two from 8 to 256. -/
def packetRingSizes : List Nat := [0, 8, 16, 32, 64, 128, 256]

/-- R115: the ring after a write of its SIZE. -/
def resized (v : Nat) (r : PacketRing) : PacketRing :=
  if v = 0 then { r with size := 0 } else { r with size := v, tail := 0#16, head := 0#16, served := 0#16 }

/-- A write of CMD_RING_SIZE or REPLY_RING_SIZE (R115, R116). -/
def ringSizeWrite (reply : Bool) (v : Word) (s : State) : State :=
  if !packetRingSizes.contains v.toNat || !setupOpen s then setupReject s
  else if reply then { s with host := { s.host with rep := resized v.toNat s.host.rep } }
  else { s with host := { s.host with cmd := resized v.toNat s.host.cmd } }

def execRingSizeWrite (reply : Bool) (v : Word) (s : State) : Host.Outcome State Fault Refusal :=
  onHost s (ringSizeWrite reply v s)

/-- REPLY_RING_HEAD_WRITE (R122). -/
def replyHeadWrite (v : Word) (s : State) : State :=
  { s with host := { s.host with rep := { s.host.rep with head := v.setWidth 16 } } }

def execReplyRingHeadWrite (v : Word) (s : State) : Host.Outcome State Fault Refusal := onHost s (replyHeadWrite v s)

/-- CMD_STATUS_CLEAR (R124, R125). -/
def cmdStatusClear (v : Word) (s : State) : State :=
  { s with host := { s.host with cmdStatus := s.host.cmdStatus &&& ~~~v } }

def execCmdStatusClear (v : Word) (s : State) : Host.Outcome State Fault Refusal := onHost s (cmdStatusClear v s)

/-- R119, R120: nothing stands in the way of the next command of the ring but its own fetch. -/
def commandReady (s : State) : Bool :=
  let c := s.host.cmd
  let r := s.host.rep
  fwRunning s && c.size != 0 && c.served != c.head && !c.stopped && s.fw.busy.isNone && s.fw.relaying.isNone &&
    (s.urg.slot.isNone || s.fw.urgBusy.isSome) && decide ((r.tail - r.head).toNat < r.size) && hostReach s

/-- COMMAND_FETCH_ERROR (R113, R124, R125): the read of the next command's slot has failed. -/
def execCommandFetchError (s : State) : Host.Outcome State Fault Refusal :=
  settled (if commandReady s then
    stopCommands 2 (emit (.hostRead (slotAddr s.host.cmd s.host.cmd.head.toNat)) s)
  else s)

/-! ### Data rings (R135 to R139, R403, R405, R829) -/

/-- An error bit of a RING_STATUS is set (R138, R151). -/
def ringError (k : Nat) (f : DataRing → DataRing) (s : State) : State := setInt 7 (modRing k f s)

def dataReject (k : Nat) (s : State) : State := ringError k (fun r => { r with setupReject := true }) s

/-- R136: powers of two from 8 to 16,384. -/
def dataRingSizes : List Nat := (List.range 12).map fun i => 2 ^ (i + 3)

/-- A write of RING_SIZE (R136). -/
def dataRingSizeWrite (k : Nat) (v : Word) (s : State) : State :=
  if !dataRingSizes.contains v.toNat || ringOn (ring s k) then dataReject k s
  else modRing k (fun r => { r with size := v.toNat }) s

def execDataRingSizeWrite (k : Nat) (v : Word) (s : State) : Host.Outcome State Fault Refusal :=
  onRing k s (dataRingSizeWrite k v s)

/-- A write of RING_BASE_LO or RING_BASE_HI (R135, R136). -/
def dataRingBaseWrite (k : Nat) (high : Bool) (v : Word) (s : State) : State :=
  if ringOn (ring s k) then dataReject k s
  else modRing k (fun r => if high then { r with baseHi := v } else { r with baseLo := v &&& 0xFFFFF000#32 }) s

/-- Descriptors outstanding on a ring with this RING_TAIL. -/
def outstanding (r : DataRing) (tail : Half) : Nat := (tail - r.head).toNat

/-- R405: outstanding descriptors of the enabled rings, ring `k` with this RING_TAIL. -/
def outstandingAll (s : State) (k : Nat) (tail : Half) : Nat :=
  ((List.range 16).map fun j =>
    let r := ring s j
    if ringOn r then outstanding r (if j = k then tail else r.tail) else 0).sum

/-- A write of RING_TAIL (R405): it makes no descriptor available by itself (R829). -/
def ringTailWrite (k : Nat) (v : Word) (s : State) : State :=
  let tail : Half := v.setWidth 16
  if (ring s k).size < outstanding (ring s k) tail || 49152 < outstandingAll s k tail then
    ringError k (fun r => { r with postReject := true }) s
  else modRing k (fun r => { r with tail := tail }) s

def execRingTailWrite (k : Nat) (v : Word) (s : State) : Host.Outcome State Fault Refusal := onRing k s (ringTailWrite k v s)

/-- The bits of RING_CTRL that R137 defines. -/
def ringCtrlMask : Word := 0xFFFF0F03#32

/-- The boot ROM reads the host's image from ring 0 and ignores STREAM there (R58, R403). -/
def bootRing (k : Nat) (v : Word) (s : State) : Bool :=
  k == 0 && bit v.toNat 1 && (s.boot.stage == .romBoot || s.boot.stage == .waitHost || s.boot.stage == .loading)

/-- R136, R403: setting ENABLE is refused. -/
def enableRefused (k : Nat) (v : Word) (s : State) : Bool :=
  let stream := bits v.toNat 8 4
  let carried := (List.range 16).any fun j => j != k && ringOn (ring s j) && ringStream (ring s j) == stream
  (ring s k).size == 0 ||
    (!bootRing k v s && (decide (9 < stream) || bit v.toNat 1 != (stream == uploadStream) ||
      (stream != uploadStream && carried)))

/-- R136: the ring as ENABLE is set on it. -/
def enabled (v : Word) (r : DataRing) : DataRing :=
  { r with ctrl := v &&& ringCtrlMask, head := 0#16, tail := 0#16, posted := 0#16, unsignalled := 0, waitSince := none,
           stallSince := none, stallReported := false }

/-- R412: a descriptor whose data the device has begun to write is completed. -/
def flushRing (k : Nat) (s : State) : State :=
  let on (b : Option FillBuf) : Bool := match b with | some x => x.ring == k | none => false
  let t := if on s.deliv.gapBuf then flushGapBuf s else s
  if on t.deliv.loupeBuf then flushLoupeBuf t else t

/-- A write of RING_CTRL (R136, R137, R403, R412): DIR and STREAM change only while ENABLE is 0. -/
def ringCtrlWrite (k : Nat) (v : Word) (s : State) : State :=
  let r := ring s k
  if ringOn r then
    if (v ^^^ r.ctrl) &&& 0xF02#32 != 0#32 then dataReject k s
    else modRing k (fun r => { r with ctrl := v &&& ringCtrlMask }) (if v.getLsbD 0 then s else flushRing k s)
  else if !v.getLsbD 0 then modRing k (fun r => { r with ctrl := v &&& ringCtrlMask }) s
  else if enableRefused k v s then dataReject k s
  else modRing k (enabled v) s

/-- RING_CTRL_ENABLE (R136, R403): a write of RING_CTRL with ENABLE set. -/
def execRingCtrlEnable (k : Nat) (v : Word) (s : State) : Host.Outcome State Fault Refusal :=
  onRing k s (ringCtrlWrite k (v ||| 1#32) s)

/-- RING_CTRL_DISABLE (R412): a write of RING_CTRL with ENABLE clear. -/
def execRingCtrlDisable (k : Nat) (v : Word) (s : State) : Host.Outcome State Fault Refusal :=
  onRing k s (ringCtrlWrite k (v &&& ~~~1#32) s)

/-- A write of RING_STATUS (R138, R139): a ring that stopped stays stopped until the doorbell that follows. -/
def ringStatusClear (k : Nat) (v : Word) (s : State) : State :=
  modRing k (fun r => { r with
    fetchErr := r.fetchErr && !v.getLsbD 2, postReject := r.postReject && !v.getLsbD 3
    setupReject := r.setupReject && !v.getLsbD 4 }) s

def execRingStatusClear (k : Nat) (v : Word) (s : State) : Host.Outcome State Fault Refusal :=
  onRing k s (ringStatusClear k v s)

/-- DESCRIPTOR_FETCH_ERROR (R138, R139). -/
def execDescriptorFetchError (k : Nat) (s : State) : Host.Outcome State Fault Refusal :=
  settled (if ringReady (ring s k) then ringError k (fun r => { r with fetchErr := true, stopped := true }) s else s)

/-- IRQ_TIMEOUT (R137). -/
def execIrqTimeout (k : Nat) (s : State) : Host.Outcome State Fault Refusal :=
  settled (
    let r := ring s k
    let units := bits r.ctrl.toNat 24 8
    match r.waitSince with
    | some t => if units != 0 && decide (t + units * 10000 ≤ s.localNs) then
        setInt (16 + k) (modRing k (fun r => { r with unsignalled := 0, waitSince := none }) s)
      else s
    | none => s)

/-! ### NRM_DOORBELL (R117, R118, R829) -/

/-- R421: descriptors posted on a line-data ring in the pace window. -/
def countPosted (stream n : Nat) (s : State) : State :=
  if 1 ≤ stream ∧ stream ≤ 4 then
    modDeliv (fun u => { u with posted := u.posted.set (stream - 1) (u.posted.getD (stream - 1) 0 + n) }) s
  else s

/-- The doorbell of one data ring (R58, R139, R829). -/
def ringDoorbell (k : Nat) (s : State) : State :=
  let r := ring s k
  if !ringOn r then s
  else
    let t := modRing k (fun r => { r with posted := r.tail, stopped := r.fetchErr && r.stopped }) s
    let t := if bit r.ctrl.toNat 1 then t else countPosted (ringStream r) (r.tail - r.posted).toNat t
    if k = 0 && s.boot.stage == .waitHost && imagePosted t then setStage .loading t else t

/-- A write of NRM_DOORBELL (R118). -/
def nrmDoorbell (v : Word) (s : State) : State :=
  let t := (List.range 16).foldl (fun t k => if v.getLsbD k then ringDoorbell k t else t) s
  if v.getLsbD 16 && t.boot.stage == .running then cmdDoorbell t else t

/-- NRM_DOORBELL_CMD (R117). -/
def execNrmDoorbellCmd (v : Word) (s : State) : Host.Outcome State Fault Refusal := onHost s (nrmDoorbell (v ||| 0x10000#32) s)

/-- NRM_DOORBELL_RINGS (R829). -/
def execNrmDoorbellRings (v : Word) (s : State) : Host.Outcome State Fault Refusal := onHost s (nrmDoorbell v s)

/-! ### Reports and interrupts (R144, R152, R154) -/

/-- REPORT_DATA_READ (R144). -/
def reportDataRead (s : State) : State := emit (.readData (popReport s).1) (popReport s).2

def execReportDataRead (s : State) : Host.Outcome State Fault Refusal := onHost s (reportDataRead s)

/-- INT_MASK_WRITE (R152, R154). -/
def intMaskWrite (v : Word) (s : State) : State := sendDue { s with int := { s.int with mask := v } }

def execIntMaskWrite (v : Word) (s : State) : Host.Outcome State Fault Refusal := onHost s (intMaskWrite v s)

/-! ### The PCIe function (R79, R84, R769) -/

/-- The endpoint is enabled and its core is on. -/
def endpointUp (s : State) : Bool := s.boot.endpointOn && coreOn s

/-- Configuration requests reach the function, in D0 and in D3hot (R60, R84, R827). -/
def configReach (s : State) : Bool := linkTrained s && !s.host.linkDown

/-- R84: the function is moved to D3hot. -/
def enterD3hot (s : State) : State :=
  if s.rst.d3hot then s
  else
    let t := classS s
    driveFault { t with rst := { t.rst with d3hot := true } }

/-- R84: the function is moved back to D0. -/
def leaveD3hot (s : State) : State := driveFault { s with rst := { s.rst with d3hot := false } }

/-- D3HOT_ENTRY (R84, R827): a configuration write. -/
def execD3hotEntry (s : State) : Host.Outcome State Fault Refusal := settled (if configReach s then enterD3hot s else s)

/-- R80, R84: a request is treated as unsupported, which Advanced Error Reporting notes (bit 20 of its uncorrectable status,
PCI Express; log 64). -/
def unsupported (s : State) : State :=
  let p := s.host.pci
  emit .unsupportedRequest { s with host := { s.host with pci := { p with aerUncor := p.aerUncor ||| 0x00100000#32 } } }

/-- BAR_ACCESS_IN_D3HOT (R84). -/
def execBarAccessInD3hot (s : State) : Host.Outcome State Fault Refusal :=
  settled (if configReach s && s.rst.d3hot then unsupported s else s)

/-- D0_RETURN (R84, R827): a configuration write. -/
def execD0Return (s : State) : Host.Outcome State Fault Refusal := settled (if configReach s then leaveD3hot s else s)

/-- LINK_TRAINED (R60, R79, R83, R87, R827). -/
def execLinkTrained (speed width : Nat) (s : State) : Host.Outcome State Fault Refusal :=
  settled (if endpointUp s && s.pins.perstHigh && decide (1 ≤ speed ∧ speed ≤ 4) && [1, 2, 4, 8].contains width then
    { s with host := { s.host with linkSpeed := speed, linkWidth := width, link := .l0 } }
  else s)

/-- LINK_DOWN (R769). -/
def execLinkDown (s : State) : Host.Outcome State Fault Refusal :=
  settled (if configReach s then
    let t := classS s
    driveFault { t with host := { t.host with linkDown := true, link := .detect } }
  else s)

/-- LINK_RETURN_L0 (R769). -/
def execLinkReturnL0 (s : State) : Host.Outcome State Fault Refusal :=
  settled (if s.host.linkDown then driveFault { s with host := { s.host with linkDown := false, link := .l0 } } else s)

end Sys2Proof.Machine
end

