-- ==== Sys2Proof/Machine/PrismRun.lean ====
section
/-! DEFINITION. A joined system's run (R693 to R698): the rows ARM, ARM_ANS, UNARM, STOP, FREEZE, EVENT, SCHEDULED_EVENT and
ARM_TIMEOUT, and PRISM.SCHEDULE. -/

namespace Sys2Proof.Machine

/-- A message that goes down the whole tree: it is taken on the incident port of a joined node, passed on, and applied. -/
def pTree (p type : Nat) (rx : PrismRx) (apply : State → State) (s : State) : State :=
  let bytes := pMsg rx
  pRecv p type rx (fun t =>
    if t.prism.incident != some p || (pport t p).st != .joined then t
    else apply (pDown type (pDst bytes) (pBodyOf bytes) (pSrc bytes) t)) s

/-! ### The system arm (R693, R694) -/

/-- ARM (R693, step 3). -/
def execArm (p : Nat) (rx : PrismRx) (s : State) : Host.Outcome State Fault Refusal :=
  let bytes := pMsg rx
  settled (pTree p 0x0B rx (fun t =>
    let run := pField bytes 8 2
    let u := openArm run t
    if fwRunning u then nodeArm (pField bytes 0 4) (pField bytes 4 4) run (pField bytes 10 1) (pField bytes 11 1 == 1) u
    else u) s)

/-- ARM_ANS (R693, steps 4 and 5). -/
def execArmAns (p : Nat) (rx : PrismRx) (s : State) : Host.Outcome State Fault Refusal :=
  let bytes := pMsg rx
  settled (pRecv p 0x0C rx (fun t =>
    if !pRefracted t p || (pport t p).st != .joined || t.prism.run != some (pField bytes 0 2) then t
    else
      armProgress (modPort p (fun x => { x with armAns := some {
        armed := pField bytes 2 2, failNode := pField bytes 4 2, detail := pField bytes 6 2 } }) t)) s)

/-- UNARM (R694). -/
def execUnarm (p : Nat) (rx : PrismRx) (s : State) : Host.Outcome State Fault Refusal :=
  let bytes := pMsg rx
  settled (pTree p 0x0D rx (fun t => if t.prism.run == some (pField bytes 0 2) then unarm t else t) s)

/-- ARM_TIMEOUT (R694). -/
def execArmTimeout (s : State) : Host.Outcome State Fault Refusal :=
  settled (match s.prism.armAt with
    | some t0 =>
      if s.prism.root && fwRunning s && decide (t0 + 100000000 ≤ s.localNs) then armFails 0xFFFF 0x010C s else s
    | none => s)

/-! ### What the root orders (R695) -/

/-- A LINE.STOP of the root, or of an event, on this node: with AT_LINE it waits for the line named. -/
def nodeStop (mode : StopMode) (line : Option Nat) (s : State) : State :=
  if !(inRun s || s.line.st == .frozen) then s
  else match line with
    | some n => modLine (fun l => { l with treeStops := l.treeStops ++ [(mode, n)] }) s
    | none => (stopAct 0x0403 mode s).2

/-- STOP (R695). -/
def execStop (p : Nat) (rx : PrismRx) (s : State) : Host.Outcome State Fault Refusal :=
  let bytes := pMsg rx
  settled (pTree p 0x0E rx (fun t =>
    if t.prism.run != some (pField bytes 4 2) then t
    else nodeStop (if pField bytes 6 1 = 1 then .seam else .endRun)
      (if pField bytes 7 1 = 1 then some (pField bytes 0 4) else none) t) s)

/-- FREEZE (R695). -/
def execFreeze (p : Nat) (rx : PrismRx) (s : State) : Host.Outcome State Fault Refusal :=
  let bytes := pMsg rx
  settled (pTree p 0x0F rx (fun t => if t.prism.run == some (pField bytes 8 2) then captureFreeze 0 false t else t) s)

/-! ### Scheduled events (R696 to R698) -/

/-- R711: RPT.PRISM_MARK, with the latched system time, last admitted line and feed encoder count (R696). -/
def prismMark (line : Nat) (late : Bool) (s : State) : State :=
  if fwRunning s then
    report 0x00A1 [line, flag late 0 + flag (!pAligned s) 1, sysNs s % 2 ^ 32, sysNs s / 2 ^ 32, lastAdm s,
      unsignedOf 32 (encd s (feedEnc s)).count] s
  else s

/-- R696: LINE_STOP: END, with AT_LINE unless LINE is 0xFFFF_FFFF. -/
def eventStop (line : Nat) (s : State) : State := nodeStop .endRun (if line = 0xFFFFFFFF then none else some line) s

/-- The node belongs to the run that an event names. -/
def inEventRun (e : PEvent) (s : State) : Bool := s.prism.run == some e.runId

/-- R698: an event that arrives less than 500 ns before its time. -/
def lateEvent (e : PEvent) (s : State) : State :=
  let t := match e.kind with
    | 0 => captureFreeze 0 true s
    | 1 => eventStop e.line s
    | _ => prismMark e.line true s
  prismEvent 7 0xFF (nodeId s) e.kind e.runId t

/-- R696: an event that arrives in time is armed; a START sets the start point as LINE.START with AT_TIME does. -/
def armEvent (e : PEvent) (s : State) : State :=
  if e.kind = 0 then (if s.line.st == .armed then startRun (.time e.timeNs) s else s)
  else { s with prism := { s.prism with events := s.prism.events ++ [e] } }

/-- EVENT (R696, R698). -/
def execEvent (p : Nat) (rx : PrismRx) (s : State) : Host.Outcome State Fault Refusal :=
  let bytes := pMsg rx
  settled (pTree p 0x0A rx (fun t =>
    let e : PEvent :=
      { timeNs := pField bytes 0 8, line := pField bytes 8 4, runId := pField bytes 12 2, kind := pField bytes 14 1 }
    if 2 < e.kind || (e.kind != 2 && !inEventRun e t) then t
    else if e.timeNs < sysNs t + 500 then lateEvent e t
    else armEvent e t) s)

/-- R571, R697: the start point of AT_TIME is reached: G₀ is the count then, plus 1. -/
def startDue (s : State) : State :=
  match s.line.start with
  | some (.time t) =>
    if sysNs s < t || s.motion.cmp.g0.isSome then s
    else modCmp (fun c => { c with g0 := startGrid .now (encd s (feedEnc s)).count c.pitch, index := 0 }) s
  | _ => s

/-- R696, R697: a node acts on an event whose time has come. -/
def actEvent (e : PEvent) (s : State) : State :=
  if e.kind = 2 then prismMark e.line false s else if inEventRun e s then eventStop e.line s else s

/-- The time of a PRISM.SCHEDULE that has come. -/
def scheduleDue (s : State) (d : Deferred) : Bool :=
  match d.act with
  | .schedule _ t _ => decide (t ≤ sysNs s)
  | _ => false

/-- The root acts on its own PRISM.SCHEDULE (R696, R697). -/
def actSchedule (s : State) (d : Deferred) : State :=
  match d.act with
  | .schedule mark _ line => if mark then prismMark line false s else eventStop line s
  | _ => s

/-- SCHEDULED_EVENT (R571, R697): the first tick of MOT_CLK at or after the time of every event due. -/
def execScheduledEvent (s : State) : Host.Outcome State Fault Refusal :=
  settled (
    if !rootClks s then s
    else
      let t := startDue s
      let due := t.prism.events.filter fun e => decide (e.timeNs ≤ sysNs t)
      let t := due.foldl (fun u e => actEvent e u)
        { t with prism := { t.prism with events := t.prism.events.filter fun e => !decide (e.timeNs ≤ sysNs t) } }
      endDeferred (scheduleDue t) stOk 0 0xFFFFFFFF ((t.fw.deferred.filter (scheduleDue t)).foldl actSchedule t))

/-- PRISM.SCHEDULE (R191, R696, R698). -/
def vPrismSchedule (c : Cmd) (s : State) : Ans × State :=
  let k := modField c 0 2
  let time := pu c 0 8
  let line := pu c 8 4
  checked [objIs [kDevice] c s, modsIn 3 c, shape [.u 8, .u 4] c, need (decide (k < 2)) stBadArg 0,
      need (decide (sysNs s + 8000 ≤ time)) stBadArg 0, need (s.prism.root && pJoined s) stState 0, stateIn [.capturing] s] s <|
    let r := deferCmd c (.schedule (k == 1) time line) s
    match r.1 with
    | .reply 9 _ _ =>
      if k = 1 || s.line.system then
        (r.1, pDown 0x0A 0xFFFF (leBytes 8 time ++ leBytes 4 line ++ leBytes 2 (s.prism.run.getD s.prism.runId) ++ [b8 (k + 1)])
          (nodeId s) r.2)
      else r
    | _ => r

end Sys2Proof.Machine
end

