-- ==== Sys2Proof/Machine/MotionEv.lean ====
section
/-! DEFINITION. Motion as it runs (R538 to R543, R550, R552, R553, R559, R560, R567, R568): the rows RAMP_UPDATE, STEP_PULSE,
STALL, DIRECTION_DWELL_END, IREF_RAISE_DWELL_END and HOLD_DELAY_END. -/

namespace Sys2Proof.Machine

/-- R560, R439, R774: a fault has stopped the feed axis during a run: the effects of CAPTURE.FREEZE. -/
def feedFaulted (before s : State) : State :=
  match feedAxis? s with
  | some a => if (ax before a).st != .fault && (ax s a).st == .fault && inRun s then captureFreeze 0 true s else s
  | none => s

/-! ### RAMP_UPDATE (R540, R559, R568) -/

/-- R541, R568: a halt of the feed axis through D2 and D1 would pass LIMIT_MAX. -/
def feedAtLimit (s : State) (a : Nat) : Bool :=
  let d := drv s a
  let r := driveRamp s a
  d.feed.isSome && d.fall == .none && d.dwell == .none && d.speed != 0 &&
    (match limitRoom s a with
     | some room => decide (room ≤ fallSteps r (d.speed / speedOne) r.vStop + 1)
     | none => false)

/-- R568: the feed axis stops on its ramp before LIMIT_MAX; the run then ends as a LINE.STOP with END. -/
def feedLimit (s : State) : State :=
  match feedAxis? s with
  | none => s
  | some a =>
    if feedAtLimit s a then
      let before := axCode (ax s a).st
      let t := axisEventOf a 5 before (lastAdm s) (stopFeed s)
      if inRun t then modLine (fun l => { l with drain := match l.drain with | .none => .limitEnd | x => x }) t else t
    else s

/-- One ramp update of one drive: a move awaiting its first step begins at its starting speed (R539). -/
def rampDrive (k : Nat) (s : State) : State :=
  match (drv s k).dwell with
  | .first => modDrv k (fun d => { d with dwell := .none, speed := startSpeed s k * speedOne }) s
  | _ => updateDrive k s

/-- R530: at an update the reference takes the code asked for. -/
def stepRef (a : Nat) (s : State) : State := modAx a (fun x => { x with iref := x.irefTo }) s

/-- RAMP_UPDATE: 48 ticks of every ramp generator, the references, and the stall check of every axis. -/
def rampUpdate (s : State) : State :=
  let t := (List.range 8).foldl (fun t k => rampDrive k t) (feedLimit s)
  (List.range 4).foldl (fun t a => stallCheck a (stepRef a t)) t

def execRampUpdate (s : State) : Host.Outcome State Fault Refusal := settled (if rootClks s then rampUpdate s else s)

/-! ### STEP_PULSE (R540) -/

/-- R540: the modulus of the step phase. -/
abbrev phaseWrap := 48000000 * 4294967296

/-- STEP_PULSE: the phase of a drive has wrapped. -/
def execStepPulse (k : Nat) (s : State) : Host.Outcome State Fault Refusal :=
  settled (if rootClks s && decide (phaseWrap ≤ (drv s k).phase) then
    feedFaulted s (driveStep k (modDrv k (fun d => { d with phase := d.phase - phaseWrap }) s))
  else s)

/-! ### STALL (R559, R560) -/

/-- STALL: the deviation has exceeded DEVIATION at 8 consecutive updates. -/
def execStall (a : Nat) (s : State) : Host.Outcome State Fault Refusal :=
  settled (if decide (8 ≤ (ax s a).devCount) && (ax s a).st != .disabled && (ax s a).st != .fault then
    feedFaulted s (latchFault a 1 (unsignedOf 32 (deviationOf s a)) s)
  else s)

/-! ### Dwells and the hold delay (R543, R550) -/

/-- DIRECTION_DWELL_END (R550). -/
def execDirectionDwellEnd (k : Nat) (s : State) : Host.Outcome State Fault Refusal :=
  settled (match (drv s k).dwell with
    | .direction t => if t ≤ s.localNs then modDrv k (fun d => { d with dwell := .first }) s else s
    | _ => s)

/-- IREF_RAISE_DWELL_END (R543). -/
def execIrefRaiseDwellEnd (k : Nat) (s : State) : Host.Outcome State Fault Refusal :=
  settled (match (drv s k).dwell with
    | .iref t => if t ≤ s.localNs then modDrv k (fun d => { d with dwell := .first }) s else s
    | _ => s)

/-- The longest HOLD_DELAY_MS of a drive's axes, in ns. -/
def holdDelay (s : State) (k : Nat) : Nat :=
  (driveAxes s k).foldl (fun m a => max m (match dAxis? s a with | some d => d.holdMs * 1000000 | none => 0)) 0

/-- HOLD_DELAY_END (R543, R544): each axis's reference falls to I_HOLD after its own delay, and after the longest the acceleration
grant is released. -/
def execHoldDelayEnd (k : Nat) (s : State) : Host.Outcome State Fault Refusal :=
  settled (match (drv s k).standSince with
    | some t0 =>
      if still (drv s k) && (drv s k).queue.isEmpty && (drv s k).dwell == .none then
        let due (a : Nat) : Bool := match dAxis? s a with | some d => decide (t0 + d.holdMs * 1000000 ≤ s.localNs) | none => true
        let t := (driveAxes s k).foldl (fun t a =>
          if due a && (ax t a).st == .idle && axStill t a then modAx a (fun x => { x with irefTo := iHoldOf t a }) t else t) s
        if t0 + holdDelay s k ≤ s.localNs then
          unwaitGrant (driveHolder k) .axisAccel (returnGrants (driveHolder k) (modDrv k (fun d => { d with standSince := none }) t))
        else t
      else s
    | none => s)

end Sys2Proof.Machine
end

