-- ==== Sys2Proof/Machine/Supervisor.lean ====
section
/-! DEFINITION. The safety supervisor (R606 to R608, R762, R768): the rows SUPERVISOR_CYCLE and URGENT_CONVERSION_END. -/

namespace Sys2Proof.Machine

def modHk (f : HkU → HkU) (s : State) : State := { s with hk := f s.hk }

/-- R607: an urgent conversion of channel 24 + i is taken by HK1, else by HK0, else dropped. HK1 is converting while a channel of
the slot follows (`slot`); an entry that waits at the slot does not convert (log 103). -/
def urgentRequest (slot : Bool) (now i : Nat) (u : HkU) : HkU :=
  let idle (k : Nat) : Bool := (vget u.urgent k).isNone && ((vget u.runs k).bind HkRun.since).isNone
  let take (k : Nat) : HkU := { u with urgent := vset u.urgent k (some (24 + i)), urgentAt := vset u.urgentAt k now }
  if idle 1 && !slot then take 1
  else if idle 0 then take 0
  else { u with dropped := u.dropped + 1 }

/-- R609, R762: what a code of channel 24 + i reads as. -/
def supResult (i code : Nat) : Int := if i = 0 then Config.dieTemp code else ((code % 4096 : Nat) : Int)

/-- R611: RPT.HK_EVENT. -/
def hkEvent (i event : Nat) (r : Int) (s : State) : State :=
  report 0x0081 [24 + i + fld event 8 8, unsignedOf 16 r, s.hk.dropped % 2 ^ 32, lastAdm s] s

/-- R608, R768: the second consecutive result outside the window confirms a breach: class S. -/
def supOutside (slot : Bool) (i : Nat) (r : Int) (s : State) : State :=
  let n := (vget s.hk.sup i).out + 1
  let t := modHk (fun u => urgentRequest slot s.localNs i { u with sup := vset u.sup i { out := n, inside := 0, latest := r } }) s
  if 2 ≤ n && !bit t.hk.breached i then
    let u := classS t
    hkEvent i 1 r (driveFault (modHk (fun h => { h with breached := h.breached ||| 2 ^ i }) u))
  else t

/-- R608: the second consecutive result within the window ends a breach. -/
def supInside (i : Nat) (r : Int) (s : State) : State :=
  let n := (vget s.hk.sup i).inside + 1
  let t := modHk (fun u => { u with sup := vset u.sup i { out := 0, inside := n, latest := r } }) s
  if 2 ≤ n && bit t.hk.breached i then
    hkEvent i 2 r (driveFault (modHk (fun h => { h with breached := h.breached ^^^ 2 ^ i }) t))
  else t

/-- One supervisor result against its window of the limit block (R606, R762). -/
def supStep (slot : Bool) (i code : Nat) (s : State) : State :=
  let r := supResult i code
  if limitOf (.supLow (24 + i)) s ≤ r && r ≤ limitOf (.supHigh (24 + i)) s then supInside i r s else supOutside slot i r s

/-- R606: the supervisor's slot of 96 cycles of ANA_CLK (4 µs) is over; the next begins 6,000 cycles (250 µs) after it began, and the
sequencer goes on with HK1. -/
def slotOver (s : State) : State := hkPump (modHk (fun u => { u with slotAt := u.slotAt + 250000 }) s)

/-- SUPERVISOR_CYCLE (R606): the slot's four conversions, as the slot ends. -/
def execSupervisorCycle (c24 c25 c26 c27 : Nat) (s : State) : Host.Outcome State Fault Refusal :=
  settled (if anaRuns s && s.limit.ceilingLock && decide (s.hk.slotAt + 4000 ≤ s.localNs) then
    slotOver (supStep false 3 c27 (supStep true 2 c26 (supStep true 1 c25 (supStep true 0 c24 s))))
  else s)

/-- URGENT_CONVERSION_END (R607), 24 cycles of ANA_CLK (1 µs) after it began: a sampling phase of 16 cycles as in the slot (DEDUCED,
log 103). -/
def execUrgentConversionEnd (k code : Nat) (s : State) : Host.Outcome State Fault Refusal :=
  settled (match vget s.hk.urgent k with
    | some ch =>
      if anaRuns s && decide (k < 2 ∧ vget s.hk.urgentAt k + 1000 ≤ s.localNs) then
        hkPump (supStep false (ch - 24) code (modHk (fun u => { u with urgent := vset u.urgent k none }) s))
      else s
    | none => s)

end Sys2Proof.Machine
end

