-- ==== Sys2Proof/Machine/SysVerbs.lean ====
section
/-! DEFINITION. The verbs SYS, FW, POWER and STORE (R52 to R55, R172, R173, R191, R731, R751 to R757). -/

namespace Sys2Proof.Machine

/-! ### SYS -/

/-- SYS.PING (R172). -/
def vSysPing (c : Cmd) (s : State) : Ans × State :=
  checked [objIs [kDevice] c s, modsIn 0 c] s (done c.req.payload s)

/-- SYS.INFO (R172). -/
def vSysInfo (c : Cmd) (s : State) : Ans × State :=
  let held := s.line.st != .booted
  checked [objIs [kDevice] c s, modsIn 0 c, noPayload c] s <|
    done (bytesAt Config.uniqueId 0 8 ++ leBytes 8 (if held then declDigest s else 0) ++
      leBytes 8 (if held then systemDigest s else 0) ++ leBytes 4 s.line.epoch.toNat ++
      [b8 (lineCode s.line.st), b8 (fwMinor s)]) s

/-- SYS.TIME (R172). -/
def vSysTime (c : Cmd) (s : State) : Ans × State :=
  let step := modBit c 0
  let target := pu c 0 8 * 2 ^ 32
  checked [objIs [kDevice] c s, modsIn 1 c, shape [.u 8] c, need (!pJoined s || s.prism.root) stState 0x0101,
      need (!(step && inRun s)) stState 0x0102] s <|
    done [] { s with time :=
      if step then { s.time with sys := target, left := 0 }
      else { s.time with left := (target : Int) - (s.time.sys : Int) } }

/-! ### FW -/

/-- R173, step 3: the REASON for which an uploaded image fails, 0 for none. -/
def uploadedReason (s : State) (data : List Byte) : Nat :=
  if data.length < max 512 (uAt data 8 4) then 2 else signatureReason false s (data.take (uAt data 8 4))

/-- The flash with slot `k` holding these bytes. -/
def writeSlot (k : Nat) (data : List Byte) (s : State) : State :=
  { s with flash := if k = 0 then { s.flash with slot0 := data } else { s.flash with slot1 := data } }

/-- FW.FLASH (R172, R173). Where the part fails, what the slot then holds is a free value. -/
def vFwFlash (c : Cmd) (s : State) : Ans × State :=
  let k := modField c 0 1
  checked [objIs [kDevice] c s, modsIn 1 c, shape uploadFields c, stateIn [.booted, .ready] s,
      need (s.boot.source != k) stState 0x0101] s <|
    let u := upload 0 c s
    match u.1 with
    | .inl e => refuse e.1 e.2 u.2
    | .inr data =>
      let r := uploadedReason u.2 data
      if r != 0 then (.reply stBadArg 0x0101 [b8 r], u.2)
      else if c.req.partOk then done [] (writeSlot k (data.take (uAt data 8 4)) u.2)
      else
        let f := takeFree u.2
        refuse stState 0x0102 (writeSlot k (leBytes data.length f.1) f.2)

/-- FW.COMMIT (R54, R172). -/
def vFwCommit (c : Cmd) (s : State) : Ans × State :=
  checked [objIs [kDevice] c s, modsIn 0 c, noPayload c] s <|
    let t := commitImage s
    done (leBytes 4 t.store.antiRollback) t

/-- FW.STATUS (R172). -/
def vFwStatus (c : Cmd) (s : State) : Ans × State :=
  let slot (k : Nat) : List Byte :=
    let h := slotHeader s k
    bytesAt h 0x14 4 ++ bytesAt h 0x10 4 ++ leBytes 4 (flag (headerReason h == 0) 0)
  checked [objIs [kDevice] c s, modsIn 0 c, noPayload c] s <|
    done (leBytes 4 s.store.antiRollback ++ [b8 s.store.revoked, b8 s.store.policy, 0#8, 0#8] ++ slot 0 ++ slot 1) s

/-- FW.POLICY (R55, R172). -/
def vFwPolicy (c : Cmd) (s : State) : Ans × State :=
  let p := modField c 0 2
  checked [objIs [kDevice] c s, modsIn 3 c, noPayload c, need (p != 3) stBadArg 0, stateIn [.booted, .ready] s] s <|
    done [] { s with store := { s.store with policy := p } }

/-! ### POWER -/

/-- R751: one budget's figures. -/
def grantFigures (s : State) (b : Nat) : List Byte :=
  let u := s.grants
  let active := (u.grants.filter fun g => g.budget == b && decide (s.localNs < g.start + g.dur)).length
  leBytes 4 (budgetClaims u b) ++ leBytes 4 (budgetLoad u s.localNs b) ++ leBytes 2 active ++ leBytes 2 (vget u.refusals b)

/-- POWER.GRANTS (R191, R751). -/
def vPowerGrants (c : Cmd) (s : State) : Ans × State :=
  let ks := if objKind c.req.obj = kBudget then [objIdx c.req.obj]
    else (List.range 8).filter fun b => match s.decl with | some d => (assoc d.budgets b).isSome | none => false
  checked [objIs [kDevice, kBudget] c s, modsIn 0 c, noPayload c, declared s] s (done (ks.flatMap (grantFigures s)) s)

/-- R731, R734: the wake configuration is written; it stands in retention memory itself. -/
def writeWake (enable polarity addr : Nat) (s : State) : State :=
  let patch (b : List Byte) : List Byte :=
    let body := bytesAt (b.take 0x40 ++ [b8 enable, b8 polarity, b8 (if bit enable 4 then addr else 0)] ++ b.drop 0x43) 0 4092
    body ++ wordBytes (crc32 body)
  { s with wake := { s.wake with
    enable := enable, polarity := polarity, i2cAddr := if bit enable 4 then some addr else none
    retention := s.wake.retention.map patch } }

/-- POWER.WAKE (R191, R731). -/
def vPowerWake (c : Cmd) (s : State) : Ans × State :=
  let e := pu c 0 1
  let p := pu c 1 1
  let a := pu c 2 1
  checked [objIs [kDevice] c s, modsIn 0 c, shape [.u 1, .u 1, .u 1] c,
      need (decide (e < 32 ∧ p < 16 ∧ 0x08 ≤ a ∧ a ≤ 0x77)) stBadArg 0] s (done [] (writeWake e p a s))

/-! ### STORE -/

/-- R752: the sizes of the areas that STORE.READ reaches. -/
def areaSize : Nat → Nat
  | 0 => 196608
  | 1 => 16384
  | _ => 4096

/-- R753: the calibration summary in a place of the ring. -/
def summaryAt (u : StoreU) (place : Nat) : List Byte :=
  let n := u.summaries.length
  let first := u.summarySeq + 2 ^ 32 - n
  (u.summaries.zipIdx.find? fun p => (first + p.2) % 3072 == place).map Prod.fst |>.getD []

/-- R754: a lamp record. -/
def lampRecordBytes (r : LampRecord) : List Byte :=
  leBytes 8 r.charge.floor.toNat ++ leBytes 4 r.lit.floor.toNat ++ leBytes 4 r.starts ++ leBytes 2 r.shorts ++
    leBytes 2 r.opens ++ leInt 2 r.hottest ++ leBytes 10 0

/-- R755: the lifetime counters. -/
def lifetimeBytes (l : Lifetime) : List Byte :=
  leBytes 8 l.powerOn ++ leBytes 8 l.runSecs ++ leBytes 8 l.lines ++ leBytes 8 l.seams ++ leBytes 8 l.gaps ++
    leBytes 4 l.dozeWakes ++ leBytes 4 l.deepWakes ++ leBytes 4 l.thermals ++ leBytes 4 l.wdogs ++ leBytes 4 l.boots

/-- The record that holds a place of an area, and the place within it. -/
def areaRecord (u : StoreU) (area o : Nat) : List Byte × Nat :=
  match area with
  | 0 => (summaryAt u (o / 64), o % 64)
  | 1 =>
    if o < 12288 then (((assoc u.ageing (o / 32)).map lampRecordBytes).getD [], o % 32)
    else (((assoc u.stringRecords ((o - 12288) / 64))).getD [], (o - 12288) % 64)
  | _ => (lifetimeBytes u.lifetime, o)

/-- `n` bytes of an area, read record by record. -/
def areaBytes (u : StoreU) (area o n : Nat) : List Byte :=
  (List.range n).map fun i =>
    let r := areaRecord u area (o + i)
    r.1.getD r.2 0#8

/-- STORE.READ (R191, R752). -/
def vStoreRead (c : Cmd) (s : State) : Ans × State :=
  let area := pu c 0 1
  let o := pu c 4 4
  let n := pu c 8 4
  checked [objIs [kDevice] c s, modsIn 0 c, shape [.u 1, .u 4, .u 4] c,
      need (decide (area ≤ 2 ∧ 1 ≤ n ∧ n ≤ 4064 ∧ o + n ≤ areaSize area)) stBadArg 0] s (done (areaBytes s.store area o n) s)

/-- R756: a fault-log entry. -/
def logBytes (e : LogEntry) : List Byte :=
  leBytes 4 e.seq ++ leBytes 2 e.code ++ [b8 e.flags, 0#8] ++ leBytes 8 e.seconds ++ (e.args.take 4).flatMap (leBytes 4)

/-- STORE.LOG (R191, R757). -/
def vStoreLog (c : Cmd) (s : State) : Ans × State :=
  let first := pu c 0 4
  let n := min (pu c 4 2) 127
  checked [objIs [kDevice] c s, modsIn 0 c, shape [.u 4, .u 2] c] s <|
    done (((s.store.log.filter fun e => decide (first ≤ e.seq)).take n).flatMap logBytes) s

end Sys2Proof.Machine
end

