-- ==== Sys2Proof/Machine/Verbs.lean ====
section
/-! DEFINITION. How firmware takes and executes commands (R94, R101, R105, R119 to R133, R170, R171, R700, R728, R729): the rows
COMMAND_TAKEN, FIRMWARE_URGENT_COMMAND and RELAY_EXECUTE, one row for each verb, and WAKE_BRINGUP_END, which ends the wait of
a verb that needs DP_CLK (R728, R736). -/

namespace Sys2Proof.Machine

/-! ### The verbs (R170, R171) -/

/-- The verbs by their codes. -/
def verbOf (code : Nat) : Option (Cmd → State → Ans × State) :=
  match code with
  | 0x0101 => some vSysPing
  | 0x0102 => some vSysInfo
  | 0x0103 => some vSysTime
  | 0x0201 => some vFwFlash
  | 0x0202 => some vFwCommit
  | 0x0203 => some vFwStatus
  | 0x0204 => some vFwPolicy
  | 0x0301 => some vDeclareBoard
  | 0x0302 => some vDeclareQuery
  | 0x0401 => some vLineArm
  | 0x0402 => some vLineStart
  | 0x0403 => some vLineStop
  | 0x0404 => some vLineConfig
  | 0x0405 => some vLineReconfigure
  | 0x0406 => some vLineMirror
  | 0x0407 => some vLineStatus
  | 0x0501 => some vCalDark
  | 0x0502 => some vCalWhite
  | 0x0503 => some vCalLoad
  | 0x0504 => some vCalSwap
  | 0x0505 => some vCalLanes
  | 0x0506 => some vCalPlace
  | 0x0601 => some vLampSetSend
  | 0x0602 => some vLampOff
  | 0x0603 => some vLampDutySend
  | 0x0604 => some vLampTest
  | 0x0605 => some vLampRecoverSend
  | 0x0606 => some vLampStatus
  | 0x0701 => some vAxisMove
  | 0x0702 => some vAxisGroupMove
  | 0x0703 => some vAxisStop
  | 0x0704 => some vAxisSetPos
  | 0x0705 => some vAxisEnable
  | 0x0706 => some vAxisStatus
  | 0x0801 => some vTempRead
  | 0x0802 => some vTempThreshold
  | 0x0901 => some vHkSequence
  | 0x0902 => some vHkRead
  | 0x0A01 => some vCamConfig
  | 0x0A02 => some vCamStart
  | 0x0A03 => some vCamStop
  | 0x0A04 => some vCamSensor
  | 0x0B01 => some vLoupeStripe
  | 0x0B02 => some vLoupeBands
  | 0x0B03 => some vLoupeAnomaly
  | 0x0B04 => some vLoupeAlarm
  | 0x0C01 => some vPrismJoin
  | 0x0C02 => some vPrismLeave
  | 0x0C03 => some vPrismSchedule
  | 0x0C04 => some vPrismRelay
  | 0x0C05 => some vPrismSwap
  | 0x0C06 => some vPrismStatus
  | 0x0D01 => some vPowerGrants
  | 0x0D02 => some vPowerWake
  | 0x0E01 => some vStoreRead
  | 0x0E02 => some vStoreLog
  | _ => none

/-- R171: the urgent-capable verbs. -/
def urgentVerbs : List Nat :=
  [0x0101, 0x0403, 0x0407, 0x0602, 0x0606, 0x0703, 0x0706, 0x0801, 0x0A03, 0x0C06, 0x0D01]

/-- R729: LINE.ARM, LINE.MIRROR, CAL.DARK, CAL.WHITE, CAL.LOAD and CAM.START need DP_CLK. -/
def needsDp (code : Nat) : Bool := [0x0401, 0x0406, 0x0501, 0x0502, 0x0503, 0x0A02].contains code

/-- A refusal that precedes the state rules (R94). -/
def argRefusal (a : Ans) : Bool :=
  match a with
  | .reply st d _ => st == stBadObject || st == stNotDeclared || (st == stBadArg && (d == 0 || d == 4))
  | .wait _ => false

/-- R728, R729: a verb that needs DP_CLK runs in Run; it ends an automatic Idle or Doze; elsewhere it is refused. -/
def withDpClk (v : Cmd → State → Ans × State) (c : Cmd) (s : State) : Ans × State :=
  let still := s.power.trans == .none
  if still && s.power.present == .run then v c s
  else if argRefusal (v c s).1 then ((v c s).1, s)
  else if still && s.power.auto && s.power.present == .idle then v c (leaveIdle true s)
  else if still && s.power.auto && s.power.present == .doze then
    (.wait .waking, wakeDoze 0x80#32 (modPower (fun p => { p with wakeForVerb := true }) s))
  else refuse stState 3 s

/-- A verb as its channel carries it out (R171, R728, R729). -/
def carryOut (v : Cmd → State → Ans × State) (c : Cmd) (s : State) : State :=
  if c.req.chan = .urgent && !urgentVerbs.contains c.verb.toNat then finish c stBadVerb 2 [] s
  else answer c (if needsDp c.verb.toNat then withDpClk v c s else v c s)

/-- R105, R120, R700: no verb is in progress on the channel. -/
def chanFree (k : Chan) (s : State) : Bool :=
  match k with
  | .ring => s.fw.busy.isNone && s.fw.relaying.isNone
  | .urgent => s.fw.urgBusy.isNone
  | .relay _ => s.fw.busy.isNone

/-- A verb's row: firmware, running and with the channel free, executes it. What lies between a verb and its channel has rows of
its own: a free reply slot, the advance of CMD_RING_HEAD, the tag history (R94, R119, R127 to R133) are COMMAND_TAKEN's, and a
verb's own row neither asks for them nor does them (DESIGN CHOICE, log 92). -/
def runVerb (code : Nat) (v : Cmd → State → Ans × State) (r : Req) (s : State) : Host.Outcome State Fault Refusal :=
  settled (if fwRunning s && chanFree r.chan s then carryOut v { verb := h16 code, req := r } s else s)

/-! ### Packets (R94, R127 to R133) -/

/-- The tag history of a channel; a relayed command falls under the ring's (R127, R700). -/
def historyOf (k : Chan) (s : State) : List HistEntry :=
  match k with
  | .urgent => s.fw.histUrg
  | _ => s.fw.histRing

/-- R129: all seven command fields are equal. -/
def sameContent (c : Cmd) (e : HistEntry) : Bool :=
  let n := histEntry c 0 0 false []
  e.tag == n.tag && e.verb == n.verb && e.obj == n.obj && e.mods == n.mods && e.len == n.len && e.cls == n.cls && e.crc == n.crc

/-- R94, steps 5 to 8: the tag history, the verb, and the verb's own checks and effect. -/
def takeCommand (c : Cmd) (s : State) : State :=
  match (historyOf c.req.chan s).find? fun e => e.tag == c.req.tag with
  | some e =>
    if sameContent c e then sendReply c stDuplicate e.status e.detail (e.trunc || decide (48 < e.fullLen)) e.payload s
    else sendReply c stTagReuse stTagReuse 0 false [] s
  | none =>
    if bits c.verb.toNat 8 8 = 0xF0 then finish c stBadVerb 3 [] s
    else match verbOf c.verb.toNat with
      | some v => carryOut v c s
      | none => finish c stBadVerb 1 [] s

/-- R94: every check of a packet, and then its command. A packet that fails before the history is not entered in it (R132). -/
def acceptPacket (room cls : Nat) (b : List Byte) (c : Cmd) (s : State) : State :=
  match packetCheck room cls b with
  | some e => sendReply c e.1 e.1 e.2 false [] s
  | none => takeCommand c s

/-- COMMAND_TAKEN (R94, R113, R119, R120): a packet read from its slot of the command ring. -/
def execCommandTaken (packet : List Byte) (up : List UpDesc) (partOk : Bool) (s : State) : Host.Outcome State Fault Refusal :=
  settled (if commandReady s then
    let c := s.host.cmd
    acceptPacket 4080 0 packet (packetCmd packet .ring up partOk)
      { emit (.hostRead (slotAddr c c.head.toNat)) s with host := { s.host with cmd := { c with head := c.head + 1 } } }
  else s)

/-- FIRMWARE_URGENT_COMMAND (R94, R101, R105). -/
def execFirmwareUrgentCommand (up : List UpDesc) (partOk : Bool) (s : State) : Host.Outcome State Fault Refusal :=
  settled (match s.urg.slot with
    | some b => if fwRunning s && s.fw.urgBusy.isNone then acceptPacket 240 1 b (packetCmd b .urgent up partOk) s else s
    | none => s)

/-- RELAY_EXECUTE (R700): the oldest relayed command, taken as one of the ring. -/
def execRelayExecute (up : List UpDesc) (partOk : Bool) (s : State) : Host.Outcome State Fault Refusal :=
  settled (match s.prism.relayQ with
    | r :: rest =>
      if fwRunning s && s.fw.busy.isNone && s.prism.relayCur.isNone && (s.urg.slot.isNone || s.fw.urgBusy.isSome) then
        acceptPacket 4080 0 r.bytes (packetCmd r.bytes (.relay r.src) up partOk)
          { s with prism := { s.prism with relayQ := rest, relayCur := some (r.src, r.id) } }
      else s
    | [] => s)

/-! ### The end of a wake from Doze (R728, R736) -/

/-- The verb for which an automatic Doze was left is executed. -/
def wokenVerb (s : State) : State :=
  match s.fw.busy with
  | some (c, .waking) =>
    let t := { s with fw := { s.fw with busy := none } }
    match verbOf c.verb.toNat with
    | some v => answer c (v c t)
    | none => t
  | _ => s

/-- R736, step 7: every declared port has settled. -/
def portsSettled (s : State) : Bool :=
  s.line.st == .booted || (segNumbers s).all fun n => portUp (sport s n) || (sport s n).st == .failed

/-- WAKE_BRINGUP_END (R736, step 7). -/
def execWakeBringupEnd (s : State) : Host.Outcome State Fault Refusal :=
  settled (
    if s.power.trans != .waking || s.power.present != .doze || !fwRunning s || !s.clk.pllActive || !portsSettled s then s
    else
      let dest : PState := if s.power.request == .idle then .idle else .run
      let t := modPower (fun p => { p with present := dest, trans := .none, auto := false, wakeForVerb := false,
                                           idleOkSince := none, dozeOkSince := none }) s
      let t := { t with live := { t.live with life := { t.live.life with
        dozeWakes := min (t.live.life.dozeWakes + 1) (2 ^ 32 - 1) } } }
      let t := if dest == .idle then (segNumbers t).foldl (fun t n => stopRun n t) t else t
      actStored (wokenVerb (powerChanged .doze dest 3 t)))

/-! ### One row for each verb -/

/-- SYS.PING. -/
def execSysPing (r : Req) (s : State) : Host.Outcome State Fault Refusal := runVerb 0x0101 vSysPing r s

/-- SYS.INFO. -/
def execSysInfo (r : Req) (s : State) : Host.Outcome State Fault Refusal := runVerb 0x0102 vSysInfo r s

/-- SYS.TIME. -/
def execSysTime (r : Req) (s : State) : Host.Outcome State Fault Refusal := runVerb 0x0103 vSysTime r s

/-- FW.FLASH. -/
def execFwFlash (r : Req) (s : State) : Host.Outcome State Fault Refusal := runVerb 0x0201 vFwFlash r s

/-- FW.COMMIT. -/
def execFwCommit (r : Req) (s : State) : Host.Outcome State Fault Refusal := runVerb 0x0202 vFwCommit r s

/-- FW.STATUS. -/
def execFwStatus (r : Req) (s : State) : Host.Outcome State Fault Refusal := runVerb 0x0203 vFwStatus r s

/-- FW.POLICY. -/
def execFwPolicy (r : Req) (s : State) : Host.Outcome State Fault Refusal := runVerb 0x0204 vFwPolicy r s

/-- DECLARE.BOARD. -/
def execDeclareBoard (r : Req) (s : State) : Host.Outcome State Fault Refusal := runVerb 0x0301 vDeclareBoard r s

/-- DECLARE.QUERY. -/
def execDeclareQuery (r : Req) (s : State) : Host.Outcome State Fault Refusal := runVerb 0x0302 vDeclareQuery r s

/-- LINE.ARM. -/
def execLineArm (r : Req) (s : State) : Host.Outcome State Fault Refusal := runVerb 0x0401 vLineArm r s

/-- LINE.START. -/
def execLineStart (r : Req) (s : State) : Host.Outcome State Fault Refusal := runVerb 0x0402 vLineStart r s

/-- LINE.STOP. -/
def execLineStop (r : Req) (s : State) : Host.Outcome State Fault Refusal := runVerb 0x0403 vLineStop r s

/-- LINE.CONFIG. -/
def execLineConfig (r : Req) (s : State) : Host.Outcome State Fault Refusal := runVerb 0x0404 vLineConfig r s

/-- LINE.RECONFIGURE. -/
def execLineReconfigure (r : Req) (s : State) : Host.Outcome State Fault Refusal := runVerb 0x0405 vLineReconfigure r s

/-- LINE.MIRROR. -/
def execLineMirror (r : Req) (s : State) : Host.Outcome State Fault Refusal := runVerb 0x0406 vLineMirror r s

/-- LINE.STATUS. -/
def execLineStatus (r : Req) (s : State) : Host.Outcome State Fault Refusal := runVerb 0x0407 vLineStatus r s

/-- CAL.DARK. -/
def execCalDark (r : Req) (s : State) : Host.Outcome State Fault Refusal := runVerb 0x0501 vCalDark r s

/-- CAL.WHITE. -/
def execCalWhite (r : Req) (s : State) : Host.Outcome State Fault Refusal := runVerb 0x0502 vCalWhite r s

/-- CAL.LOAD. -/
def execCalLoad (r : Req) (s : State) : Host.Outcome State Fault Refusal := runVerb 0x0503 vCalLoad r s

/-- CAL.SWAP. -/
def execCalSwap (r : Req) (s : State) : Host.Outcome State Fault Refusal := runVerb 0x0504 vCalSwap r s

/-- CAL.LANES. -/
def execCalLanes (r : Req) (s : State) : Host.Outcome State Fault Refusal := runVerb 0x0505 vCalLanes r s

/-- CAL.PLACE. -/
def execCalPlace (r : Req) (s : State) : Host.Outcome State Fault Refusal := runVerb 0x0506 vCalPlace r s

/-- LAMP.SET. -/
def execLampSet (r : Req) (s : State) : Host.Outcome State Fault Refusal := runVerb 0x0601 vLampSetSend r s

/-- LAMP.OFF. -/
def execLampOff (r : Req) (s : State) : Host.Outcome State Fault Refusal := runVerb 0x0602 vLampOff r s

/-- LAMP.DUTY. -/
def execLampDuty (r : Req) (s : State) : Host.Outcome State Fault Refusal := runVerb 0x0603 vLampDutySend r s

/-- LAMP.TEST. -/
def execLampTest (r : Req) (s : State) : Host.Outcome State Fault Refusal := runVerb 0x0604 vLampTest r s

/-- LAMP.RECOVER. -/
def execLampRecover (r : Req) (s : State) : Host.Outcome State Fault Refusal := runVerb 0x0605 vLampRecoverSend r s

/-- LAMP.STATUS. -/
def execLampStatus (r : Req) (s : State) : Host.Outcome State Fault Refusal := runVerb 0x0606 vLampStatus r s

/-- AXIS.MOVE. -/
def execAxisMove (r : Req) (s : State) : Host.Outcome State Fault Refusal := runVerb 0x0701 vAxisMove r s

/-- AXIS.GROUP_MOVE. -/
def execAxisGroupMove (r : Req) (s : State) : Host.Outcome State Fault Refusal := runVerb 0x0702 vAxisGroupMove r s

/-- AXIS.STOP. -/
def execAxisStop (r : Req) (s : State) : Host.Outcome State Fault Refusal := runVerb 0x0703 vAxisStop r s

/-- AXIS.SET_POS. -/
def execAxisSetPos (r : Req) (s : State) : Host.Outcome State Fault Refusal := runVerb 0x0704 vAxisSetPos r s

/-- AXIS.ENABLE. -/
def execAxisEnable (r : Req) (s : State) : Host.Outcome State Fault Refusal := runVerb 0x0705 vAxisEnable r s

/-- AXIS.STATUS. -/
def execAxisStatus (r : Req) (s : State) : Host.Outcome State Fault Refusal := runVerb 0x0706 vAxisStatus r s

/-- TEMP.READ. -/
def execTempRead (r : Req) (s : State) : Host.Outcome State Fault Refusal := runVerb 0x0801 vTempRead r s

/-- TEMP.THRESHOLD. -/
def execTempThreshold (r : Req) (s : State) : Host.Outcome State Fault Refusal := runVerb 0x0802 vTempThreshold r s

/-- HK.SEQUENCE. -/
def execHkSequence (r : Req) (s : State) : Host.Outcome State Fault Refusal := runVerb 0x0901 vHkSequence r s

/-- HK.READ. -/
def execHkRead (r : Req) (s : State) : Host.Outcome State Fault Refusal := runVerb 0x0902 vHkRead r s

/-- CAM.CONFIG. -/
def execCamConfig (r : Req) (s : State) : Host.Outcome State Fault Refusal := runVerb 0x0A01 vCamConfig r s

/-- CAM.START. -/
def execCamStart (r : Req) (s : State) : Host.Outcome State Fault Refusal := runVerb 0x0A02 vCamStart r s

/-- CAM.STOP. -/
def execCamStop (r : Req) (s : State) : Host.Outcome State Fault Refusal := runVerb 0x0A03 vCamStop r s

/-- CAM.SENSOR. -/
def execCamSensor (r : Req) (s : State) : Host.Outcome State Fault Refusal := runVerb 0x0A04 vCamSensor r s

/-- LOUPE.STRIPE. -/
def execLoupeStripe (r : Req) (s : State) : Host.Outcome State Fault Refusal := runVerb 0x0B01 vLoupeStripe r s

/-- LOUPE.BANDS. -/
def execLoupeBands (r : Req) (s : State) : Host.Outcome State Fault Refusal := runVerb 0x0B02 vLoupeBands r s

/-- LOUPE.ANOMALY. -/
def execLoupeAnomaly (r : Req) (s : State) : Host.Outcome State Fault Refusal := runVerb 0x0B03 vLoupeAnomaly r s

/-- LOUPE.ALARM. -/
def execLoupeAlarm (r : Req) (s : State) : Host.Outcome State Fault Refusal := runVerb 0x0B04 vLoupeAlarm r s

/-- PRISM.JOIN. -/
def execPrismJoin (r : Req) (s : State) : Host.Outcome State Fault Refusal := runVerb 0x0C01 vPrismJoin r s

/-- PRISM.LEAVE. -/
def execPrismLeave (r : Req) (s : State) : Host.Outcome State Fault Refusal := runVerb 0x0C02 vPrismLeave r s

/-- PRISM.SCHEDULE. -/
def execPrismSchedule (r : Req) (s : State) : Host.Outcome State Fault Refusal := runVerb 0x0C03 vPrismSchedule r s

/-- PRISM.RELAY. -/
def execPrismRelay (r : Req) (s : State) : Host.Outcome State Fault Refusal := runVerb 0x0C04 vPrismRelay r s

/-- PRISM.SWAP. -/
def execPrismSwap (r : Req) (s : State) : Host.Outcome State Fault Refusal := runVerb 0x0C05 vPrismSwap r s

/-- PRISM.STATUS. -/
def execPrismStatus (r : Req) (s : State) : Host.Outcome State Fault Refusal := runVerb 0x0C06 vPrismStatus r s

/-- POWER.GRANTS. -/
def execPowerGrants (r : Req) (s : State) : Host.Outcome State Fault Refusal := runVerb 0x0D01 vPowerGrants r s

/-- POWER.WAKE. -/
def execPowerWake (r : Req) (s : State) : Host.Outcome State Fault Refusal := runVerb 0x0D02 vPowerWake r s

/-- STORE.READ. -/
def execStoreRead (r : Req) (s : State) : Host.Outcome State Fault Refusal := runVerb 0x0E01 vStoreRead r s

/-- STORE.LOG. -/
def execStoreLog (r : Req) (s : State) : Host.Outcome State Fault Refusal := runVerb 0x0E02 vStoreLog r s

end Sys2Proof.Machine
end

