-- ==== Sys2Proof/Machine/Grants.lean ====
section
/-! DEFINITION. What time does to grants (R747 to R749), the persistent store (R754, R755), firmware writes above a limit (R763,
R764) and DRAM errors (R770, R771): the rows GRANT_EXPIRY, GRANT_GUARD_TIMER, GRANT_RETRY, GRANT_RENEWAL, STORE_UPDATE_TIMER,
LIMIT_WRITE_CLAMP, DRAM_ECC_ERROR and ECC_REPORT_TIMER. -/

namespace Sys2Proof.Machine

def modGrants (f : GrantU → GrantU) (s : State) : State := { s with grants := f s.grants }

/-! ### Expiry (R748) -/

/-- R749: an operation's row, counted from 0 (R759). -/
def opRow : GrantOp → Nat
  | .lampRise => 0
  | .lampClaim => 1
  | .axisAccel => 2
  | .digitizer => 3
  | .dramTraining => 4
  | .bankLoad => 5
  | .calSweep => 6

/-- R748: the speed of the drives a holder moves rises no further. -/
def noRiseOf (h : Holder) (s : State) : State :=
  ((List.range 8).filter fun k => driveHolder k == h).foldl (fun t k => modDrv k (fun d => { d with noRise := true }) t) s

/-- R748: a string's target stops rising and holds; firmware asks again every 1 s. -/
def holdTarget (h : Holder) (s : State) : State :=
  match h with
  | .string n =>
    if (str s n).st == .starting then waitGrant h .lampRise (modStr n (fun x => { x with held := true }) s) else s
  | _ => s

/-- R748, R759: the operation goes on past its grant. -/
def grantOverrun (g : Grant) (s : State) : State :=
  if fwRunning s then
    logFault 0x000A [] (powerReport (pCode s.power.present) (pCode s.power.present) 5 (g.budget + 256 * opRow g.op) s)
  else s

/-- R748: the holder's action. -/
def expired (s : State) (g : Grant) : State :=
  match g.op with
  | .lampRise => holdTarget g.holder s
  | .lampClaim => s
  | .axisAccel => noRiseOf g.holder s
  | _ => grantOverrun g s

/-- GRANT_EXPIRY (R748): every grant whose duration has ended is returned, and its holder acts. -/
def execGrantExpiry (s : State) : Host.Outcome State Fault Refusal :=
  settled (
    let overs (g : Grant) : Bool := decide (g.start + g.dur ≤ s.localNs)
    let out := s.grants.grants.filter overs
    if out.isEmpty then s
    else out.foldl expired (trackOver (modGrants (fun u => { u with grants := u.grants.filter fun g => !overs g }) s)))

/-! ### Renewal (R747, R749) -/

/-- The grants of a holder that can be renewed. -/
def renewable (s : State) (h : Holder) : List Grant :=
  s.grants.grants.filter fun g => g.holder == h && g.op == .axisAccel && decide (s.localNs < g.start + g.dur)

/-- R747: the holder asks for another 100 ms, counted from the old grant's start; refused, it returns what it holds (R746). -/
def renewHolder (s : State) (h : Holder) : State :=
  let gs := renewable s h
  let bare := modGrants (fun u => { u with grants := u.grants.filter fun g => !gs.contains g }) s
  let bad := gs.filter fun g => !admits bare h g.budget g.mw (g.dur + 100000000) g.start
  if bad.isEmpty then
    noteAdmission h (trackOver (modGrants (fun u => { u with
      grants := u.grants ++ gs.map fun g => { g with dur := g.dur + 100000000 } }) bare))
  else noRiseOf h (bad.foldl (fun t g => noteRefusal h g.budget t) (returnGrants h s))

/-- GRANT_RENEWAL (R544, R747). -/
def execGrantRenewal (s : State) : Host.Outcome State Fault Refusal :=
  settled (if fwRunning s then
    (((s.grants.grants.filter fun g => g.op == .axisAccel && decide (s.localNs < g.start + g.dur)).map
      Grant.holder).eraseDups).foldl renewHolder s
  else s)

/-! ### The guard (R747) -/

/-- The holder whose unbroken run of refusals on a budget, at least 1 s long, began earliest. -/
def nextGuard (u : GrantU) (now b : Nat) : Option Holder :=
  (u.refusedRuns.find? fun r => r.budget == b && decide (r.since + 1000000000 ≤ now)).map Refused.holder

/-- A holder that has made no request for 2 s asks no more: its run has ended. -/
def liveRuns (u : GrantU) (now : Nat) : List Refused := u.refusedRuns.filter fun r => decide (now < r.last + 2000000000)

/-- The guard of a budget: kept while its holder still asks; else taken by the next. -/
def guardNow (u : GrantU) (now b : Nat) (g : Option Holder) : Option Holder :=
  match g with
  | some h => if u.refusedRuns.any (fun r => r.holder == h && r.budget == b) then some h else nextGuard u now b
  | none => nextGuard u now b

/-- GRANT_GUARD_TIMER (R747). -/
def execGrantGuardTimer (s : State) : Host.Outcome State Fault Refusal :=
  settled (modGrants (fun u =>
    let v := { u with refusedRuns := liveRuns u s.localNs }
    { v with guard := vmapIdx (guardNow v s.localNs) v.guard }) s)

/-! ### Retries (R749) -/

/-- R749: the retry interval in ns. -/
def retryNs (op : GrantOp) : Nat := if op == .lampRise then 1000000000 else 10000000

/-- The current a string in STARTING rises toward, in mA. -/
def goalMa (s : State) (n : Nat) (d : DString) : Nat :=
  if (str s n).restart then recoverMa s n d else min (iSetOf d (str s n).level) (ceilingMa s n d)

/-- R524, R748, R749: a string asks again for its rise. -/
def retryLamp (n : Nat) (s : State) : State :=
  match dString? s n with
  | none => unwaitGrant (.string n) .lampRise s
  | some d =>
    let x := str s n
    if x.st == .starting && x.held then
      let g := askRise n d (goalMa s n d) s
      if g.1 then unwaitGrant (.string n) .lampRise (modStr n (fun y => { y with held := false, updated := s.localNs }) g.2)
      else waitGrant (.string n) .lampRise g.2
    else if x.stepWanted then restoreCurrent n (waitGrant (.string n) .lampRise s)
    else unwaitGrant (.string n) .lampRise s

/-- R749, R750: DRAM training asks again, and fails after 10 s without a grant. -/
def retryDram (s : State) : State :=
  match s.line.dramAsk with
  | some t => if t + 10000000000 ≤ s.localNs then dramEnd 4 0 s else dramTry s
  | none => unwaitGrant .dram .dramTraining s

/-- One operation asks for its grant again. -/
def retryOne (s : State) (w : Holder × GrantOp × Nat) : State :=
  match w.1, w.2.1 with
  | .string n, .lampRise => retryLamp n s
  | .port n, .digitizer => askDigitizer n s
  | .dram, .dramTraining => retryDram s
  | .cal, .bankLoad => askCopy s
  | h, op => unwaitGrant h op s

/-- GRANT_RETRY (R749): the operations whose retry interval has passed. -/
def execGrantRetry (s : State) : Host.Outcome State Fault Refusal :=
  settled (if fwRunning s then
    (s.grants.waiting.filter fun w => decide (w.2.2 + retryNs w.2.1 ≤ s.localNs)).foldl retryOne s
  else s)

/-! ### The store (R754, R755) -/

/-- R754: the records to be written: those of lamps lit for 60 s more since theirs was written. -/
def agedLamps (s : State) : List (Nat × LampRecord) :=
  s.live.lamps.filterMap fun p =>
    let old := assoc s.store.ageing p.1
    if (old.map LampRecord.lit).getD 0 + 60 ≤ p.2.lit then some p else old.map fun r => (p.1, r)

/-- R754, R755: each lamp's record every 60 s of lit time, and the lifetime counters every 60 s. -/
def updateStore (s : State) : State :=
  let t := { s with store := { s.store with ageing := agedLamps s } }
  if t.localNs < t.live.writtenAt + 60000000000 then t
  else { t with store := { t.store with lifetime := t.live.life }, live := { t.live with writtenAt := t.localNs } }

/-- STORE_UPDATE_TIMER. -/
def execStoreUpdateTimer (s : State) : Host.Outcome State Fault Refusal := settled (if fwRunning s then updateStore s else s)

/-- R489, R754: what one second of a string's current adds to a lamp's record. -/
def litSecond (ma : Nat) (fraction : Rat) (r : LampRecord) : LampRecord :=
  { r with charge := r.charge + (ma : Rat) * (1 - fraction), lit := r.lit + (1 - fraction) }

/-- R754: a second passes for the lamps of a string that switches; a retired lamp is not lit. -/
def litString (s : State) (n : Nat) : State :=
  let x := str s n
  if !switching x then s
  else
    ((lampsOf s n).filter fun j => !(vget x.lamps j).retired).foldl (fun t j =>
      countLamps n (litSecond x.meanMa (((vget x.lamps j).sent : Rat) / 4096)) [j] t) s

/-- R754, R755: what firmware counts each second. -/
def countSecond (s : State) : State :=
  let run := s.power.present == .run
  let life (l : Lifetime) : Lifetime := { l with
    powerOn := min (l.powerOn + 1) (2 ^ 64 - 1), runSecs := if run then min (l.runSecs + 1) (2 ^ 64 - 1) else l.runSecs }
  (List.range 16).foldl litString { s with live := { s.live with life := life s.live.life } }

/-! ### The limit block's clamp (R762 to R764) -/

/-- R764: the entry that a class and an index name. -/
def limitEntryOf (cls idx : Nat) : Option LimitKey :=
  match cls with
  | 1 => if idx < 16 then some (.strI idx) else none
  | 2 => if idx < 16 then some (.strV idx) else none
  | 3 => if idx < 16 then some (.strDuty idx) else none
  | 4 => if idx < 4 then some (.axV idx) else none
  | 5 => if idx < 4 then some (.axA idx) else none
  | 6 => if idx < 4 then some (.axD idx) else none
  | 7 => if idx < 4 then some (.axEmerg idx) else none
  | 8 => if idx < 4 then some (.axI idx) else none
  | 9 => if idx < 8 then some (.tempRise idx) else none
  | _ => none

/-- R762, R763: the entry in force that a firmware write breaks, if it does: a bound of a supervisor window is broken by
a value outside the window. -/
def breached (cls idx : Nat) (value : Int) (s : State) : Option Int :=
  if cls = 10 then
    if idx < 24 ∨ 27 < idx then none
    else if value < limitOf (.supLow idx) s then some (limitOf (.supLow idx) s)
    else if limitOf (.supHigh idx) s < value then some (limitOf (.supHigh idx) s)
    else none
  else match limitEntryOf cls idx with
    | some k => if limitOf k s < value then some (limitOf k s) else none
    | none => none

/-- LIMIT_WRITE_CLAMP (R763, R764): firmware has written a value above an entry in force. The setting takes the entry, which
is what every setting of this model already keeps within. -/
def execLimitWriteClamp (cls idx : Nat) (value : Int) (s : State) : Host.Outcome State Fault Refusal :=
  settled (
    if !s.limit.ceilingLock || !fwRunning s then s
    else match breached cls idx value s with
      | none => s
      | some v =>
        let w := cls + fld idx 8 8
        let t := { s with limit := { s.limit with
          breachCount := min (s.limit.breachCount + 1) (2 ^ 32 - 1), lastBreach := w32 w } }
        fwLog 0x0005 [] (report 0x00C0 [w, unsignedOf 32 value, unsignedOf 32 v, lastAdm t] t))

/-! ### DRAM errors (R770, R771) -/

/-- R770: DRAM errors are detected. -/
def eccOn (s : State) : Bool := match s.decl with | some d => d.dram.ecc | none => false

def modDram (f : DramU → DramU) (s : State) : State := { s with dram := f s.dram }

/-- R771: RPT.DRAM_ECC. -/
def eccReport (area chan number : Nat) (bad : Bool) (s : State) : State :=
  if fwRunning s then
    modDram (fun u => { u with fixed := 0 })
      (report 0x00C1 [fld area 0 4 + flag bad 4 + fld chan 8 8, s.dram.fixed, number % 2 ^ 32, lastAdm s] s)
  else s

/-- R770: what an uncorrectable error does in its area. -/
def eccEffect (area number : Nat) (s : State) : State :=
  match area with
  | 1 => endCal stState 0x0100 [] s
  | 2 => { s with caps := s.caps.map fun c =>
      if !c.cal && c.index == number && c.gap == 0 then { c with gap := 4 } else c }
  | _ => s

/-- DRAM_ECC_ERROR (R770, R771): an error in an area (numbered as R394 does), on a DRAM channel, met by the line or capture
of this number (0xFFFFFFFF: none). -/
def execDramEccError (area chan number : Nat) (bad : Bool) (s : State) : Host.Outcome State Fault Refusal :=
  settled (
    if !eccOn s || s.line.dram.isNone || area < 1 || 7 < area then s
    else if bad then eccReport area chan number true (eccEffect area number s)
    else modDram (fun u => { u with fixed := min (u.fixed + 1) (2 ^ 32 - 1), lastFixed := (area, chan, number) }) s)

/-- ECC_REPORT_TIMER (R771): corrected errors have occurred, and none was reported for 1 s. -/
def execEccReportTimer (s : State) : Host.Outcome State Fault Refusal :=
  settled (
    let late := match s.dram.fixedAt with | some t => decide (t + 1000000000 ≤ s.localNs) | none => true
    if 0 < s.dram.fixed && late && fwRunning s then
      let l := s.dram.lastFixed
      modDram (fun u => { u with fixedAt := some s.localNs }) (eccReport l.1 l.2.1 l.2.2 false s)
    else s)

end Sys2Proof.Machine
end

