-- ==== Sys2Proof/Machine/Regs.lean ====
section
/-! DEFINITION. The BAR0 control window as the host reads and writes it (R11 to R14, R43 to R48, R86, R87, R103, R116, R124, R135
to R138, R151 to R153, R721, R723, R760, R762), the I2C target's window (R733) and the release of the core after Deep standby
(R738, R741, R791): the rows REGISTER_WRITE, I2C_TARGET_READ and CORE_RAILS_IN_RANGE. -/

namespace Sys2Proof.Machine

/-! ### What each register reads as -/

/-- R48: the code of a firmware stage. -/
def stageCode : FwStage → Nat
  | .reset => 0
  | .romBoot => 1
  | .waitHost => 2
  | .loading => 3
  | .starting => 4
  | .running => 5
  | .failed => 6

/-- R48: FW_STATE. -/
def fwStateWord (s : State) : Nat :=
  stageCode s.boot.stage + fld s.boot.source 8 4 + fld s.boot.reason 12 4 + flag s.clk.pllActive 16 +
    flag s.dbg.openScope.isSome 17 + flag s.limit.ceilingLock 18 + flag s.limit.limitLock 19 + fld s.boot.wdogCount 20 4

/-- R87: HOST_LINK. -/
def hostLinkWord (s : State) : Nat :=
  let u := s.host
  u.linkSpeed + fld u.linkWidth 4 6 + flag (u.linkSpeed != 0 && (decide (u.linkSpeed < 4) || decide (u.linkWidth < 8))) 16

/-- R103: URG_STATUS. -/
def urgStatusWord (s : State) : Nat := flag s.urg.slot.isSome 0 + fld s.urg.hwCount 8 8 + fld s.urg.fwCount 16 8

/-- R138: RING_STATUS. -/
def ringStatusWord (r : DataRing) : Nat :=
  flag (ringOn r && r.head != r.posted && !r.stopped) 0 + flag r.fetchErr 2 + flag r.postReject 3 + flag r.setupReject 4

/-- R721, R722: POWER_STATE. REQUEST reads as last written, a request stored while BUSY included (R11). -/
def powerStateWord (s : State) : Nat :=
  let p := s.power
  pCode (p.stored.getD p.request) + flag p.autoIdle 8 + flag p.autoDoze 9 + fld (pCode p.present) 16 4 + flag (p.trans != .none) 23 +
    fld p.refuseReason 24 4

/-- R135: a register of a data ring's block. -/
def ringReg (r : DataRing) (o : Nat) : Nat :=
  match o with
  | 0x00 => r.baseLo.toNat
  | 0x04 => r.baseHi.toNat
  | 0x08 => r.size
  | 0x0C => r.tail.toNat
  | 0x10 => r.head.toNat
  | 0x14 => r.ctrl.toNat
  | 0x18 => ringStatusWord r
  | _ => 0

/-- R760, R762: an entry of the limit view, as many bits as it holds. -/
def limitWord (k : LimitKey) (width : Nat) (s : State) : Nat := unsignedOf width (limitOf k s)

/-- R760: the limit view, from its own offset. -/
def limitView (o : Nat) (s : State) : Nat :=
  if o = 0 then flag s.limit.ceilingLock 8 + flag s.limit.limitLock 9
  else if o = 4 then s.limit.breachCount
  else if o = 8 then s.limit.lastBreach.toNat
  else if 0x100 ≤ o ∧ o < 0x200 then
    let n := (o - 0x100) / 16
    match o % 16 with
    | 0 => limitWord (.strI n) 16 s
    | 4 => limitWord (.strV n) 32 s
    | 8 => limitWord (.strDuty n) 12 s
    | _ => 0
  else if 0x200 ≤ o ∧ o < 0x280 then
    let a := (o - 0x200) / 32
    match o % 32 with
    | 0 => limitWord (.axV a) 32 s
    | 4 => limitWord (.axA a) 32 s
    | 8 => limitWord (.axD a) 32 s
    | 12 => limitWord (.axEmerg a) 32 s
    | 16 => limitWord (.axI a) 10 s
    | _ => 0
  else if 0x300 ≤ o ∧ o < 0x380 then
    let b := (o - 0x300) / 16
    match o % 16 with
    | 0 => limitWord (.budCont b) 32 s
    | 4 => limitWord (.budPeak b) 32 s
    | 8 => limitWord (.budMs b) 16 s
    | _ => 0
  else if 0x400 ≤ o ∧ o < 0x420 then limitWord (.tempRise ((o - 0x400) / 4)) 16 s
  else if 0x480 ≤ o ∧ o < 0x4A0 then
    let c := 24 + (o - 0x480) / 8
    limitWord (if o % 8 = 0 then .supLow c else .supHigh c) (if c = 24 then 16 else 12) s
  else 0

/-- A window's word at a byte offset within it. -/
def windowWord (b : List Byte) (o : Nat) : Nat := uAt b o 4

/-- The value a read of a BAR0 register returns (R11, R13, R86); REPORT_DATA has a row of its own, for its reads act. -/
def barRead (o : Nat) (s : State) : Nat :=
  if 0x100 ≤ o ∧ o < 0x200 then windowWord s.urg.cmd (o - 0x100)
  else if 0x200 ≤ o ∧ o < 0x280 then windowWord s.urg.fwReply (o - 0x200)
  else if 0x280 ≤ o ∧ o < 0x300 then windowWord s.urg.hwReply (o - 0x280)
  else if 0x1000 ≤ o ∧ o < 0x1400 then ringReg (ring s ((o - 0x1000) / 0x40)) (o % 0x40)
  else if 0x2008 ≤ o ∧ o < 0x2028 then (vget s.int.map ((o - 0x2008) / 4)).toNat
  else if 0x3000 ≤ o ∧ o < 0x4000 then limitView (o - 0x3000) s
  else match o with
  | 0x0000 => 0x24720B01
  | 0x0004 => 0x00010B01
  | 0x0008 => s.boot.fwVersion.toNat
  | 0x000C => fwStateWord s
  | 0x0010 => hostLinkWord s
  | 0x0048 => urgStatusWord s
  | 0x0400 => s.host.cmd.baseLo.toNat
  | 0x0404 => s.host.cmd.baseHi.toNat
  | 0x0408 => s.host.cmd.size
  | 0x040C => s.host.cmd.tail.toNat
  | 0x0410 => s.host.cmd.head.toNat
  | 0x0420 => s.host.rep.baseLo.toNat
  | 0x0424 => s.host.rep.baseHi.toNat
  | 0x0428 => s.host.rep.size
  | 0x042C => s.host.rep.tail.toNat
  | 0x0430 => s.host.rep.head.toNat
  | 0x0440 => s.host.cmdStatus.toNat
  | 0x0804 => reportLevel s.rep
  | 0x0808 => s.rep.fifo.length
  | 0x080C => s.rep.lost.toNat
  | 0x2000 => s.int.status.toNat
  | 0x2004 => s.int.mask.toNat
  | 0x4004 => powerStateWord s
  | 0x4008 => s.wake.cause.toNat
  | 0x400C => s.rst.cause.toNat
  | _ => 0

/-! ### Writes (R11 to R14) -/

/-- Four bytes of a window replaced. -/
def putWord (b : List Byte) (o : Nat) (v : Word) : List Byte := b.take o ++ wordBytes v ++ b.drop (o + 4)

/-- R116: a ring's base; its low 12 bits must be 0. -/
def baseWrite (reply high : Bool) (v : Word) (s : State) : State :=
  let put (r : PacketRing) : PacketRing :=
    if high then { r with baseHi := v } else { r with baseLo := v &&& 0xFFFFF000#32 }
  if !setupOpen s then setupReject s
  else if reply then { s with host := { s.host with rep := put s.host.rep } }
  else { s with host := { s.host with cmd := put s.host.cmd } }

/-- R114: CMD_RING_TAIL. -/
def cmdTailWrite (v : Word) (s : State) : State :=
  { s with host := { s.host with cmd := { s.host.cmd with tail := v.setWidth 16 } } }

/-- R135: a write to a data ring's block. -/
def ringWrite (k o : Nat) (v : Word) (s : State) : State :=
  match o with
  | 0x00 => dataRingBaseWrite k false v s
  | 0x04 => dataRingBaseWrite k true v s
  | 0x08 => dataRingSizeWrite k v s
  | 0x0C => ringTailWrite k v s
  | 0x14 => ringCtrlWrite k v s
  | 0x18 => ringStatusClear k v s
  | _ => s

/-- R153: MSIX_MAPm: four vectors of 6 bits. -/
def msixMapWrite (m : Nat) (v : Word) (s : State) : State :=
  { s with int := { s.int with map := vset s.int.map m (v &&& 0x3F3F3F3F#32) } }

/-- R44: SOFT_RESET. -/
def softResetWrite (v : Word) (s : State) : State := if v.getLsbD 0 then softResetCore v s else softResetControl v s

/-- R723: WAKE_CAUSE. -/
def wakeCauseClear (v : Word) (s : State) : State := { s with wake := { s.wake with cause := s.wake.cause &&& ~~~v } }

/-- R45: RESET_CAUSE. -/
def resetCauseClear (v : Word) (s : State) : State := { s with rst := { s.rst with cause := s.rst.cause &&& ~~~v } }

/-- A write to a BAR0 register acts as its access code and its own rules state; RO registers and unassigned offsets take
none (R11, R13). -/
def regWriteAt (o : Nat) (v : Word) (s : State) : State :=
  if 0x100 ≤ o ∧ o < 0x200 then { s with urg := { s.urg with cmd := putWord s.urg.cmd (o - 0x100) v } }
  else if 0x1000 ≤ o ∧ o < 0x1400 then ringWrite ((o - 0x1000) / 0x40) (o % 0x40) v s
  else if 0x2008 ≤ o ∧ o < 0x2028 then msixMapWrite ((o - 0x2008) / 4) v s
  else match o with
  | 0x0040 => urgDoorbell v s
  | 0x0044 => nrmDoorbell v s
  | 0x0400 => baseWrite false false v s
  | 0x0404 => baseWrite false true v s
  | 0x0408 => ringSizeWrite false v s
  | 0x040C => cmdTailWrite v s
  | 0x0420 => baseWrite true false v s
  | 0x0424 => baseWrite true true v s
  | 0x0428 => ringSizeWrite true v s
  | 0x0430 => replyHeadWrite v s
  | 0x0440 => cmdStatusClear v s
  | 0x2000 => clearInt v s
  | 0x2004 => intMaskWrite v s
  | 0x4000 => softResetWrite v s
  | 0x4004 => powerWrite v s
  | 0x4008 => wakeCauseClear v s
  | 0x400C => resetCauseClear v s
  | _ => s

/-! ### BAR2 and configuration space (R78, R80, R81, R154) -/

/-- The value a read of BAR2 returns: the MSI-X table at 0x0000 and the pending-bit array at 0x1000 (R78). -/
def bar2Read (o : Nat) (s : State) : Nat :=
  if o < 0x400 then
    let e := vget s.int.table (o / 16)
    match o % 16 with
    | 0 => e.addr % 2 ^ 32
    | 4 => e.addr / 2 ^ 32
    | 8 => e.data.toNat
    | _ => flag e.masked 0
  else if o = 0x1000 then s.int.pba.toNat % 2 ^ 32
  else if o = 0x1004 then s.int.pba.toNat / 2 ^ 32
  else 0

/-- A field of 32 bits of a 64-bit number replaced. -/
def putHalf (high : Bool) (v n : Nat) : Nat := if high then n % 2 ^ 32 + v * 2 ^ 32 else n / 2 ^ 32 * 2 ^ 32 + v

/-- A write to an entry of the MSI-X table (R78, R154); a message address is a multiple of 4. -/
def msixEntryWrite (o : Nat) (v : Word) (e : MsixEntry) : MsixEntry :=
  match o with
  | 0 => { e with addr := putHalf false (v &&& ~~~3#32).toNat e.addr }
  | 4 => { e with addr := putHalf true v.toNat e.addr }
  | 8 => { e with data := v }
  | _ => { e with masked := v.getLsbD 0 }

/-- A write to BAR2 (R78, R154). The pending bits are read-only. -/
def bar2Write (o : Nat) (v : Word) (s : State) : State :=
  if o < 0x400 then { s with int := { s.int with table := vmod s.int.table (o / 16) (msixEntryWrite (o % 16) v) } } else s

/-- The value a read of configuration space returns (R78, R80, R81): the identities, the BARs and the capabilities, at places
of the model's choice (log 64): Power Management 0x40, MSI-X 0x50, PCI Express 0x70, Advanced Error Reporting 0x100, Device
Serial Number 0x140, Latency Tolerance Reporting 0x150, L1 PM Substates 0x160. -/
def configRead (o : Nat) (s : State) : Nat :=
  let p := s.host.pci
  match o with
  | 0x00 => 0x24721F0A
  | 0x04 => 0x00100000 + p.command
  | 0x08 => 0x048000B1
  | 0x10 => p.bar0 % 2 ^ 32 + 4
  | 0x14 => p.bar0 / 2 ^ 32
  | 0x18 => p.bar2 % 2 ^ 32 + 4
  | 0x1C => p.bar2 / 2 ^ 32
  | 0x2C => 0x24721F0A
  | 0x34 => 0x40
  | 0x40 => 0x00035001
  | 0x44 => if s.rst.d3hot then 3 else 0
  | 0x50 => 0x003F7011 + flag s.int.msixMasked 30 + flag s.int.msixOn 31
  | 0x54 => 0x0002
  | 0x58 => 0x1002
  | 0x70 => 0x00020010
  | 0x74 => 0x00008002
  | 0x78 => p.deviceCtl
  | 0x7C => 0x00000C84
  | 0x80 => p.linkCtl + fld s.host.linkSpeed 16 4 + fld s.host.linkWidth 20 6
  | 0x94 => 0x00020800
  | 0x98 => p.deviceCtl2
  | 0x100 => 0x14020001
  | 0x104 => p.aerUncor.toNat
  | 0x108 => p.aerUncorMask.toNat
  | 0x10C => p.aerUncorSev.toNat
  | 0x110 => p.aerCor.toNat
  | 0x114 => p.aerCorMask.toNat
  | 0x140 => 0x15010003
  | 0x144 => uAt Config.uniqueId 0 4
  | 0x148 => uAt Config.uniqueId 4 4
  | 0x150 => 0x16010018
  | 0x154 => p.ltrMax.toNat
  | 0x160 => 0x0001001E
  | 0x164 => 0x0000001F
  | 0x168 => p.l1Ctl.toNat
  | _ => 0

/-- A write to the registers of configuration space that `PciU` holds. -/
def pciWrite (o : Nat) (v : Word) (p : PciU) : PciU :=
  match o with
  | 0x04 => { p with command := (v &&& 0x0546#32).toNat }
  | 0x10 => { p with bar0 := putHalf false (v &&& 0xFFFF0000#32).toNat p.bar0 }
  | 0x14 => { p with bar0 := putHalf true v.toNat p.bar0 }
  | 0x18 => { p with bar2 := putHalf false (v &&& 0xFFFFE000#32).toNat p.bar2 }
  | 0x1C => { p with bar2 := putHalf true v.toNat p.bar2 }
  | 0x78 => { p with deviceCtl := v.toNat % 65536 }
  | 0x80 => { p with linkCtl := v.toNat % 65536 }
  | 0x98 => { p with deviceCtl2 := v.toNat % 65536 }
  | 0x104 => { p with aerUncor := p.aerUncor &&& ~~~v }
  | 0x108 => { p with aerUncorMask := v }
  | 0x10C => { p with aerUncorSev := v }
  | 0x110 => { p with aerCor := p.aerCor &&& ~~~v }
  | 0x114 => { p with aerCorMask := v }
  | 0x154 => { p with ltrMax := v }
  | 0x168 => { p with l1Ctl := v }
  | _ => p

/-- A configuration write: the power state (R84), MSI-X's control (R154), or a register of `PciU`. -/
def configWrite (o : Nat) (v : Word) (s : State) : State :=
  if o = 0x44 then
    match bits v.toNat 0 2 with
    | 0 => leaveD3hot s
    | 3 => enterD3hot s
    | _ => s
  else if o = 0x50 then { s with int := { s.int with msixOn := v.getLsbD 31, msixMasked := v.getLsbD 30 } }
  else { s with host := { s.host with pci := pciWrite o v s.host.pci } }

/-- Whether a write of the host to a window reaches it: a memory request in D0, a configuration request in D3hot too (R84). -/
def windowReach : Window → State → Bool
  | .config, s => configReach s
  | _, s => hostReach s

/-- A write of 32 bits to a window. -/
def windowWrite : Window → Nat → Word → State → State
  | .bar0, o, v, s => regWriteAt o v s
  | .bar2, o, v, s => bar2Write o v s
  | .config, o, v, s => configWrite o v s

/-- REGISTER_WRITE (R11 to R14, R78, R86): a write of 32 bits to BAR0, to the MSI-X table or to configuration space. One that
is not naturally aligned breaks the host's obligation of R14, for which no chapter states a detection: undefined by R5. -/
def execRegisterWrite (addr : HostAddr) (v : Word) (s : State) : Host.Outcome State Fault Refusal :=
  if !windowReach addr.win s then settled s
  else if addr.offset % 4 != 0 then .fault (.unalignedAccess addr.offset)
  else settled (windowWrite addr.win addr.offset v s)

/-! ### The I2C target's window (R733) -/

/-- The byte at a pointer value. -/
def i2cByteAt (p : Nat) (s : State) : Byte :=
  let word := if p < 0x10 then barRead (p / 4 * 4) s else if p < 0x20 then barRead (0x4000 + (p - 0x10) / 4 * 4) s else 0
  b8 (word / 256 ^ (p % 4))

/-- I2C_TARGET_READ (R733): one byte is read, and the pointer advances. -/
def execI2cTargetRead (s : State) : Host.Outcome State Fault Refusal :=
  settled (if s.wake.i2cOpen && !i2cAsleep s && coreOn s then
    let t := emit (.i2cByte (i2cByteAt s.wake.i2cPointer s)) s
    { t with wake := { t.wake with i2cPointer := (t.wake.i2cPointer + 1) % 256 } }
  else s)

/-! ### Wake from Deep standby (R738, R740, R741, R791) -/

/-- R730, R735, R741: what the core finds of retention memory. The system time resumes at its value at entry. -/
def heldRetained (s : State) : State :=
  match s.wake.retention with
  | some b =>
    if retentionOk b then
      { s with time := { s.time with sys := retU b 0x60 8 * 2 ^ 32 }, prism := { s.prism with retained := true } }
    else setWakeCause 0x100#32 { s with wake := { s.wake with retention := none } }
  | none => setWakeCause 0x100#32 s

/-- CORE_RAILS_IN_RANGE (R738 steps 2 and 3, R791): the core is released and the boot ROM starts, with WAKE_N asserted. -/
def execCoreRailsInRange (s : State) : Host.Outcome State Fault Refusal :=
  settled (
    if s.power.present != .deep || s.power.trans != .waking || !s.pins.pwrEnCore then s
    else
      let t := { s with
        pins := { s.pins with wakeAsserted := true }
        clk := { s.clk with refRunning := true }
        power := { s.power with present := .run, trans := .none }
        boot := { s.boot with wokeFromDeep := true } }
      let t := countLife (fun l => { l with deepWakes := min (l.deepWakes + 1) (2 ^ 32 - 1) }) (heldRetained t)
      driveFault (bootRom t))

end Sys2Proof.Machine
end

