-- ==== Sys2Proof/Machine/Dispatch.lean ====
section
/-! DEFINITION. One arm per constructor of Instr: the direct call of the command's meaning. -/

namespace Sys2Proof.Machine

def exec (i : Instr) (s : State) : Host.Outcome State Fault Refusal :=
  match i with
  | .powerOn => Sys2Proof.Machine.execPowerOn s
  | .resetNLow low => Sys2Proof.Machine.execResetNLow low s
  | .perstNFall => Sys2Proof.Machine.execPerstNFall s
  | .perstNRise => Sys2Proof.Machine.execPerstNRise s
  | .softResetCore v => Sys2Proof.Machine.execSoftResetCore v s
  | .softResetControl v => Sys2Proof.Machine.execSoftResetControl v s
  | .thermalShutdown => Sys2Proof.Machine.execThermalShutdown s
  | .thermalShutdownRelease => Sys2Proof.Machine.execThermalShutdownRelease s
  | .watchdogExpiry => Sys2Proof.Machine.execWatchdogExpiry s
  | .debugResetRequest => Sys2Proof.Machine.execDebugResetRequest s
  | .debugChallengeResponse scope key signature => Sys2Proof.Machine.execDebugChallengeResponse scope key signature s
  | .debugHalt => Sys2Proof.Machine.execDebugHalt s
  | .tapReset => Sys2Proof.Machine.execTapReset s
  | .clockFault refLost => Sys2Proof.Machine.execClockFault refLost s
  | .rootPllLock => Sys2Proof.Machine.execRootPllLock s
  | .pllFail => Sys2Proof.Machine.execPllFail s
  | .bootRomStart => Sys2Proof.Machine.execBootRomStart s
  | .flashImageLoaded => Sys2Proof.Machine.execFlashImageLoaded s
  | .hostImageReceived descs => Sys2Proof.Machine.execHostImageReceived descs s
  | .fwRunning => Sys2Proof.Machine.execFwRunning s
  | .urgDoorbell v => Sys2Proof.Machine.execUrgDoorbell v s
  | .firmwareUrgentCommand up partOk => Sys2Proof.Machine.execFirmwareUrgentCommand up partOk s
  | .nrmDoorbellCmd v => Sys2Proof.Machine.execNrmDoorbellCmd v s
  | .nrmDoorbellRings v => Sys2Proof.Machine.execNrmDoorbellRings v s
  | .commandTaken packet up partOk => Sys2Proof.Machine.execCommandTaken packet up partOk s
  | .commandFetchError => Sys2Proof.Machine.execCommandFetchError s
  | .ringSizeWrite reply v => Sys2Proof.Machine.execRingSizeWrite reply v s
  | .replyRingHeadWrite v => Sys2Proof.Machine.execReplyRingHeadWrite v s
  | .cmdStatusClear v => Sys2Proof.Machine.execCmdStatusClear v s
  | .reportDataRead => Sys2Proof.Machine.execReportDataRead s
  | .ringTailWrite k v => Sys2Proof.Machine.execRingTailWrite k v s
  | .dataRingSizeWrite k v => Sys2Proof.Machine.execDataRingSizeWrite k v s
  | .ringCtrlEnable k v => Sys2Proof.Machine.execRingCtrlEnable k v s
  | .ringCtrlDisable k v => Sys2Proof.Machine.execRingCtrlDisable k v s
  | .ringStatusClear k v => Sys2Proof.Machine.execRingStatusClear k v s
  | .descriptorFetchError k => Sys2Proof.Machine.execDescriptorFetchError k s
  | .intMaskWrite v => Sys2Proof.Machine.execIntMaskWrite v s
  | .registerWrite addr v => Sys2Proof.Machine.execRegisterWrite addr v s
  | .d3hotEntry => Sys2Proof.Machine.execD3hotEntry s
  | .barAccessInD3hot => Sys2Proof.Machine.execBarAccessInD3hot s
  | .d0Return => Sys2Proof.Machine.execD0Return s
  | .linkTrained speed width => Sys2Proof.Machine.execLinkTrained speed width s
  | .linkDown => Sys2Proof.Machine.execLinkDown s
  | .linkReturnL0 => Sys2Proof.Machine.execLinkReturnL0 s
  | .haltMotion tag obj mods len => Sys2Proof.Machine.execHaltMotion tag obj mods len s
  | .lampsSafe tag obj mods len => Sys2Proof.Machine.execLampsSafe tag obj mods len s
  | .captureFreeze tag obj mods len => Sys2Proof.Machine.execCaptureFreeze tag obj mods len s
  | .controlReset tag obj mods len => Sys2Proof.Machine.execControlReset tag obj mods len s
  | .sysPing r => Sys2Proof.Machine.execSysPing r s
  | .sysInfo r => Sys2Proof.Machine.execSysInfo r s
  | .sysTime r => Sys2Proof.Machine.execSysTime r s
  | .fwFlash r => Sys2Proof.Machine.execFwFlash r s
  | .fwCommit r => Sys2Proof.Machine.execFwCommit r s
  | .fwStatus r => Sys2Proof.Machine.execFwStatus r s
  | .fwPolicy r => Sys2Proof.Machine.execFwPolicy r s
  | .declareBoard r => Sys2Proof.Machine.execDeclareBoard r s
  | .declareQuery r => Sys2Proof.Machine.execDeclareQuery r s
  | .lineArm r => Sys2Proof.Machine.execLineArm r s
  | .lineStart r => Sys2Proof.Machine.execLineStart r s
  | .lineStop r => Sys2Proof.Machine.execLineStop r s
  | .lineConfig r => Sys2Proof.Machine.execLineConfig r s
  | .lineReconfigure r => Sys2Proof.Machine.execLineReconfigure r s
  | .lineMirror r => Sys2Proof.Machine.execLineMirror r s
  | .lineStatus r => Sys2Proof.Machine.execLineStatus r s
  | .calDark r => Sys2Proof.Machine.execCalDark r s
  | .calWhite r => Sys2Proof.Machine.execCalWhite r s
  | .calLoad r => Sys2Proof.Machine.execCalLoad r s
  | .calSwap r => Sys2Proof.Machine.execCalSwap r s
  | .calLanes r => Sys2Proof.Machine.execCalLanes r s
  | .calPlace r => Sys2Proof.Machine.execCalPlace r s
  | .lampSet r => Sys2Proof.Machine.execLampSet r s
  | .lampOff r => Sys2Proof.Machine.execLampOff r s
  | .lampDuty r => Sys2Proof.Machine.execLampDuty r s
  | .lampTest r => Sys2Proof.Machine.execLampTest r s
  | .lampRecover r => Sys2Proof.Machine.execLampRecover r s
  | .lampStatus r => Sys2Proof.Machine.execLampStatus r s
  | .axisMove r => Sys2Proof.Machine.execAxisMove r s
  | .axisGroupMove r => Sys2Proof.Machine.execAxisGroupMove r s
  | .axisStop r => Sys2Proof.Machine.execAxisStop r s
  | .axisSetPos r => Sys2Proof.Machine.execAxisSetPos r s
  | .axisEnable r => Sys2Proof.Machine.execAxisEnable r s
  | .axisStatus r => Sys2Proof.Machine.execAxisStatus r s
  | .tempRead r => Sys2Proof.Machine.execTempRead r s
  | .tempThreshold r => Sys2Proof.Machine.execTempThreshold r s
  | .hkSequence r => Sys2Proof.Machine.execHkSequence r s
  | .hkRead r => Sys2Proof.Machine.execHkRead r s
  | .camConfig r => Sys2Proof.Machine.execCamConfig r s
  | .camStart r => Sys2Proof.Machine.execCamStart r s
  | .camStop r => Sys2Proof.Machine.execCamStop r s
  | .camSensor r => Sys2Proof.Machine.execCamSensor r s
  | .loupeStripe r => Sys2Proof.Machine.execLoupeStripe r s
  | .loupeBands r => Sys2Proof.Machine.execLoupeBands r s
  | .loupeAnomaly r => Sys2Proof.Machine.execLoupeAnomaly r s
  | .loupeAlarm r => Sys2Proof.Machine.execLoupeAlarm r s
  | .prismJoin r => Sys2Proof.Machine.execPrismJoin r s
  | .prismLeave r => Sys2Proof.Machine.execPrismLeave r s
  | .prismSchedule r => Sys2Proof.Machine.execPrismSchedule r s
  | .prismRelay r => Sys2Proof.Machine.execPrismRelay r s
  | .prismSwap r => Sys2Proof.Machine.execPrismSwap r s
  | .prismStatus r => Sys2Proof.Machine.execPrismStatus r s
  | .powerGrants r => Sys2Proof.Machine.execPowerGrants r s
  | .powerWake r => Sys2Proof.Machine.execPowerWake r s
  | .storeRead r => Sys2Proof.Machine.execStoreRead r s
  | .storeLog r => Sys2Proof.Machine.execStoreLog r s
  | .lineStopComplete => Sys2Proof.Machine.execLineStopComplete s
  | .runCountEnd => Sys2Proof.Machine.execRunCountEnd s
  | .dramTrainingEnd code mib => Sys2Proof.Machine.execDramTrainingEnd code mib s
  | .lineTrigger mon => Sys2Proof.Machine.execLineTrigger mon s
  | .encoderPositionLatch => Sys2Proof.Machine.execEncoderPositionLatch s
  | .calibrationLineTimer mon => Sys2Proof.Machine.execCalibrationLineTimer mon s
  | .dataPacketReceived port slots pos groups => Sys2Proof.Machine.execDataPacketReceived port slots pos groups s
  | .registerReplyReceived port lanes => Sys2Proof.Machine.execRegisterReplyReceived port lanes s
  | .registerSequenceTimeout port => Sys2Proof.Machine.execRegisterSequenceTimeout port s
  | .readoutDeadline => Sys2Proof.Machine.execReadoutDeadline s
  | .integrityWindowEnd => Sys2Proof.Machine.execIntegrityWindowEnd s
  | .phaseTrackWindow port ln early late => Sys2Proof.Machine.execPhaseTrackWindow port ln early late s
  | .laneLost port lanes => Sys2Proof.Machine.execLaneLost port lanes s
  | .trainingWindow port ln rx => Sys2Proof.Machine.execTrainingWindow port ln rx s
  | .rotateInterval port => Sys2Proof.Machine.execRotateInterval port s
  | .copyCompareEnd port got => Sys2Proof.Machine.execCopyCompareEnd port got s
  | .prbsLock port rx => Sys2Proof.Machine.execPrbsLock port rx s
  | .sopAligned sops => Sys2Proof.Machine.execSopAligned sops s
  | .digitizerRunSettle port => Sys2Proof.Machine.execDigitizerRunSettle port s
  | .calibrationTablesWritten => Sys2Proof.Machine.execCalibrationTablesWritten s
  | .bankRelease => Sys2Proof.Machine.execBankRelease s
  | .bankCopyEnd => Sys2Proof.Machine.execBankCopyEnd s
  | .achromatFormLine => Sys2Proof.Machine.execAchromatFormLine s
  | .lineDelivery k d => Sys2Proof.Machine.execLineDelivery k d s
  | .gapRecordFlush => Sys2Proof.Machine.execGapRecordFlush s
  | .paceWindowEnd => Sys2Proof.Machine.execPaceWindowEnd s
  | .hostStallTimeout => Sys2Proof.Machine.execHostStallTimeout s
  | .seamStandstill => Sys2Proof.Machine.execSeamStandstill s
  | .seamDwellEnd => Sys2Proof.Machine.execSeamDwellEnd s
  | .seamBackupReached => Sys2Proof.Machine.execSeamBackupReached s
  | .seamHostWaitEnd => Sys2Proof.Machine.execSeamHostWaitEnd s
  | .seamJoinCheck => Sys2Proof.Machine.execSeamJoinCheck s
  | .stripeFinalise => Sys2Proof.Machine.execStripeFinalise s
  | .loupeFirmwareResults => Sys2Proof.Machine.execLoupeFirmwareResults s
  | .idleMark mon => Sys2Proof.Machine.execIdleMark mon s
  | .switchingPeriod str trips cycle => Sys2Proof.Machine.execSwitchingPeriod str trips cycle s
  | .overcurrentFault str => Sys2Proof.Machine.execOvercurrentFault str s
  | .overvoltageFault str opens => Sys2Proof.Machine.execOvervoltageFault str opens s
  | .outputShortFault str => Sys2Proof.Machine.execOutputShortFault str s
  | .lampShortFault str shorts => Sys2Proof.Machine.execLampShortFault str shorts s
  | .regulationFault str => Sys2Proof.Machine.execRegulationFault str s
  | .lampFrameReturn bytes => Sys2Proof.Machine.execLampFrameReturn bytes s
  | .pollTimer => Sys2Proof.Machine.execPollTimer s
  | .lampLinkEnumWait => Sys2Proof.Machine.execLampLinkEnumWait s
  | .lampLinkRetry => Sys2Proof.Machine.execLampLinkRetry s
  | .lampTestPoint str ma mv => Sys2Proof.Machine.execLampTestPoint str ma mv s
  | .encoderEdge enc a b => Sys2Proof.Machine.execEncoderEdge enc a b s
  | .encoderErrorReport enc => Sys2Proof.Machine.execEncoderErrorReport enc s
  | .indexLatch enc => Sys2Proof.Machine.execIndexLatch enc s
  | .rampUpdate => Sys2Proof.Machine.execRampUpdate s
  | .stall axis => Sys2Proof.Machine.execStall axis s
  | .stepPulse drive => Sys2Proof.Machine.execStepPulse drive s
  | .directionDwellEnd drive => Sys2Proof.Machine.execDirectionDwellEnd drive s
  | .irefRaiseDwellEnd drive => Sys2Proof.Machine.execIrefRaiseDwellEnd drive s
  | .holdDelayEnd drive => Sys2Proof.Machine.execHoldDelayEnd drive s
  | .tfeSlotStart => Sys2Proof.Machine.execTfeSlotStart s
  | .tfeWindowEnd win => Sys2Proof.Machine.execTfeWindowEnd win s
  | .tfeWindowAbandon blank => Sys2Proof.Machine.execTfeWindowAbandon s blank
  | .sensorStale n => Sys2Proof.Machine.execSensorStale n s
  | .sensorFault n => Sys2Proof.Machine.execSensorFault n s
  | .safetyOutputPeriod k => Sys2Proof.Machine.execSafetyOutputPeriod k s
  | .hkConversionEnd k code => Sys2Proof.Machine.execHkConversionEnd k code s
  | .supervisorCycle c24 c25 c26 c27 => Sys2Proof.Machine.execSupervisorCycle c24 c25 c26 c27 s
  | .urgentConversionEnd k code => Sys2Proof.Machine.execUrgentConversionEnd k code s
  | .frameStart rx vc ecc => Sys2Proof.Machine.execFrameStart rx vc ecc s
  | .frameEnd rx vc ecc => Sys2Proof.Machine.execFrameEnd rx vc ecc s
  | .cameraRow rx vc dt wc samples crcOk ecc => Sys2Proof.Machine.execCameraRow rx vc dt wc samples crcOk ecc s
  | .frameTimeout rx => Sys2Proof.Machine.execFrameTimeout rx s
  | .inputFifoOverflow rx => Sys2Proof.Machine.execInputFifoOverflow rx s
  | .csiDeskew rx => Sys2Proof.Machine.execCsiDeskew rx s
  | .csiUlps rx enter => Sys2Proof.Machine.execCsiUlps rx enter s
  | .pipelineUnitEnd => Sys2Proof.Machine.execPipelineUnitEnd s
  | .cameraChunkDelivery rx d => Sys2Proof.Machine.execCameraChunkDelivery rx d s
  | .sensorWriteEnd ok => Sys2Proof.Machine.execSensorWriteEnd ok s
  | .nop port rx => Sys2Proof.Machine.execNop port rx s
  | .nak port rx => Sys2Proof.Machine.execNak port rx s
  | .hello port rx => Sys2Proof.Machine.execHello port rx s
  | .joinReq port rx => Sys2Proof.Machine.execJoinReq port rx s
  | .joinAns port rx => Sys2Proof.Machine.execJoinAns port rx s
  | .delayReq port rx => Sys2Proof.Machine.execDelayReq port rx s
  | .delayResp port rx => Sys2Proof.Machine.execDelayResp port rx s
  | .time port rx => Sys2Proof.Machine.execTime port rx s
  | .state port rx => Sys2Proof.Machine.execState port rx s
  | .agree port rx => Sys2Proof.Machine.execAgree port rx s
  | .event port rx => Sys2Proof.Machine.execEvent port rx s
  | .arm port rx => Sys2Proof.Machine.execArm port rx s
  | .armAns port rx => Sys2Proof.Machine.execArmAns port rx s
  | .unarm port rx => Sys2Proof.Machine.execUnarm port rx s
  | .stop port rx => Sys2Proof.Machine.execStop port rx s
  | .freeze port rx => Sys2Proof.Machine.execFreeze port rx s
  | .relay port rx => Sys2Proof.Machine.execRelay port rx s
  | .relayExecute upload partOk => Sys2Proof.Machine.execRelayExecute upload partOk s
  | .swapReq port rx => Sys2Proof.Machine.execSwapReq port rx s
  | .swapAns port rx => Sys2Proof.Machine.execSwapAns port rx s
  | .leave port rx => Sys2Proof.Machine.execLeave port rx s
  | .retransmitTimeout port => Sys2Proof.Machine.execRetransmitTimeout port s
  | .nopTimer port => Sys2Proof.Machine.execNopTimer port s
  | .helloTimer port => Sys2Proof.Machine.execHelloTimer port s
  | .portDown port rx => Sys2Proof.Machine.execPortDown port rx s
  | .delayReqTimer port => Sys2Proof.Machine.execDelayReqTimer port s
  | .timeTimer => Sys2Proof.Machine.execTimeTimer s
  | .stateTimer => Sys2Proof.Machine.execStateTimer s
  | .armTimeout => Sys2Proof.Machine.execArmTimeout s
  | .joinTimeout => Sys2Proof.Machine.execJoinTimeout s
  | .scheduledEvent => Sys2Proof.Machine.execScheduledEvent s
  | .powerRequestRun v => Sys2Proof.Machine.execPowerRequestRun v s
  | .powerRequestIdle v => Sys2Proof.Machine.execPowerRequestIdle v s
  | .powerRequestDoze v => Sys2Proof.Machine.execPowerRequestDoze v s
  | .powerRequestDeepStandby v => Sys2Proof.Machine.execPowerRequestDeepStandby v s
  | .dozeDramIdle => Sys2Proof.Machine.execDozeDramIdle s
  | .deepStandbyHandshake => Sys2Proof.Machine.execDeepStandbyHandshake s
  | .autoIdleTimer => Sys2Proof.Machine.execAutoIdleTimer s
  | .autoDozeTimer => Sys2Proof.Machine.execAutoDozeTimer s
  | .wakeInput n high heldNs => Sys2Proof.Machine.execWakeInput n high heldNs s
  | .i2cAddressMatch addr => Sys2Proof.Machine.execI2cAddressMatch addr s
  | .wakeBringupEnd => Sys2Proof.Machine.execWakeBringupEnd s
  | .coreRailsInRange => Sys2Proof.Machine.execCoreRailsInRange s
  | .i2cPointerWrite p => Sys2Proof.Machine.execI2cPointerWrite p s
  | .i2cTargetRead => Sys2Proof.Machine.execI2cTargetRead s
  | .i2cSclTimeout => Sys2Proof.Machine.execI2cSclTimeout s
  | .adaptiveLoopTick slacks => Sys2Proof.Machine.execAdaptiveLoopTick slacks s
  | .grantExpiry => Sys2Proof.Machine.execGrantExpiry s
  | .grantGuardTimer => Sys2Proof.Machine.execGrantGuardTimer s
  | .grantRetry => Sys2Proof.Machine.execGrantRetry s
  | .storeUpdateTimer => Sys2Proof.Machine.execStoreUpdateTimer s
  | .limitWriteClamp cls idx value => Sys2Proof.Machine.execLimitWriteClamp cls idx value s
  | .dramEccError area chan number bad => Sys2Proof.Machine.execDramEccError area chan number bad s
  | .eccReportTimer => Sys2Proof.Machine.execEccReportTimer s
  | .pwrEnSequenceTimer => Sys2Proof.Machine.execPwrEnSequenceTimer s
  | .referenceReturn => Sys2Proof.Machine.execReferenceReturn s
  | .irqTimeout k => Sys2Proof.Machine.execIrqTimeout k s
  | .debugHaltRelease => Sys2Proof.Machine.execDebugHaltRelease s
  | .grantRenewal => Sys2Proof.Machine.execGrantRenewal s
  | .supplyLoss => Sys2Proof.Machine.execSupplyLoss s

end Sys2Proof.Machine
end

