-- ==== Sys2Proof/Machine/Tick.lean ====
section
/-! DEFINITION. What one nanosecond without a command does: the clocks and counters that run by themselves. The opcode table
has no row for the passage of time; every timer whose expiry it does list is a command. -/

namespace Sys2Proof.Machine

/-- The system-time counter's clock runs (R28, R40, R679, R736): the core is on, and the state is Run or Idle or a wake from
Doze. -/
def timeRuns (s : State) : Bool :=
  coreOn s && (s.power.present == .run || s.power.present == .idle || s.power.trans == .waking)

/-- Firmware's count of seconds (R754, R755), and a request held while it could not act (R722). -/
def firmwareSecond (s : State) : State :=
  if fwRunning s && s.localNs % 1000000000 == 0 then countSecond s else s

/-- R529: AXn_STEP is high for 5 ticks of MOT_CLK (104.2 ns), and AXn_DIR changes once it may. -/
def axisPins (s : State) : State :=
  (List.range 4).foldl (fun t a =>
    let x := ax t a
    let t := if x.dir != x.dirTo then turnPin a t else t
    match x.step, x.stepAt with
    | true, some t0 => if t0 + 104 ≤ t.localNs then modAx a (fun y => { y with step := false }) t else t
    | _, _ => t) s

/-- One nanosecond passes (DESIGN CHOICE, log 1): system time advances (R140, R679, R681), the timing
lanes (R221) and the Prism lanes (R664) send their code groups and the lamp link its bits (R490), the strings' gates follow their
periods (R482), the axis pins their times (R529), the watchdog counts (R69), and the model's notes of since when a budget has been
exceeded (R744), a ring has stalled (R445) and the machine has been idle (R728) are brought up to date. -/
def tick (s : State) : State :=
  let t := { s with localNs := s.localNs + 1 }
  let t := if timeRuns t then tickTime t else t
  let t := if wdogCounts t then { t with boot := { t.boot with wdogNs := t.boot.wdogNs + 1 } } else t
  let t := sendPrism (sendTiming t)
  let t := noteBypass (axisPins (moveGates (reachMark (sendLamp t))))
  actStored (firmwareSecond (trackIdle (trackStalls (trackOver t))))

end Sys2Proof.Machine
end

