-- ==== Sys2Proof/Safety.lean ====
section
/-! DEFINITION. What claims about the block are made in: what a settled state is, and what a reply on each channel leaves. -/

namespace Sys2Proof.Safety

open Sys2Proof.Machine

/-- R40, R767: FAULT_N is low exactly while one of its causes holds. -/
def FaultPinFollows (s : State) : Prop := s.pins.faultLow = faultCause s

/-- R154: an interrupt message that is still due is masked by INT_MASK, and one that is pending by PCI Express. -/
def MessagesSent (s : State) : Prop :=
  s.int.due &&& ~~~s.int.mask = 0#32 ∧ ∀ v, v < 64 → s.int.pba.getLsbD v = true → msixOpen v s = false

/-- Nothing is left to follow: FAULT_N is as its causes have it and no message is owed. Every step leaves such a state. -/
abbrev Quiet (s : State) : Prop := FaultPinFollows s ∧ MessagesSent s

/-- R151, R154: INT_STATUS holds a source's bit, and its message has been sent or is due behind the mask. -/
def Raised (src : Nat) (t : State) : Prop :=
  t.int.status.getLsbD src = true

/-- The block answers a verb's row at once: firmware serves commands (R62, R76), and no verb is in progress on the channel
(R95, R119, R120). -/
def Serves (c : Chan) (s : State) : Prop := fwRunning s = true ∧ chanFree c s = true

/-- A verb that comes on the ring or by relay, and is served at once. -/
def Issued (r : Req) (s : State) : Prop := Serves r.chan s ∧ r.chan ≠ .urgent

/-- R715, R729: the block is in Run, and no change of power state is under way: DP_CLK runs. -/
def FullRun (s : State) : Prop := s.power.trans = .none ∧ s.power.present = .run

/-- R151 to R154: what the host has set of the interrupts is the same: INT_MASK, the vectors, MSI-X and its table. -/
def Masks (u v : IntU) : Prop :=
  v.mask = u.mask ∧ v.map = u.map ∧ v.msixOn = u.msixOn ∧ v.msixMasked = u.msixMasked ∧ v.table = u.table

/-- What follows every command and nothing more: FAULT_N as the causes in `u` have it (R40, R767), interrupt sources raised
and messages sent, with what the host has set of the interrupts as it was. Everything else of `t` is `u`. -/
def Same (u t : State) : Prop :=
  t = { u with pins := { u.pins with faultLow := faultCause u }, int := t.int, outbox := t.outbox } ∧ Masks u.int t.int

/-- R89, R121, R128, R133: the state `u` with a reply to a ring command written: the packet in the slot the tail names, the
tail advanced, the tag remembered, an entry in front of the history. -/
def ringReplied (verb : Half) (r : Req) (status detail : Nat) (payload : List Byte) (u : State) : State :=
  { u with
    host := { u.host with rep := { u.host.rep with tail := u.host.rep.tail + 1 } }
    fw := { u.fw with
      lastTag := some r.tag
      histRing := (histEntry { verb := verb, req := r } status detail false payload :: u.fw.histRing).take 256 } }

/-- R101, R128, R133: the state `u` with URG_FW_REPLY written, at most 112 bytes of payload kept, and the slot released. -/
def urgentReplied (verb : Half) (r : Req) (status detail : Nat) (payload : List Byte) (u : State) : State :=
  let cut := decide (112 < payload.length)
  { u with
    urg := { u.urg with
      fwReply := bytesAt (replyPacket r.tag verb r.obj status status detail cut (payload.take 112)) 0 128
      fwCount := (u.urg.fwCount + 1) % 256, slot := none }
    fw := { u.fw with
      histUrg := (histEntry { verb := verb, req := r } status detail cut (payload.take 112) :: u.fw.histUrg).take 256 } }

/-- A verb has been answered in state `u`, with this status, detail and payload, and nothing else has happened: the reply
leaves on the command's own channel, with its interrupt source, and is entered in the channel's history. A relayed command's
reply goes out on the Prism link, or ends this node's own PRISM.RELAY, and its history is the ring's (R700). -/
def Replied (verb : Half) (r : Req) (status detail : Nat) (payload : List Byte) (u t : State) : Prop :=
  match r.chan with
  | .ring =>
    Same (ringReplied verb r status detail payload u) t ∧ Raised 2 t ∧
      Out.hostWrite (slotAddr u.host.rep u.host.rep.tail.toNat)
        (replyPacket r.tag verb r.obj status status detail false payload) ∈ t.outbox
  | .urgent => Same (urgentReplied verb r status detail payload u) t ∧ Raised 0 t
  | .relay _ =>
    Same { u with prism := t.prism, host := { u.host with rep := { u.host.rep with tail := t.host.rep.tail } },
                  fw := { u.fw with lastTag := t.fw.lastTag, relaying := t.fw.relaying, histRing := t.fw.histRing } } t ∧
      histEntry { verb := verb, req := r } status detail false payload ∈ t.fw.histRing

/-- A verb's answer comes later: it stands as the one in progress on its channel (R120). -/
def Waits (verb : Half) (r : Req) (b : Busy) (t : State) : Prop :=
  match r.chan with
  | .urgent => t.fw.urgBusy = some ({ verb := verb, req := r }, b)
  | _ => t.fw.busy = some ({ verb := verb, req := r }, b)

/-! ### What a verb is given (R94 steps 7 and 8, R161 to R164) -/

/-- R161, R162: the verb addresses an object of this kind, in range and covered by the declaration. -/
def Names (r : Req) (kind : Nat) (s : State) : Prop :=
  objKind r.obj = kind ∧ objIdx r.obj < kindRange kind ∧ covered s kind (objIdx r.obj) = true

/-- R164: no modifier bit outside these is set. -/
def ModsWithin (r : Req) (mask : Nat) : Prop := r.mods &&& ~~~(h16 mask) = 0#16

/-- R163: the payload has the length its fields give, and its reserved and filling bytes are 0. -/
def Shaped (r : Req) (fs : List Fd) : Prop := r.payload.length = layLen fs ∧ layZero fs r.payload = true

/-- The unsigned payload field of `n` bytes at offset `o`. -/
abbrev arg (r : Req) (o n : Nat) : Nat := uAt r.payload o n

/-! ### Messages of the Prism link (R664 to R669) -/

/-- R664: these code groups are a whole message of these bytes, and R666, R669: it is of this type, and has come on a live port
with a good CRC and the SEQ next expected. -/
def Comes (p type : Nat) (rx : PrismRx) (bytes : List Byte) (s : State) : Prop :=
  p < 3 ∧ rootClks s = true ∧ (pport s p).enabled = true ∧ portLive (pport s p) = true ∧ prismMessage rx = some bytes ∧
    crc32 (bytes.take 28) = w32 (uAt bytes 28 4) ∧ uAt bytes 0 1 = type ∧ uAt bytes 2 2 = (pport s p).rxSeq

/-- R668, R669: a port owes its neighbour a message: it waits to be sent, or has been sent and is not acknowledged. -/
def Owed (p type dst : Nat) (body : List Byte) (t : State) : Prop :=
  ∃ m : PMsg, m.type = type ∧ m.dst = dst ∧ m.body = pBody body ∧
    (m ∈ (pport t p).queue ∨ ∃ x ∈ (pport t p).unacked, x.2.1 = m)

end Sys2Proof.Safety
end

