-- ==== Sys2Proof/WellFormed.lean ====
section
/-! DEFINITION. Which commands are well formed: every operand lies in the range the spec gives the thing it stands for. The
meanings do not rely on it: a command outside it finds nothing to act on. -/

namespace Sys2Proof

open Sys2Proof.Machine

/-- R88: a verb's payload is at most 4,080 bytes; R95: on the urgent channel at most 240; R663: a relayed command's originator
has a node ID. -/
def reqOk (r : Req) : Bool :=
  match r.chan with
  | .ring => decide (r.payload.length ≤ 4080)
  | .urgent => decide (r.payload.length ≤ 240)
  | .relay o => decide (r.payload.length ≤ 4080) && decide (o < 65533)

/-- R98: a hardware urgent verb came through URG_CMD, whose LENGTH is at most 240. -/
def urgLenOk (len : Nat) : Bool := decide (len ≤ 240)

/-- R88, R113: a command packet has its header and at most 4,080 bytes of payload. -/
def packetOk (bytes : List Byte) : Bool := decide (16 ≤ bytes.length ∧ bytes.length ≤ 4096)

/-- R406: a descriptor's LENGTH is 1 to 16,777,216. -/
def descOk (d : Desc) : Bool := decide (d.host.length = 16 ∧ d.addr % 64 = 0 ∧ 1 ≤ d.len ∧ d.len ≤ 16777216)

/-- R406: the same for a host-to-device descriptor, whose data is what lies in its buffer. -/
def upDescOk (d : UpDesc) : Bool :=
  decide (d.host.length = 16 ∧ uAt d.host 0 8 % 4 = 0 ∧ 1 ≤ d.len ∧ d.len ≤ 16777216 ∧ d.data.length = d.len)

/-- R135: a data ring's number. -/
def ringOk (k : Nat) : Bool := decide (k < 16)

/-- One of the 24 Segment ports. -/
def portOk (n : Nat) : Bool := decide (n < 24)

/-- R238, R263: one of the 4 lanes of a port. -/
def laneOk (n x : Nat) : Bool := decide (n < 24) && decide (x < 4)

/-- R480: a lamp string. -/
def strOk (n : Nat) : Bool := decide (n < 16)

/-- R498, R518: lamp positions of a string. -/
def lampsOk (l : List Nat) : Bool := l.all fun x => decide (x < 24)

/-- R486: a monitor's readings are of strings, and its means are over the periods counted. -/
def monOk (l : List Mon) : Bool := l.all fun m => strOk m.str && decide (m.lit ≤ 24) && decide (m.codeSum ≤ 4095 * m.periods)

/-- R531: an encoder. -/
def encOk (e : Nat) : Bool := decide (e < 4)

/-- R537: an axis. -/
def axisOk (a : Nat) : Bool := decide (a < 4)

/-- R539: a drive. -/
def driveOk (k : Nat) : Bool := decide (k < 8)

/-- R577: a sensor. -/
def sensorOk (n : Nat) : Bool := decide (n < 8)

/-- R600: a converter's code has 12 bits. -/
def codeOk (c : Nat) : Bool := decide (c < 4096)

/-- R613: a camera receiver. -/
def rxOk (n : Nat) : Bool := decide (n < 2)

/-- R613: a CSI-2 packet header: its virtual channel and what its ECC says (0 right, 1 corrected, 2 not correctable). -/
def csiOk (rx vc ecc : Nat) : Bool := rxOk rx && decide (vc < 4) && decide (ecc ≤ 2)

/-- R664: a Prism port. -/
def prismOk (p : Nat) : Bool := decide (p < 3)

/-- R664: a message is 34 code groups, and more by threes where NAK sequences stand in it. -/
def msgOk (p : Nat) (rx : PrismRx) : Bool := prismOk p && decide (34 ≤ rx.groups.length)

/-- R238: what is given of a port's lanes is given of all four, in their order. -/
def lanesOk {α : Type} (n : Nat) (l : List α) : Bool := portOk n && decide (l.length = 4)

/-- R239: a training window is 1,024 code groups of ten bits. -/
def windowOk (rx : PrbsRx) : Bool := decide (rx.bits.length = 10240)

/-- R587: spans of BLANK: each ends no earlier than it begins. -/
def spansOk (l : List (Nat × Nat)) : Bool := l.all fun h => decide (h.1 ≤ h.2)

/-- R78: BAR0 has 64 KiB. An access inside it that is not aligned is well formed, and stops (R5, R14). -/
def offsetOk : Window → Nat → Bool
  | .bar0, o => decide (o < 65536)
  | .bar2, o => decide (o < 8192)
  | .config, o => decide (o < 4096)

/-- The operands of a command lie in their ranges. -/
def wellFormed : Instr → Bool
  | .powerOn => true
  | .resetNLow _ => true
  | .perstNFall => true
  | .perstNRise => true
  | .softResetCore _ => true
  | .softResetControl _ => true
  | .thermalShutdown => true
  | .thermalShutdownRelease => true
  | .watchdogExpiry => true
  | .debugResetRequest => true
  | .debugChallengeResponse _ key signature => decide (key.length = 64) && decide (signature.length = 64)
  | .debugHalt => true
  | .tapReset => true
  | .clockFault _ => true
  | .rootPllLock => true
  | .pllFail => true
  | .bootRomStart => true
  | .flashImageLoaded => true
  | .hostImageReceived descs => descs.all upDescOk
  | .fwRunning => true
  | .urgDoorbell _ => true
  | .firmwareUrgentCommand up _ => up.all upDescOk
  | .nrmDoorbellCmd _ => true
  | .nrmDoorbellRings _ => true
  | .commandTaken packet up _ => packetOk packet && up.all upDescOk
  | .commandFetchError => true
  | .ringSizeWrite _ _ => true
  | .replyRingHeadWrite _ => true
  | .cmdStatusClear _ => true
  | .reportDataRead => true
  | .ringTailWrite k _ => ringOk k
  | .dataRingSizeWrite k _ => ringOk k
  | .ringCtrlEnable k _ => ringOk k
  | .ringCtrlDisable k _ => ringOk k
  | .ringStatusClear k _ => ringOk k
  | .descriptorFetchError k => ringOk k
  | .intMaskWrite _ => true
  | .registerWrite addr _ => offsetOk addr.win addr.offset
  | .d3hotEntry => true
  | .barAccessInD3hot => true
  | .d0Return => true
  | .linkTrained speed width => decide (1 ≤ speed ∧ speed ≤ 4) && [1, 2, 4, 8].contains width
  | .linkDown => true
  | .linkReturnL0 => true
  | .haltMotion _ _ _ len => urgLenOk len
  | .lampsSafe _ _ _ len => urgLenOk len
  | .captureFreeze _ _ _ len => urgLenOk len
  | .controlReset _ _ _ len => urgLenOk len
  | .sysPing r => reqOk r
  | .sysInfo r => reqOk r
  | .sysTime r => reqOk r
  | .fwFlash r => reqOk r
  | .fwCommit r => reqOk r
  | .fwStatus r => reqOk r
  | .fwPolicy r => reqOk r
  | .declareBoard r => reqOk r
  | .declareQuery r => reqOk r
  | .lineArm r => reqOk r
  | .lineStart r => reqOk r
  | .lineStop r => reqOk r
  | .lineConfig r => reqOk r
  | .lineReconfigure r => reqOk r
  | .lineMirror r => reqOk r
  | .lineStatus r => reqOk r
  | .calDark r => reqOk r
  | .calWhite r => reqOk r
  | .calLoad r => reqOk r
  | .calSwap r => reqOk r
  | .calLanes r => reqOk r
  | .calPlace r => reqOk r
  | .lampSet r => reqOk r
  | .lampOff r => reqOk r
  | .lampDuty r => reqOk r
  | .lampTest r => reqOk r
  | .lampRecover r => reqOk r
  | .lampStatus r => reqOk r
  | .axisMove r => reqOk r
  | .axisGroupMove r => reqOk r
  | .axisStop r => reqOk r
  | .axisSetPos r => reqOk r
  | .axisEnable r => reqOk r
  | .axisStatus r => reqOk r
  | .tempRead r => reqOk r
  | .tempThreshold r => reqOk r
  | .hkSequence r => reqOk r
  | .hkRead r => reqOk r
  | .camConfig r => reqOk r
  | .camStart r => reqOk r
  | .camStop r => reqOk r
  | .camSensor r => reqOk r
  | .loupeStripe r => reqOk r
  | .loupeBands r => reqOk r
  | .loupeAnomaly r => reqOk r
  | .loupeAlarm r => reqOk r
  | .prismJoin r => reqOk r
  | .prismLeave r => reqOk r
  | .prismSchedule r => reqOk r
  | .prismRelay r => reqOk r
  | .prismSwap r => reqOk r
  | .prismStatus r => reqOk r
  | .powerGrants r => reqOk r
  | .powerWake r => reqOk r
  | .storeRead r => reqOk r
  | .storeLog r => reqOk r
  | .lineStopComplete => true
  | .runCountEnd => true
  | .dramTrainingEnd code mib => decide (code ≤ 3) && decide (mib ≤ 65536)
  | .lineTrigger mon => monOk mon
  | .encoderPositionLatch => true
  | .calibrationLineTimer mon => monOk mon
  | .dataPacketReceived port slots pos groups => lanesOk port slots && lanesOk port pos && lanesOk port groups
  | .registerReplyReceived port lanes => lanesOk port lanes
  | .registerSequenceTimeout port => portOk port
  | .readoutDeadline => true
  | .integrityWindowEnd => true
  | .phaseTrackWindow port ln early late => laneOk port ln && decide (early + late ≤ 10240)
  | .laneLost port lanes => lanesOk port lanes && lanes.all fun w => decide (w.groups.length ≤ 1024)
  | .trainingWindow port ln rx => laneOk port ln && windowOk rx
  | .rotateInterval port => portOk port
  | .copyCompareEnd port got => portOk port && decide (got.differ ≤ got.groups)
  | .prbsLock port rx => laneOk port rx.ln
  | .sopAligned sops => lanesOk sops.port sops.slots
  | .digitizerRunSettle port => portOk port
  | .calibrationTablesWritten => true
  | .bankRelease => true
  | .bankCopyEnd => true
  | .achromatFormLine => true
  | .lineDelivery k d => ringOk k && descOk d
  | .gapRecordFlush => true
  | .paceWindowEnd => true
  | .hostStallTimeout => true
  | .seamStandstill => true
  | .seamDwellEnd => true
  | .seamBackupReached => true
  | .seamHostWaitEnd => true
  | .seamJoinCheck => true
  | .stripeFinalise => true
  | .loupeFirmwareResults => true
  | .idleMark mon => monOk mon
  | .switchingPeriod str _ cycle => strOk str && decide (cycle ≤ 432)
  | .overcurrentFault str => strOk str
  | .overvoltageFault str opens => strOk str && lampsOk opens
  | .outputShortFault str => strOk str
  | .lampShortFault str shorts => strOk str && lampsOk shorts
  | .regulationFault str => strOk str
  | .lampFrameReturn _ => true
  | .pollTimer => true
  | .lampLinkEnumWait => true
  | .lampLinkRetry => true
  | .lampTestPoint str _ _ => strOk str
  | .encoderEdge enc _ _ => encOk enc
  | .encoderErrorReport enc => encOk enc
  | .indexLatch enc => encOk enc
  | .rampUpdate => true
  | .stall axis => axisOk axis
  | .stepPulse drive => driveOk drive
  | .directionDwellEnd drive => driveOk drive
  | .irefRaiseDwellEnd drive => driveOk drive
  | .holdDelayEnd drive => driveOk drive
  | .tfeSlotStart => true
  | .tfeWindowEnd win => decide (-8388608 ≤ win.x ∧ win.x < 8388608) && spansOk win.blank
  | .tfeWindowAbandon blank => spansOk blank
  | .sensorStale n => sensorOk n
  | .sensorFault n => sensorOk n
  | .safetyOutputPeriod k => decide (k < 2)
  | .hkConversionEnd k code => decide (k < 2) && codeOk code
  | .supervisorCycle c24 c25 c26 c27 => codeOk c24 && codeOk c25 && codeOk c26 && codeOk c27
  | .urgentConversionEnd k code => decide (k < 2) && codeOk code
  | .frameStart rx vc ecc => csiOk rx vc ecc
  | .frameEnd rx vc ecc => csiOk rx vc ecc
  | .cameraRow rx vc dt wc samples _ ecc => csiOk rx vc ecc && decide (dt < 64) && decide (wc < 65536) && samples.all fun x => decide (x < 65536)
  | .frameTimeout rx => rxOk rx
  | .inputFifoOverflow rx => rxOk rx
  | .csiDeskew rx => rxOk rx
  | .csiUlps rx _ => rxOk rx
  | .pipelineUnitEnd => true
  | .cameraChunkDelivery rx d => rxOk rx && descOk d
  | .sensorWriteEnd _ => true
  | .nop port rx => msgOk port rx
  | .nak port rx => prismOk port && decide (rx.groups.length = 3)
  | .hello port rx => msgOk port rx
  | .joinReq port rx => msgOk port rx
  | .joinAns port rx => msgOk port rx
  | .delayReq port rx => msgOk port rx
  | .delayResp port rx => msgOk port rx
  | .time port rx => msgOk port rx
  | .state port rx => msgOk port rx
  | .agree port rx => msgOk port rx
  | .event port rx => msgOk port rx
  | .arm port rx => msgOk port rx
  | .armAns port rx => msgOk port rx
  | .unarm port rx => msgOk port rx
  | .stop port rx => msgOk port rx
  | .freeze port rx => msgOk port rx
  | .relay port rx => msgOk port rx
  | .relayExecute up _ => up.all upDescOk
  | .swapReq port rx => msgOk port rx
  | .swapAns port rx => msgOk port rx
  | .leave port rx => msgOk port rx
  | .retransmitTimeout port => prismOk port
  | .nopTimer port => prismOk port
  | .helloTimer port => prismOk port
  | .portDown port rx => prismOk port && decide (rx.groups.length ≤ 1024)
  | .delayReqTimer port => prismOk port
  | .timeTimer => true
  | .stateTimer => true
  | .armTimeout => true
  | .joinTimeout => true
  | .scheduledEvent => true
  | .powerRequestRun _ => true
  | .powerRequestIdle _ => true
  | .powerRequestDoze _ => true
  | .powerRequestDeepStandby _ => true
  | .dozeDramIdle => true
  | .deepStandbyHandshake => true
  | .autoIdleTimer => true
  | .autoDozeTimer => true
  | .wakeInput n _ _ => decide (n < 4)
  | .i2cAddressMatch addr => decide (addr < 128)
  | .wakeBringupEnd => true
  | .coreRailsInRange => true
  | .i2cPointerWrite _ => true
  | .i2cTargetRead => true
  | .i2cSclTimeout => true
  | .adaptiveLoopTick slacks => decide (slacks.length = 16)
  | .grantExpiry => true
  | .grantGuardTimer => true
  | .grantRetry => true
  | .storeUpdateTimer => true
  | .limitWriteClamp cls idx _ => decide (1 ≤ cls ∧ cls ≤ 10) && decide (idx < 16)
  | .dramEccError area _ number _ => decide (1 ≤ area ∧ area ≤ 7) && decide (number < 4294967296)
  | .eccReportTimer => true
  | .pwrEnSequenceTimer => true
  | .referenceReturn => true
  | .irqTimeout k => ringOk k
  | .debugHaltRelease => true
  | .grantRenewal => true
  | .supplyLoss => true

end Sys2Proof
end

