-- ==== Sys2Proof/Certificates/Slice0/Obligations.lean ====
section
/-! DEFINITION. The statements about the block that are put to proof: what a step is, what every step keeps, and for each command
its effect, its frame and where it completes. Each docstring names the rules of the spec it follows. -/

section

open Sys2Proof Sys2Proof.Machine Sys2Proof.Safety

/-! ### The queue, time and what every step keeps -/

/-- The queue of waiting commands is served first in, first out: a step takes the command at its front and runs it on the
state with the rest of the queue. The model's choices that bear on it: log 1. -/
def Obligations.StepRunsFrontCommand : Prop :=
  ∀ (c : Instr) (cs : List Instr) (s : State), step { s with pending := c :: cs } = exec c { s with pending := cs }

/-- With no command waiting, 1 ns passes (the model's choice, log 1): its clock advances by 1; system time, while its clock
runs unslewed, by 2^32 parts (R140, R679); the count stands where the clock does not run; the watchdog, while it counts, by 1 ns
(R69). What no passing of time touches is as it was; firmware's own state and the reports are too where no Prism port sends. A
stored power request (R722) would act at that moment, and is taken out. -/
def Obligations.IdleStepPassesOneNanosecond : Prop :=
  ∀ s : State, s.pending = [] → s.power.stored = none →
    ∃ t, step s = .next t ∧ t.localNs = s.localNs + 1 ∧ t.pending = [] ∧
      (timeRuns s = true → s.time.phi = 0 → s.time.slew = 0 → s.time.left = 0 →
        t.time = { s.time with sys := (s.time.sys + 2 ^ 32) % 2 ^ 96 }) ∧
      (timeRuns s = false → t.time = s.time) ∧
      t.boot = { s.boot with wdogNs := s.boot.wdogNs + (wdogCounts s).toNat } ∧
      t.line = s.line ∧ t.caps = s.caps ∧ t.cal = s.cal ∧ t.cam = s.cam ∧ t.hk = s.hk ∧ t.store = s.store ∧ t.wake = s.wake ∧
      t.rst = s.rst ∧ t.decl = s.decl ∧ t.limit = s.limit ∧
      ((∀ p, p < 3 → (pport s p).enabled = false) → t.fw = s.fw ∧ t.urg = s.urg ∧ t.rep = s.rep ∧ t.prism = s.prism)

/-- R40, R767: after every step, from any state whatever, FAULT_N is low exactly while a reset of any scope is in effect or the
boot ROM has yet to set the ceiling lock, firmware has FAILED, a clock fault lasts, a supervisor breach stands, a debugger holds the
processor halted, the function is in D3hot, or the link is down. -/
def Obligations.EveryStepDrivesFaultPin : Prop :=
  ∀ s t : State, step s = .next t → (t.pins.faultLow = true ↔ t.rst.inEffect ≠ none ∨
    (t.boot.stage ≠ .starting ∧ t.boot.stage ≠ .running) ∨ t.clk.clockFault = true ∨ t.hk.breached ≠ 0 ∨ t.dbg.halted = true ∨
    t.rst.d3hot = true ∨ t.host.linkDown = true)

/-- R154: after every step, an interrupt message still due is masked by INT_MASK, and one still pending by PCI Express. -/
def Obligations.EveryStepSendsDueMessages : Prop :=
  ∀ s t : State, step s = .next t → MessagesSent t

/-- The state after reset is settled: FAULT_N is low for the reset in effect (R40), and no message is due. -/
def Obligations.ResetStateIsSettled : Prop :=
  Quiet State.reset ∧ State.reset.pins.faultLow = true ∧ State.reset.pending = []

/-- No command stops the block: every command is answered with a next state, but for a REGISTER_WRITE at an offset that is
not a multiple of 4, whose effect the spec leaves undefined (R5, R14). The model's choices that bear on it: log 23. -/
def Obligations.EveryCommandRuns : Prop :=
  ∀ (c : Instr) (s : State), (∀ a v, c = .registerWrite a v → a.offset % 4 = 0) → ∃ t, exec c s = .next t

/-- R5, R14: a REGISTER_WRITE at an offset that is not a multiple of 4, while its window is reached, ends in the fault
unalignedAccess. The model's choices that bear on it: log 23. -/
def Obligations.UnalignedAccessFaults : Prop :=
  ∀ (a : HostAddr) (v : Word) (s : State), windowReach a.win s = true → a.offset % 4 ≠ 0 →
    exec (.registerWrite a v) s = .fault (.unalignedAccess a.offset)

/-! ### Resets, clocks and boot (chapter 02) -/

/-- R36, R45, R790: what a power-on reset leaves, from any state: every register at its reset value, RESET_CAUSE at POR
alone; the persistent store and the flash keep what they hold. The power-up sequence starts (R788). The model's choices that
bear on it: log 3 to 20. -/
def Obligations.PowerOnLeavesResetValues : Prop :=
  ∀ s : State, ∃ t, exec .powerOn s = .next t ∧
    Same { State.reset with
      pending := s.pending, localNs := s.localNs, freeCtr := s.freeCtr, outbox := s.outbox
      pins := { State.reset.pins with resetLow := s.pins.resetLow }
      rst := { State.reset.rst with thermalHold := s.rst.thermalHold }
      flash := s.flash, store := s.store, live := { life := s.store.lifetime, lamps := s.store.ageing }
      power := { State.reset.power with seqAt := some s.localNs, seqDown := false } } t

/-- R790: SUPPLY_LOSS leaves the same with the enables low; the reference stops and the power-up sequence does not run. The
model's choices that bear on it: log 3 to 20. -/
def Obligations.SupplyLossKeepsStoreAndFlash : Prop :=
  ∀ s : State, ∃ t, exec .supplyLoss s = .next t ∧
    Same { State.reset with
      pending := s.pending, localNs := s.localNs, freeCtr := s.freeCtr, outbox := s.outbox
      clk := { State.reset.clk with refRunning := false }, power := { State.reset.power with seqAt := none }
      flash := s.flash, store := s.store, live := { life := s.store.lifetime, lamps := s.store.ageing } } t

/-- R35, R36, R41, R44, R45, R827: the sources of a core or system reset. Each sets the bit of RESET_CAUSE that is its own; a
core reset leaves the other bits and the wake configuration, a system reset clears both; FW_STATE, the line state, the
rings and the declaration are at their reset values, and the store and the flash keep their contents. Where PERST_N's fall is
no reset source, it holds the link and configuration space in reset and nothing else. The model's choices that bear on it:
log 30, log 31. -/
def Obligations.CoreAndSystemResetsTakeHold : Prop :=
  (∀ (n : Nat) (up : Bool) (s : State), 1000 ≤ n → s.rst.inEffect ≠ some .system → ∃ t, exec (.resetNLow ⟨n, up⟩) s = .next t ∧
    t.rst.inEffect = some .system ∧ t.pins.resetLow = !up ∧ t.rst.cause = 2#32 ∧ t.wake = State.reset.wake ∧ t.boot = State.reset.boot ∧
    t.host = State.reset.host ∧ t.line = State.reset.line ∧ t.decl = none ∧ t.store = s.store ∧ t.flash = s.flash) ∧
  (∀ s : State, s.pins.perstHigh = true → wideReset s = false → s.power.present ≠ .deep → s.power.trans ≠ .deepEntry →
    s.pins.wakeAsserted = false → s.pins.pwrEnCore = true → ∃ t, exec .perstNFall s = .next t ∧
    t.rst.inEffect = some .core ∧ t.rst.cause = s.rst.cause ||| 4#32 ∧ t.rst.d3hot = false ∧ t.boot = State.reset.boot ∧
    t.host = State.reset.host ∧ t.line = State.reset.line ∧ t.decl = none ∧ t.wake = { s.wake with retention := none } ∧
    t.pins = { s.pins with perstHigh := false, faultLow := true } ∧ t.store = s.store ∧ t.flash = s.flash) ∧
  (∀ s : State, (s.power.present = .deep ∨ s.power.trans = .deepEntry ∨ s.pins.wakeAsserted = true) →
    ∃ t, exec .perstNFall s = .next t ∧ t.rst = { s.rst with d3hot := false } ∧ t.pins.perstHigh = false ∧
    t.host = { s.host with linkSpeed := 0, linkWidth := 0, linkDown := false, link := .detect, pci := {} } ∧
    t.int.msixOn = false ∧ t.boot = s.boot ∧ t.line = s.line ∧ t.power = s.power ∧ t.wake = s.wake ∧ t.decl = s.decl) ∧
  (∀ (v : Word) (s : State), hostReach s = true → bits v.toNat 16 16 = 0xD1E5 → bit v.toNat 0 = true →
    wideReset s = false → ∃ t, exec (.softResetCore v) s = .next t ∧
    t.rst.inEffect = some .core ∧ t.rst.cause = s.rst.cause ||| 8#32 ∧ t.rst.bootFromHost = bit v.toNat 4 ∧
    t.boot = { State.reset.boot with endpointOn := s.boot.endpointOn } ∧ t.line = State.reset.line ∧ t.decl = none ∧
    t.host.linkSpeed = s.host.linkSpeed ∧ t.host.linkWidth = s.host.linkWidth ∧ t.host.rings = State.reset.host.rings ∧
    t.wake = { s.wake with retention := none } ∧ t.store = s.store ∧ t.flash = s.flash) ∧
  (∀ s : State, s.power.present ≠ .deep → wideReset s = false → ∃ t, exec .thermalShutdown s = .next t ∧
    t.rst.inEffect = some .core ∧ t.rst.cause = s.rst.cause ||| 16#32 ∧ t.rst.thermalHold = true ∧ t.rst.thermalFlag = true ∧
    t.line = State.reset.line ∧ t.decl = none ∧ t.wake = { s.wake with retention := none } ∧ t.store = s.store ∧
    t.flash = s.flash)

/-- R13, R44: a write of SOFT_RESET without its key has no effect. -/
def Obligations.SoftResetNeedsItsKey : Prop :=
  ∀ (v : Word) (s : State), Quiet s → bits v.toNat 16 16 ≠ 0xD1E5 →
    exec (.softResetCore v) s = .next s ∧ exec (.softResetControl v) s = .next s

/-- R37 to R40, R45, R69: the sources of a control reset: a SOFT_RESET write of CONTROL alone, the watchdog, a debugger with
full-debug unlock. FW_STATE.STATE becomes RESET, no declaration is held in force (the line state is BOOTED), the unread
commands are discarded, the processor leaves CPU_CLK; RESET_CAUSE keeps its other bits; the store's policy and anti-rollback
counter, the wake configuration, the ceilings and the debug unlock stand. The watchdog's also counts WDOG_COUNT up to 15.
The model's choices that bear on it: log 30, log 31. -/
def Obligations.ControlResetsTakeHold : Prop :=
  let holds (cause : Nat) (s t : State) : Prop :=
    t.rst = { s.rst with inEffect := some .control, cause := s.rst.cause ||| (1#32 <<< cause) } ∧ t.boot.stage = .reset ∧
    t.line.st = .booted ∧ t.clk = { s.clk with pllActive := false } ∧ t.dbg = { s.dbg with halted := false } ∧
    t.host.cmd = { s.host.cmd with head := s.host.cmd.tail, served := s.host.cmd.tail } ∧
    t.boot.discarded = (s.host.cmd.tail - s.host.cmd.head).toNat ∧ t.boot.restartDue = true ∧ t.boot.wdogRunning = false ∧
    t.wake = s.wake ∧ t.limit = s.limit ∧ t.store.policy = s.store.policy ∧ t.store.antiRollback = s.store.antiRollback ∧
    t.pins.faultLow = true
  (∀ (v : Word) (s : State), hostReach s = true → bits v.toNat 16 16 = 0xD1E5 → bit v.toNat 1 = true → bit v.toNat 0 = false →
    s.rst.inEffect = none → ∃ t, exec (.softResetControl v) s = .next t ∧ holds 6 s t) ∧
  (∀ s : State, wdogCounts s = true → wdogDue s = true → s.rst.inEffect = none →
    ∃ t, exec .watchdogExpiry s = .next t ∧ holds 7 s t ∧ t.boot.wdogCount = min 15 (s.boot.wdogCount + 1)) ∧
  (∀ s : State, s.dbg.openScope = some 1 → s.rst.inEffect = none →
    ∃ t, exec .debugResetRequest s = .next t ∧ holds 8 s t)

/-- R41, R60, R738, R788, R827: what the always-on domain's events change, and nothing else: PERST_N_RISE, the release of the
thermal comparator, the power-up sequence (PWR_EN_IO 1.0 ms after its start, PWR_EN_CORE 2.0 ms after that; in the power-down
order PWR_EN_IO falls 100 µs after PWR_EN_CORE). -/
def Obligations.AlwaysOnEvents : Prop :=
  (∀ s : State, ∃ t, exec .perstNRise s = .next t ∧
    Same { s with pins := { s.pins with perstHigh := true, wakeAsserted := false } } t) ∧
  (∀ s : State, Quiet s → exec .thermalShutdownRelease s = .next { s with rst := { s.rst with thermalHold := false } }) ∧
  (∀ (s : State) (t0 : Nat), Quiet s → s.power.seqAt = some t0 → s.power.seqDown = false → s.pins.pwrEnIo = false →
    t0 + 1000000 ≤ s.localNs → exec .pwrEnSequenceTimer s =
      .next { s with pins := { s.pins with pwrEnIo := true }, power := { s.power with seqAt := some s.localNs } }) ∧
  (∀ (s : State) (t0 : Nat), Quiet s → s.power.seqAt = some t0 → s.power.seqDown = false → s.pins.pwrEnIo = true →
    s.pins.pwrEnCore = false → t0 + 2000000 ≤ s.localNs → exec .pwrEnSequenceTimer s =
      .next { s with pins := { s.pins with pwrEnCore := true }, power := { s.power with seqAt := none } }) ∧
  (∀ (s : State) (t0 : Nat), Quiet s → s.power.seqAt = some t0 → s.power.seqDown = true → t0 + 100000 ≤ s.localNs →
    exec .pwrEnSequenceTimer s =
      .next { s with pins := { s.pins with pwrEnIo := false }, power := { s.power with seqAt := none } })

/-- R71, R73 to R76: the debug port. A response spends the nonce, and another challenge follows until three attempts have failed;
one that verifies opens the port with its scope, and any other counts a failed attempt; after three failures none is taken. A halt
needs the full-debug unlock: the class S effects, the watchdog paused and FAULT_N low; its release ends both. A TAP reset selects
IDCODE, which reads 0x12472A3F, and touches the TAP and the challenge alone. The model's choices that bear on it: log 2, log 5,
log 84. -/
def Obligations.DebugPortOpensAndHalts : Prop :=
  (∀ (scope : Byte) (key sig : List Byte) (s : State) (n : List Byte), s.dbg.failures < 3 → wideReset s = false →
    s.power.present ≠ .deep → s.dbg.nonce = some n →
    ∃ t, exec (.debugChallengeResponse scope key sig) s = .next t ∧
      t.dbg.nonce = (if t.dbg.failures < 3 then some (leBytes 16 (Config.freeNat s.freeCtr)) else none) ∧
      (responseOk s n scope key sig = true → t.dbg.openScope = some scope.toNat ∧ t.dbg.failures = s.dbg.failures) ∧
      (responseOk s n scope key sig = false → t.dbg.openScope = s.dbg.openScope ∧ t.dbg.failures = s.dbg.failures + 1) ∧
      t.dbg.halted = s.dbg.halted ∧ t.rst = s.rst ∧ t.boot = s.boot ∧ t.host = s.host ∧ t.line = s.line) ∧
  (∀ (scope : Byte) (key sig : List Byte) (s : State), Quiet s → 3 ≤ s.dbg.failures →
    exec (.debugChallengeResponse scope key sig) s = .next s) ∧
  (∀ s : State, s.dbg.openScope = some 1 → s.dbg.halted = false → s.rst.inEffect = none →
    ∃ t, exec .debugHalt s = .next t ∧ t.dbg = { s.dbg with halted := true } ∧ t.boot = { s.boot with wdogPaused := true } ∧
      t.line.frozen = true ∧ t.pins.faultLow = true ∧ ∀ n, n < 16 → (str t n).safed = true) ∧
  (∀ s : State, s.dbg.halted = true → s.clk.due = [] → ∃ t, exec .debugHaltRelease s = .next t ∧
    Same { s with dbg := { s.dbg with halted := false }, boot := { s.boot with wdogPaused := false } } t) ∧
  (∀ s : State, ∃ t, exec .tapReset s = .next t ∧
    t.dbg = { s.dbg with
      tapInstruction := .idcode, tapData := 0x12472A3F
      nonce := if coreOn s = true ∧ s.dbg.failures < 3 then some (leBytes 16 (Config.freeNat s.freeCtr)) else none } ∧
    t.rst = s.rst ∧ t.boot = s.boot ∧ t.host = s.host ∧ t.line = s.line ∧ t.store = s.store ∧ t.limit = s.limit)

/-- R28, R31, R32, R34, R718: a clock fault applies the class S effects, puts the processor on the RC oscillator, holds AVS_PWM and
FAULT_N low, and queues its report until firmware executes, whether the reference stopped or the PLL lost lock; the reference's
return lets the PLL be tried again; its lock, with firmware started, puts the processor on CPU_CLK at k = 455 and ends the fault.
The model's choices that bear on it: log 72. -/
def Obligations.ClockFaultsAndTheirEnd : Prop :=
  (∀ (refLost : Bool) (s : State), wideReset s = false → s.clk.clockFault = false → s.clk.pllLocked = true →
    ∃ t, exec (.clockFault refLost) s = .next t ∧
      t.clk = { s.clk with refRunning := !refLost && s.clk.refRunning, pllLocked := false, pllActive := false, pllTries := 0,
                           clockFault := true, faultCount := (s.clk.faultCount + 1) % 2 ^ 32, stateBefore := lineCode s.line.st
                           due := t.clk.due } ∧
      (fwActive s = true → t.clk.due = []) ∧ (fwActive s = false → t.clk.due.length = s.clk.due.length + 1) ∧
      t.power.avsDuty = 0 ∧ t.line.frozen = true ∧ t.pins.faultLow = true ∧ ∀ n, n < 16 → (str t n).safed = true) ∧
  (∀ s : State, Quiet s → exec .referenceReturn s = .next { s with clk := { s.clk with refRunning := true, pllTries := 0 } }) ∧
  (∀ s : State, s.boot.stage = .starting → s.clk.refRunning = true → s.clk.pllActive = false → s.rst.inEffect = none →
    s.dbg.halted = false → s.power.trans ≠ .waking → ∃ t, exec .rootPllLock s = .next t ∧
      t.clk = { s.clk with pllLocked := true, pllActive := true, pllTries := 0, clockFault := false, due := t.clk.due } ∧
      (s.clk.clockFault = true → t.clk.due = []) ∧ t.boot = s.boot ∧ t.power = { s.power with avsDuty := 455, avsAt := s.localNs })

/-- R55, R57, R58, R61, R62, R70: boot. The boot ROM ends the reset in effect and enables the endpoint, and with policy
HOST_ONLY waits for the host, or begins to load what it has posted; an image that passes every check is started on the RC
oscillator with the ceilings locked, from
flash and from the host; three failed locks of the PLL end in FAILED, PLL_FAIL; firmware that starts sets RUNNING. The
model's choices that bear on it: log 47, log 70. -/
def Obligations.BootReachesRunning : Prop :=
  (∀ s : State, s.rst.inEffect ≠ none → s.power.present ≠ .deep → s.pins.pwrEnCore = true → s.pins.resetLow = false →
    s.rst.thermalHold = false → s.boot.loopCount < 3 → s.store.policy = 2 → ∃ t, exec .bootRomStart s = .next t ∧
      t.rst.inEffect = none ∧ t.boot.endpointOn = true ∧ t.boot.stage = (if imagePosted s then .loading else .waitHost) ∧ t.boot.source = 0xF ∧
          t.rst.cause = s.rst.cause) ∧
  (∀ (s : State) (k : Nat), s.boot.flashTry = some k → s.limit.ceilingLock = false → s.dbg.halted = false → s.clk.due = [] →
    ∃ t, exec .flashImageLoaded s = .next t ∧ t.flash = s.flash ∧
      (imageReason s (slotBytes s k (uAt (slotHeader s k) 8 4)) = 0 → t.boot.stage = .starting ∧ t.boot.source = k ∧
        t.boot.image = some (imageInfo (slotBytes s k (uAt (slotHeader s k) 8 4))) ∧ t.limit.ceilingLock = true ∧
        t.boot.wdogRunning = true ∧ t.store = s.store) ∧
      (imageReason s (slotBytes s k (uAt (slotHeader s k) 8 4)) ≠ 0 → t.boot.flashFailed =
        s.boot.flashFailed ++ [(k, imageReason s (slotBytes s k (uAt (slotHeader s k) 8 4)))] ∧ t.limit = s.limit)) ∧
  (∀ (s : State) (d : UpDesc), s.boot.stage = .waitHost → s.boot.flashTry = none → s.boot.loaded = [] → s.dbg.halted = false →
    imagePosted s = true → hostReach s = true → (ring s 0).posted = (ring s 0).head + 1#16 → d.ok = true →
    512 ≤ uAt d.data 8 4 → d.data.length = uAt d.data 8 4 → s.limit.ceilingLock = false →
    ∃ t, exec (.hostImageReceived [d]) s = .next t ∧
      (imageReason s d.data = 0 → t.boot.stage = .starting ∧ t.boot.source = 2 ∧
        t.boot.image = some (imageInfo d.data) ∧ t.limit.ceilingLock = true ∧ (ring t 0).head = (ring s 0).head + 1#16) ∧
      (imageReason s d.data ≠ 0 → t.boot.stage = .waitHost ∧ t.boot.reason = imageReason s d.data ∧ t.limit = s.limit)) ∧
  (∀ s : State, s.boot.stage = .starting → s.clk.pllLocked = false → s.clk.pllActive = false → s.dbg.halted = false →
    s.rst.inEffect = none → ∃ t, exec .pllFail s = .next t ∧
      t.boot = { s.boot with stage := .failed, reason := 9, wdogRunning := false, flashTry := none } ∧
      t.pins.faultLow = true ∧ (t.store.log.getLast?.map fun e => (e.code, e.args)) = some (3, [9, 0, 0, 0])) ∧
  (∀ s : State, s.boot.stage = .starting → s.clk.pllActive = true → s.rst.inEffect = none → s.dbg.halted = false →
    ∃ t, exec .fwRunning s = .next t ∧ t.boot.stage = .running ∧ t.boot.runningSince = some s.localNs ∧
      t.boot.restartDue = false ∧ Raised 5 t)

/-! ### The host link, the rings, reports and interrupts (chapter 03) -/

/-- R79, R84, R769: the PCIe function. D3hot and a link that goes down apply the class S effects and drive FAULT_N low; both
ends leave them; a BAR access in D3hot is completed as Unsupported Request, which Advanced Error Reporting notes (log 64), and
has no other effect; a link that trains sets HOST_LINK. The model's choices that bear on it: log 37. -/
def Obligations.FunctionAndLinkStates : Prop :=
  (∀ s : State, configReach s = true → s.rst.d3hot = false → ∃ t, exec .d3hotEntry s = .next t ∧
    t.rst = { s.rst with d3hot := true } ∧ t.line.frozen = true ∧ t.pins.faultLow = true ∧
    (∀ n, n < 16 → (str t n).safed = true) ∧ ∀ a, a < 4 → (ax t a).halted = true) ∧
  (∀ s : State, configReach s = true → s.rst.d3hot = true → ∃ t, exec .barAccessInD3hot s = .next t ∧
    Same { s with host := { s.host with pci := { s.host.pci with aerUncor := s.host.pci.aerUncor ||| 0x00100000#32 } } } t ∧
    Out.unsupportedRequest ∈ t.outbox) ∧
  (∀ s : State, configReach s = true → ∃ t, exec .d0Return s = .next t ∧
    Same { s with rst := { s.rst with d3hot := false } } t) ∧
  (∀ (speed width : Nat) (s : State), endpointUp s = true → s.pins.perstHigh = true → 1 ≤ speed → speed ≤ 4 →
    width ∈ [1, 2, 4, 8] → ∃ t, exec (.linkTrained speed width) s = .next t ∧
    Same { s with host := { s.host with linkSpeed := speed, linkWidth := width, link := .l0 } } t) ∧
  (∀ s : State, configReach s = true → ∃ t, exec .linkDown s = .next t ∧
    t.host.linkDown = true ∧ t.host.link = .detect ∧ t.line.frozen = true ∧ t.pins.faultLow = true ∧
    (∀ n, n < 16 → (str t n).safed = true) ∧ ∀ a, a < 4 → (ax t a).halted = true) ∧
  (∀ s : State, s.host.linkDown = true → ∃ t, exec .linkReturnL0 s = .next t ∧
    Same { s with host := { s.host with linkDown := false, link := .l0 } } t)

/-- R84: while the function is in D3hot, no write to BAR0 or BAR2, doorbell or hardware urgent verb has any effect. -/
def Obligations.NoHostAccessInD3hot : Prop :=
  ∀ (s : State) (v : Word) (k o : Nat) (tag obj mods : Half) (n : Nat) (rep : Bool), Quiet s → s.rst.d3hot = true →
    exec (.registerWrite ⟨.bar0, o⟩ v) s = .next s ∧ exec (.registerWrite ⟨.bar2, o⟩ v) s = .next s ∧
    exec (.softResetCore v) s = .next s ∧ exec (.softResetControl v) s = .next s ∧ exec (.urgDoorbell v) s = .next s ∧
        exec (.nrmDoorbellCmd v) s = .next s ∧
    exec (.nrmDoorbellRings v) s = .next s ∧ exec (.ringSizeWrite rep v) s = .next s ∧
    exec (.replyRingHeadWrite v) s = .next s ∧ exec (.cmdStatusClear v) s = .next s ∧ exec .reportDataRead s = .next s ∧
    exec (.ringTailWrite k v) s = .next s ∧ exec (.dataRingSizeWrite k v) s = .next s ∧
    exec (.ringCtrlEnable k v) s = .next s ∧ exec (.ringCtrlDisable k v) s = .next s ∧
    exec (.ringStatusClear k v) s = .next s ∧ exec (.intMaskWrite v) s = .next s ∧ exec (.haltMotion tag obj mods n) s = .next s ∧
    exec (.lampsSafe tag obj mods n) s = .next s ∧ exec (.captureFreeze tag obj mods n) s = .next s ∧
    exec (.controlReset tag obj mods n) s = .next s ∧ exec (.powerRequestDoze v) s = .next s

/-- R113, R115 to R117, R119, R120, R122, R124, R125: the command and reply rings: their sizes, the doorbell (which resumes a ring
that had stopped, and finds an overrun), the head of the reply ring, a failed fetch and its clearing; and a command taken:
its slot is read, the head advances, and its packet is answered: SYS.PING with its payload, and one whose CRC is wrong with
ST_BAD_ARG and detail CRC and no entry in the history (R94, R132). -/
def Obligations.CommandRingRegisters : Prop :=
  (∀ (v : Word) (s : State), hostReach s = true → v.toNat ∈ [8, 16, 32, 64, 128, 256] → setupOpen s = true →
    (∃ t, exec (.ringSizeWrite false v) s = .next t ∧ Same { s with host := { s.host with
      cmd := { s.host.cmd with size := v.toNat, tail := 0#16, head := 0#16, served := 0#16 } } } t) ∧
    (∃ t, exec (.ringSizeWrite true v) s = .next t ∧ Same { s with host := { s.host with
      rep := { s.host.rep with size := v.toNat, tail := 0#16, head := 0#16, served := 0#16 } } } t)) ∧
  (∀ s : State, hostReach s = true → setupOpen s = true →
    (∃ t, exec (.ringSizeWrite false 0#32) s = .next t ∧
      Same { s with host := { s.host with cmd := { s.host.cmd with size := 0 } } } t) ∧
    (∃ t, exec (.ringSizeWrite true 0#32) s = .next t ∧
      Same { s with host := { s.host with rep := { s.host.rep with size := 0 } } } t)) ∧
  (∀ (v : Word) (s : State) (rep : Bool), hostReach s = true →
    v.toNat ∉ [0, 8, 16, 32, 64, 128, 256] ∨ setupOpen s = false → ∃ t, exec (.ringSizeWrite rep v) s = .next t ∧ Raised 8 t ∧
      Same { s with host := { s.host with cmdStatus := s.host.cmdStatus ||| 1#32 } } t) ∧
  (∀ (v : Word) (s : State), hostReach s = true → ∃ t, exec (.replyRingHeadWrite v) s = .next t ∧
    Same { s with host := { s.host with rep := { s.host.rep with head := v.setWidth 16 } } } t) ∧
  (∀ (v : Word) (s : State), hostReach s = true → ∃ t, exec (.cmdStatusClear v) s = .next t ∧
    Same { s with host := { s.host with cmdStatus := s.host.cmdStatus &&& ~~~v } } t) ∧
  (∀ s : State, commandReady s = true → ∃ t, exec .commandFetchError s = .next t ∧ Raised 8 t ∧
    Out.hostRead (slotAddr s.host.cmd s.host.cmd.head.toNat) ∈ t.outbox ∧
    Same { s with host := { s.host with
      cmd := { s.host.cmd with stopped := true }, cmdStatus := s.host.cmdStatus ||| 4#32 } } t) ∧
  (∀ s : State, hostReach s = true → s.boot.stage = .running → cmdError s = false →
    (s.host.cmd.tail - s.host.cmd.head).toNat ≤ s.host.cmd.size → ∃ t, exec (.nrmDoorbellCmd 0x10000#32) s = .next t ∧
    Same { s with host := { s.host with cmd := { s.host.cmd with served := s.host.cmd.tail, stopped := false } } } t) ∧
  (∀ s : State, hostReach s = true → s.boot.stage = .running → s.host.cmd.size < (s.host.cmd.tail - s.host.cmd.head).toNat →
    ∃ t, exec (.nrmDoorbellCmd 0x10000#32) s = .next t ∧ Raised 8 t ∧
    Same { s with host := { s.host with
      cmd := { s.host.cmd with stopped := true }, cmdStatus := s.host.cmdStatus ||| 2#32 } } t) ∧
  (∀ (packet : List Byte) (up : List UpDesc) (ok : Bool) (s : State), commandReady s = true →
    uAt packet 8 2 % 4096 ≤ 4080 → crc32 (bytesAt packet 0 12 ++ bytesAt packet 16 (uAt packet 8 2 % 4096)) ≠ w32 (uAt packet 12 4) →
    ∃ t, exec (.commandTaken packet up ok) s = .next t ∧ Raised 2 t ∧
      Same { s with
        host := { s.host with cmd := { s.host.cmd with head := s.host.cmd.head + 1#16 },
                              rep := { s.host.rep with tail := s.host.rep.tail + 1#16 } }
        fw := { s.fw with lastTag := some (h16 (uAt packet 0 2)) } } t ∧
      Out.hostRead (slotAddr s.host.cmd s.host.cmd.head.toNat) ∈ t.outbox ∧
      Out.hostWrite (slotAddr s.host.rep s.host.rep.tail.toNat)
        (replyPacket (h16 (uAt packet 0 2)) (h16 (uAt packet 2 2)) (h16 (uAt packet 4 2)) stBadArg stBadArg 1 false []) ∈
        t.outbox) ∧
  (∀ (packet : List Byte) (up : List UpDesc) (ok : Bool) (s : State), commandReady s = true → packetCheck 4080 0 packet = none →
    (∀ e ∈ s.fw.histRing, e.tag ≠ h16 (uAt packet 0 2)) → uAt packet 2 2 = 0x0101 → uAt packet 4 2 = 0 → uAt packet 6 2 = 0 →
    ∃ t, exec (.commandTaken packet up ok) s = .next t ∧
      Replied 0x0101#16 (packetCmd packet .ring up ok).req stOk 0 (packetCmd packet .ring up ok).req.payload
        { s with host := { s.host with cmd := { s.host.cmd with head := s.host.cmd.head + 1#16 } } } t)

/-- R127 to R131, R94: a packet that passes the first checks, whose tag its channel's history holds, on the ring and in the urgent
slot: with the same content, it is answered from the history with ST_DUPLICATE and executes nothing; with any other content, with
ST_TAG_REUSE. Neither enters the history. -/
def Obligations.DuplicateTagsExecuteNothing : Prop :=
  let answer (b : List Byte) (c : Cmd) (e : HistEntry) : List Byte :=
    if sameContent c e then
      replyPacket (h16 (uAt b 0 2)) (h16 (uAt b 2 2)) (h16 (uAt b 4 2)) stDuplicate e.status e.detail
        (e.trunc || decide (48 < e.fullLen)) e.payload
    else replyPacket (h16 (uAt b 0 2)) (h16 (uAt b 2 2)) (h16 (uAt b 4 2)) stTagReuse stTagReuse 0 false []
  (∀ (packet : List Byte) (up : List UpDesc) (ok : Bool) (s : State) (e : HistEntry), commandReady s = true →
    packetCheck 4080 0 packet = none → (s.fw.histRing.find? fun x => x.tag == h16 (uAt packet 0 2)) = some e →
    ∃ t, exec (.commandTaken packet up ok) s = .next t ∧ Raised 2 t ∧
      Same { s with
        host := { s.host with cmd := { s.host.cmd with head := s.host.cmd.head + 1#16 },
                              rep := { s.host.rep with tail := s.host.rep.tail + 1#16 } }
        fw := { s.fw with lastTag := some (h16 (uAt packet 0 2)) } } t ∧
      Out.hostWrite (slotAddr s.host.rep s.host.rep.tail.toNat) (answer packet (packetCmd packet .ring up ok) e) ∈ t.outbox) ∧
  (∀ (b : List Byte) (up : List UpDesc) (ok : Bool) (s : State) (e : HistEntry), fwRunning s = true → s.urg.slot = some b →
    s.fw.urgBusy = none → packetCheck 240 1 b = none → (s.fw.histUrg.find? fun x => x.tag == h16 (uAt b 0 2)) = some e →
    e.payload.length ≤ 112 → ∃ t, exec (.firmwareUrgentCommand up ok) s = .next t ∧ Raised 0 t ∧
      Same { s with urg := { s.urg with
        fwReply := bytesAt (answer b (packetCmd b .urgent up ok) e) 0 128, fwCount := (s.urg.fwCount + 1) % 256, slot := none } } t)

/-- R135 to R139, R403, R405, R412, R829: the data rings: size, enable and disable, tail, doorbell, a failed read and its
clearing, and the interrupt's timeout. The model's choices that bear on it: log 26, log 27, log 77. -/
def Obligations.DataRingRegisters : Prop :=
  let put (k : Nat) (f : DataRing → DataRing) (s : State) : State :=
    { s with host := { s.host with rings := vmod s.host.rings k f } }
  (∀ (k : Nat) (v : Word) (s : State), k < 16 → hostReach s = true → (∃ i, i < 12 ∧ v.toNat = 2 ^ (i + 3)) →
    ringOn (ring s k) = false → ∃ t, exec (.dataRingSizeWrite k v) s = .next t ∧
    Same (put k (fun r => { r with size := v.toNat }) s) t) ∧
  (∀ (k : Nat) (v : Word) (s : State), k < 16 → hostReach s = true → ringOn (ring s k) = true →
    ∃ t, exec (.dataRingSizeWrite k v) s = .next t ∧ Raised 7 t ∧ Same (put k (fun r => { r with setupReject := true }) s) t) ∧
  (∀ (k : Nat) (v : Word) (s : State), k < 16 → hostReach s = true →
    ((v.setWidth 16 : Half) - (ring s k).head).toNat ≤ (ring s k).size → outstandingAll s k (v.setWidth 16) ≤ 49152 →
    ∃ t, exec (.ringTailWrite k v) s = .next t ∧ Same (put k (fun r => { r with tail := v.setWidth 16 }) s) t) ∧
  (∀ (k : Nat) (v : Word) (s : State), k < 16 → hostReach s = true →
    (ring s k).size < ((v.setWidth 16 : Half) - (ring s k).head).toNat →
    ∃ t, exec (.ringTailWrite k v) s = .next t ∧ Raised 7 t ∧ Same (put k (fun r => { r with postReject := true }) s) t) ∧
  (∀ (k : Nat) (v : Word) (s : State), k < 16 → hostReach s = true → v.getLsbD 0 = true → ringOn (ring s k) = false →
    enableRefused k v s = false → ∃ t, exec (.ringCtrlEnable k v) s = .next t ∧ ringOn (ring t k) = true ∧
      ringStream (ring t k) = bits v.toNat 8 4 ∧ (ring t k).head = 0#16 ∧ (ring t k).tail = 0#16 ∧ (ring t k).posted = 0#16 ∧
      (ring t k).size = (ring s k).size ∧ ∀ j, j ≠ k → ring t j = ring s j) ∧
  (∀ (k : Nat) (v : Word) (s : State), k < 16 → hostReach s = true → ringOn (ring s k) = true → v.getLsbD 0 = false →
    (v ^^^ (ring s k).ctrl) &&& 0xF02#32 = 0#32 → s.deliv.gapBuf = none → s.deliv.loupeBuf = none →
    ∃ t, exec (.ringCtrlDisable k v) s = .next t ∧ Same (put k (fun r => { r with ctrl := v &&& 0xFFFF0F03#32 }) s) t ∧
      ringOn (ring t k) = false ∧ (ring t k).tail = (ring s k).tail ∧ (ring t k).head = (ring s k).head) ∧
  (∀ (k : Nat) (v : Word) (s : State), k < 16 → hostReach s = true → ∃ t, exec (.ringStatusClear k v) s = .next t ∧
    Same (put k (fun r => { r with
      fetchErr := r.fetchErr && !v.getLsbD 2, postReject := r.postReject && !v.getLsbD 3
      setupReject := r.setupReject && !v.getLsbD 4 }) s) t) ∧
  (∀ (k : Nat) (s : State), ringReady (ring s k) = true → ∃ t, exec (.descriptorFetchError k) s = .next t ∧ Raised 7 t ∧
    Same (put k (fun r => { r with fetchErr := true, stopped := true }) s) t) ∧
  (∀ (k w : Nat) (s : State), k < 16 → (ring s k).waitSince = some w → bits (ring s k).ctrl.toNat 24 8 ≠ 0 →
    w + bits (ring s k).ctrl.toNat 24 8 * 10000 ≤ s.localNs → ∃ t, exec (.irqTimeout k) s = .next t ∧ Raised (16 + k) t ∧
    Same (put k (fun r => { r with unsignalled := 0, waitSince := none }) s) t) ∧
  (∀ (k : Nat) (s : State), k < 16 → hostReach s = true → s.boot.stage = .running → ringOn (ring s k) = true →
    bit (ring s k).ctrl.toNat 1 = true → ∃ t, exec (.nrmDoorbellRings (1#32 <<< k)) s = .next t ∧
    Same (put k (fun r => { r with posted := r.tail, stopped := r.fetchErr && r.stopped }) s) t) ∧
  (∀ (k : Nat) (s : State), k < 16 → hostReach s = true → ringOn (ring s k) = true → bit (ring s k).ctrl.toNat 1 = false →
    ∃ t, exec (.nrmDoorbellRings (1#32 <<< k)) s = .next t ∧ (ring t k).posted = (ring s k).tail ∧
    (ring t k).stopped = ((ring s k).fetchErr && (ring s k).stopped) ∧ (ring t k).head = (ring s k).head ∧
    ∀ j, j ≠ k → ring t j = ring s j)

/-- R140 to R144, R151 to R154: a read of REPORT_DATA takes the oldest committed word of the report FIFO; a write of INT_MASK
sends the messages it unmasks, or leaves them pending where MSI-X holds their vector back; and a write of an MSI-X table
entry that lifts its vector's mask sends the message that was pending (R78, R154). -/
def Obligations.ReportAndMaskRegisters : Prop :=
  (∀ (s : State) (w : Word) (ws : List Word) (p : ReportPacket) (ps : List ReportPacket), hostReach s = true →
    s.rep.fifo = p :: ps → p.words = w :: ws → ∃ t, exec .reportDataRead s = .next t ∧ Out.readData w ∈ t.outbox ∧
    Same { s with rep := { s.rep with fifo := if ws = [] then ps else { p with words := ws } :: ps } } t) ∧
  (∀ s : State, hostReach s = true → s.rep.fifo = [] → ∃ t, exec .reportDataRead s = .next t ∧ Same s t ∧
    Out.readData 0#32 ∈ t.outbox) ∧
  (∀ (v : Word) (s : State), hostReach s = true → ∃ t, exec (.intMaskWrite v) s = .next t ∧ t.int.mask = v ∧
    t.int.map = s.int.map ∧ t.int.table = s.int.table ∧ t = { s with pins := t.pins, int := t.int, outbox := t.outbox } ∧
    ∀ i, i < 32 → s.int.due.getLsbD i = true → v.getLsbD i = false →
      if msixOpen (vectorOf s.int i) s then msixMessage s.int (vectorOf s.int i) ∈ t.outbox
      else t.int.pba.getLsbD (vectorOf s.int i) = true) ∧
  (∀ (e : Nat) (v : Word) (s : State), e < 64 → hostReach s = true → s.int.msixOn = true → s.int.msixMasked = false →
    v.getLsbD 0 = false → s.int.pba.getLsbD e = true → ∃ t, exec (.registerWrite ⟨.bar2, 16 * e + 12⟩ v) s = .next t ∧
    (vget t.int.table e).masked = false ∧ t.int.pba.getLsbD e = false ∧ msixMessage s.int e ∈ t.outbox ∧
    t = { s with pins := t.pins, int := t.int, outbox := t.outbox })

/-- R11, R86, R78, R151, R153, R723, R45: registers without a row of their own, and the data word of an MSI-X table entry. -/
def Obligations.PlainRegisterWrites : Prop :=
  ∀ (v : Word) (s : State), hostReach s = true →
    (∃ t, exec (.registerWrite ⟨.bar0, 0x040C⟩ v) s = .next t ∧
      Same { s with host := { s.host with cmd := { s.host.cmd with tail := v.setWidth 16 } } } t) ∧
    (∃ t, exec (.registerWrite ⟨.bar0, 0x2000⟩ v) s = .next t ∧ t.int.mask = s.int.mask ∧ t.int.map = s.int.map ∧
      (∀ i, i < 32 → i ≠ 6 → v.getLsbD i = true → t.int.status.getLsbD i = false) ∧
      (∀ i, v.getLsbD i = false → s.int.status.getLsbD i = true → t.int.status.getLsbD i = true) ∧
      t = { s with pins := t.pins, int := t.int, outbox := t.outbox }) ∧
    (∀ m, m < 8 → ∃ t, exec (.registerWrite ⟨.bar0, 0x2008 + 4 * m⟩ v) s = .next t ∧
      vget t.int.map m = v &&& 0x3F3F3F3F#32 ∧ (∀ j, j ≠ m → vget t.int.map j = vget s.int.map j) ∧
      t = { s with pins := t.pins, int := t.int, outbox := t.outbox }) ∧
    (∃ t, exec (.registerWrite ⟨.bar0, 0x4008⟩ v) s = .next t ∧ Same { s with wake := { s.wake with cause := s.wake.cause &&& ~~~v } } t) ∧
    (∃ t, exec (.registerWrite ⟨.bar0, 0x400C⟩ v) s = .next t ∧
      Same { s with rst := { s.rst with cause := s.rst.cause &&& ~~~v } } t) ∧
    (∀ e, e < 64 → ∃ t, exec (.registerWrite ⟨.bar2, 16 * e + 8⟩ v) s = .next t ∧
      vget t.int.table e = { vget s.int.table e with data := v } ∧
      (∀ j, j ≠ e → vget t.int.table j = vget s.int.table j) ∧
      t = { s with pins := t.pins, int := t.int, outbox := t.outbox })

/-- R106 to R108: HALT_MOTION and LAMPS_SAFE complete for every packet that names object 0 with no payload and no modifier,
whatever firmware does and whatever tag came before. The reply in URG_HW_REPLY has ST_OK and the system time. HALT.MOTION, where no
seam is on (R439), cuts every drive and empties its queue, halts every axis at its standstill current, and leaves the encoders and
all else as they were; LAMPS.SAFE leaves every string off, both gates low, SAFE until a lamp verb, and moves nothing. -/
def Obligations.HaltMotionAndLampsSafe : Prop :=
  let replied (verb tag : Half) (s t : State) : Prop := Raised 1 t ∧ t.urg.hwCount = (s.urg.hwCount + 1) % 256 ∧
    t.urg.hwReply = bytesAt (replyPacket tag verb 0#16 stOk stOk 0 false (leBytes 8 (sysNs s))) 0 128
  (∀ (tag obj mods : Half) (len : Nat) (s : State), hostReach s = true → obj = 0#16 → mods = 0#16 → len = 0 → seamOn s = false →
    ∃ t, exec (.haltMotion tag obj mods len) s = .next t ∧ replied 0xF001#16 tag s t ∧
      (∀ a, a < 4 → (ax t a).halted = true ∧ (ax t a).pos = (ax s a).pos ∧
        (ax t a).st = (match (ax s a).st with | .disabled => .disabled | .fault => .fault | _ => .halted) ∧
        ((ax s a).st ≠ .disabled → (ax t a).iref = iHoldOf s a)) ∧
      (∀ k, k < 8 → drv t k = { ({} : Drive) with standSince := (drv s k).standSince <|> some s.localNs }) ∧
      t.motion.encs = s.motion.encs ∧ t.motion.cmp = s.motion.cmp ∧
      Same { s with motion := t.motion, urg := { s.urg with hwReply := t.urg.hwReply, hwCount := t.urg.hwCount } } t) ∧
  (∀ (tag obj mods : Half) (len : Nat) (s : State), hostReach s = true → obj = 0#16 → mods = 0#16 → len = 0 →
    ∃ t, exec (.lampsSafe tag obj mods len) s = .next t ∧ replied 0xF002#16 tag s t ∧
      (∀ n, n < 16 → (str t n).safed = true ∧ (str t n).gh = false ∧ (str t n).gl = false ∧ (str t n).target = 0 ∧
        (str t n).st = (if (str s n).st = .off then .off else .safe)) ∧
      t.motion = s.motion ∧ t.boot = s.boot ∧ t.rst = s.rst ∧ t.ports = s.ports ∧ t.store = s.store)

/-- R37, R106 to R108, R439: CAPTURE_FREEZE and CONTROL_RESET complete for every packet that names object 0 with no payload and the
modifiers the verb asks for. CAPTURE.FREEZE replies, admits no further trigger, and takes a run or a seam to FROZEN; HALT.MOTION
while a seam is on freezes as well. CONTROL.RESET replies first, then the reset takes hold: firmware is in RESET, the line BOOTED,
the axes halted and the lamps safe, the unread commands discarded, and the PLL, the flash and the wake causes as they were. The
model's choices that bear on it: log 82, log 98. -/
def Obligations.CaptureFreezeAndControlReset : Prop :=
  let replied (verb tag : Half) (s t : State) : Prop := Raised 1 t ∧ t.urg.hwCount = (s.urg.hwCount + 1) % 256 ∧
    t.urg.hwReply = bytesAt (replyPacket tag verb 0#16 stOk stOk 0 false (leBytes 8 (sysNs s))) 0 128
  (∀ (tag obj mods : Half) (len : Nat) (s : State), hostReach s = true → obj = 0#16 → mods = 0#16 → len = 0 →
    ∃ t, exec (.captureFreeze tag obj mods len) s = .next t ∧ replied 0xF003#16 tag s t ∧ t.line.frozen = true ∧
      (s.line.st ∈ [.armed, .capturing, .seam] → t.line.st = .frozen ∧ t.line.admitting = false) ∧
      t.boot = s.boot ∧ t.rst = s.rst ∧ t.clk = s.clk ∧ t.flash = s.flash) ∧
  (∀ (tag obj mods : Half) (len : Nat) (s : State), hostReach s = true → obj = 0#16 → mods = 0#16 → len = 0 → seamOn s = true →
    ∃ t, exec (.haltMotion tag obj mods len) s = .next t ∧ replied 0xF001#16 tag s t ∧ t.line.frozen = true ∧
      t.line.st = .frozen ∧ ∀ a, a < 4 → (ax t a).halted = true) ∧
  (∀ (tag obj mods : Half) (len : Nat) (s : State), hostReach s = true → obj = 0#16 → mods = 0xD1E5#16 → len = 0 →
    s.rst.inEffect = none → ∃ t, exec (.controlReset tag obj mods len) s = .next t ∧ replied 0xF004#16 tag s t ∧
      t.rst = { s.rst with inEffect := some .control, cause := s.rst.cause ||| 0x20#32 } ∧ t.boot.stage = .reset ∧
      t.line.st = .booted ∧ t.line.frozen = true ∧ (∀ n, n < 16 → (str t n).safed = true) ∧
      (∀ a, a < 4 → (ax t a).halted = true) ∧
      t.host.cmd = { s.host.cmd with head := s.host.cmd.tail, served := s.host.cmd.tail } ∧
      t.clk = { s.clk with pllActive := false } ∧ t.flash = s.flash ∧ t.wake = s.wake)

/-- R106: a hardware urgent verb with a wrong object, modifiers or length is refused in URG_HW_REPLY with ST_BAD_ARG and detail 0, and
has no effect. -/
def Obligations.MalformedUrgentVerbRefused : Prop :=
  ∀ (tag obj mods : Half) (len : Nat) (s : State), hostReach s = true →
    let refused (verb : Half) (c : Instr) : Prop := ∃ t, exec c s = .next t ∧ Raised 1 t ∧
      Same { s with urg := { s.urg with
        hwReply := bytesAt (replyPacket tag verb obj stBadArg stBadArg 0 false []) 0 128
        hwCount := (s.urg.hwCount + 1) % 256 } } t
    (obj ≠ 0#16 ∨ len ≠ 0 ∨ mods ≠ 0#16 → refused 0xF001#16 (.haltMotion tag obj mods len) ∧
      refused 0xF002#16 (.lampsSafe tag obj mods len) ∧ refused 0xF003#16 (.captureFreeze tag obj mods len)) ∧
    (obj ≠ 0#16 ∨ len ≠ 0 ∨ mods ≠ 0xD1E5#16 → refused 0xF004#16 (.controlReset tag obj mods len))

/-- R97 to R101: the urgent doorbell latches the window. A packet whose CRC fails is refused in URG_HW_REPLY and reaches no
slot; a firmware verb's packet that passes goes to the empty slot while firmware runs; and firmware serves the slot: a packet
of SYS.PING with a fresh tag is answered with its payload, and the slot released. -/
def Obligations.UrgentChannelServed : Prop :=
  (∀ (v : Word) (s : State), hostReach s = true → uAt s.urg.cmd 8 2 % 4096 ≤ 240 →
    crc32 (bytesAt s.urg.cmd 0 12 ++ bytesAt s.urg.cmd 16 (uAt s.urg.cmd 8 2 % 4096)) ≠ w32 (uAt s.urg.cmd 12 4) →
    ∃ t, exec (.urgDoorbell v) s = .next t ∧ Raised 1 t ∧
      Same { s with urg := { s.urg with
        latch := s.urg.cmd
        hwReply := bytesAt (replyPacket (h16 (uAt s.urg.cmd 0 2)) (h16 (uAt s.urg.cmd 2 2)) (h16 (uAt s.urg.cmd 4 2))
          stBadArg stBadArg 1 false []) 0 128
        hwCount := (s.urg.hwCount + 1) % 256 } } t) ∧
  (∀ (v : Word) (s : State), hostReach s = true → packetCheck 240 1 s.urg.cmd = none → v.setWidth 16 = h16 (uAt s.urg.cmd 0 2) →
    bits (h16 (uAt s.urg.cmd 2 2)).toNat 8 8 ≠ 0xF0 → s.boot.stage = .running → s.urg.slot = none →
    ∃ t, exec (.urgDoorbell v) s = .next t ∧ Same { s with urg := { s.urg with latch := s.urg.cmd, slot := some s.urg.cmd } } t) ∧
  (∀ (up : List UpDesc) (ok : Bool) (s : State) (b : List Byte), fwRunning s = true → s.urg.slot = some b → s.fw.urgBusy = none →
    packetCheck 240 1 b = none → (∀ e ∈ s.fw.histUrg, e.tag ≠ h16 (uAt b 0 2)) → uAt b 2 2 = 0x0101 → uAt b 4 2 = 0 →
    uAt b 6 2 = 0 → ∃ t, exec (.firmwareUrgentCommand up ok) s = .next t ∧
      Replied 0x0101#16 (packetCmd b .urgent up ok).req stOk 0 (packetCmd b .urgent up ok).req.payload s t)

/-! ### The verbs of SYS, FW, POWER and STORE (chapters 04, 15, 16) -/

/-- R171: a verb that is not urgent-capable, on the urgent channel, is refused with ST_BAD_VERB and detail NOT_URGENT, and has
no effect. -/
def Obligations.OnlyUrgentVerbsOnUrgentChannel : Prop :=
  ∀ p ∈ ([(.sysInfo, 0x0102), (.sysTime, 0x0103), (.fwFlash, 0x0201), (.fwCommit, 0x0202), (.fwStatus, 0x0203), (.fwPolicy, 0x0204),
      (.declareBoard, 0x0301), (.declareQuery, 0x0302), (.lineArm, 0x0401), (.lineStart, 0x0402), (.lineConfig, 0x0404),
      (.lineReconfigure, 0x0405), (.lineMirror, 0x0406), (.calDark, 0x0501), (.calWhite, 0x0502), (.calLoad, 0x0503),
      (.calSwap, 0x0504), (.calLanes, 0x0505), (.calPlace, 0x0506), (.lampSet, 0x0601), (.lampDuty, 0x0603), (.lampTest, 0x0604)] ++
      [(.lampRecover, 0x0605), (.axisMove, 0x0701), (.axisGroupMove, 0x0702), (.axisSetPos, 0x0704), (.axisEnable, 0x0705),
      (.tempThreshold, 0x0802), (.hkSequence, 0x0901), (.hkRead, 0x0902), (.camConfig, 0x0A01), (.camStart, 0x0A02),
      (.camSensor, 0x0A04), (.loupeStripe, 0x0B01), (.loupeBands, 0x0B02), (.loupeAnomaly, 0x0B03), (.loupeAlarm, 0x0B04),
      (.prismJoin, 0x0C01), (.prismLeave, 0x0C02), (.prismSchedule, 0x0C03), (.prismRelay, 0x0C04), (.prismSwap, 0x0C05),
      (.powerWake, 0x0D02), (.storeRead, 0x0E01), (.storeLog, 0x0E02)] : List ((Req → Instr) × Nat)),
    ∀ (r : Req) (s : State), Serves .urgent s → r.chan = .urgent →
      ∃ t, exec (p.1 r) s = .next t ∧ Replied (h16 p.2) r stBadVerb 2 [] s t

/-- R94 step 7, R162: a verb that takes the device handle alone, given another, is refused with ST_BAD_OBJECT and has no
effect, whatever else it carries. -/
def Obligations.WrongObjectRefused : Prop :=
  ∀ p ∈ ([(.sysPing, 0x0101), (.sysInfo, 0x0102), (.sysTime, 0x0103), (.fwFlash, 0x0201), (.fwCommit, 0x0202), (.fwStatus, 0x0203),
      (.fwPolicy, 0x0204), (.powerWake, 0x0D02), (.storeRead, 0x0E01), (.storeLog, 0x0E02)] : List ((Req → Instr) × Nat)),
    ∀ (r : Req) (s : State), Serves r.chan s → (r.chan = .urgent → p.2 = 0x0101) → r.obj ≠ 0#16 →
      ∃ t, exec (p.1 r) s = .next t ∧ Replied (h16 p.2) r stBadObject 0 [] s t

/-- R172: SYS.PING answers with its payload, on every channel. SYS.INFO and FW.STATUS answer with the figures the table lays
out. SYS.TIME with STEP steps system time to TIME_NS, and otherwise leaves the difference to be slewed. The model's choices
that bear on it: log 16. -/
def Obligations.SysVerbsAnswer : Prop :=
  (∀ (r : Req) (s : State), Serves r.chan s → r.obj = 0#16 → r.mods = 0#16 →
    ∃ t, exec (.sysPing r) s = .next t ∧ Replied 0x0101#16 r stOk 0 r.payload s t) ∧
  (∀ (r : Req) (s : State), Serves r.chan s → r.chan ≠ .urgent → r.obj = 0#16 → r.mods = 0#16 → r.payload = [] →
    ∃ t, exec (.sysInfo r) s = .next t ∧ Replied 0x0102#16 r stOk 0
      (bytesAt Config.uniqueId 0 8 ++ leBytes 8 (if s.line.st = .booted then 0 else declDigest s) ++
        leBytes 8 (if s.line.st = .booted then 0 else systemDigest s) ++ leBytes 4 s.line.epoch.toNat ++
        [b8 (lineCode s.line.st), b8 (fwMinor s)]) s t) ∧
  (∀ (r : Req) (s : State), Serves r.chan s → r.chan ≠ .urgent → r.obj = 0#16 → r.mods = 1#16 → r.payload.length = 8 →
    (pJoined s = false ∨ s.prism.root = true) → inRun s = false →
    ∃ t, exec (.sysTime r) s = .next t ∧
      Replied 0x0103#16 r stOk 0 [] { s with time := { s.time with sys := arg r 0 8 * 2 ^ 32, left := 0 } } t) ∧
  (∀ (r : Req) (s : State), Serves r.chan s → r.chan ≠ .urgent → r.obj = 0#16 → r.mods = 0#16 → r.payload.length = 8 →
    (pJoined s = false ∨ s.prism.root = true) →
    ∃ t, exec (.sysTime r) s = .next t ∧ Replied 0x0103#16 r stOk 0 []
      { s with time := { s.time with left := ((arg r 0 8 * 2 ^ 32 : Nat) : Int) - (s.time.sys : Int) } } t) ∧
  (∀ (r : Req) (s : State), Serves r.chan s → r.chan ≠ .urgent → r.obj = 0#16 → r.mods = 1#16 → r.payload.length = 8 →
    (pJoined s = false ∨ s.prism.root = true) → inRun s = true →
    ∃ t, exec (.sysTime r) s = .next t ∧ Replied 0x0103#16 r stState 0x0102 [] s t)

/-- R53 to R55, R172, R173: FW.COMMIT raises the anti-rollback counter to the running image's and revokes the lower key slots
when the image's FLAGS say so; FW.STATUS reports; FW.POLICY writes the policy word in BOOTED and READY, and refuses the value 3
in every line state (R94); FW.FLASH writes an image that passes to the slot, and answers one that fails with its REASON. The
model's choices that bear on it: log 71. -/
def Obligations.FwVerbsAnswer : Prop :=
  (∀ (r : Req) (s : State) (i : ImageInfo), Serves r.chan s → r.chan ≠ .urgent → r.obj = 0#16 → r.mods = 0#16 → r.payload = [] →
    s.boot.image = some i → ∃ t, exec (.fwCommit r) s = .next t ∧
      Replied 0x0202#16 r stOk 0 (leBytes 4 (max s.store.antiRollback i.rollback)) { s with store := { s.store with
        antiRollback := max s.store.antiRollback i.rollback
        revoked := s.store.revoked ||| (if bit i.flags 2 then 2 ^ i.keySlot - 1 else 0) } } t) ∧
  (∀ (r : Req) (s : State), Serves r.chan s → r.chan ≠ .urgent → r.obj = 0#16 → r.mods = 0#16 → r.payload = [] →
    ∃ t p, exec (.fwStatus r) s = .next t ∧ Replied 0x0203#16 r stOk 0 p s t ∧ p.length = 32 ∧
      p.take 6 = leBytes 4 s.store.antiRollback ++ [b8 s.store.revoked, b8 s.store.policy]) ∧
  (∀ (r : Req) (s : State), Serves r.chan s → r.chan ≠ .urgent → r.obj = 0#16 → ModsWithin r 3 → bits r.mods.toNat 0 2 ≠ 3 →
    r.payload = [] → (s.line.st = .booted ∨ s.line.st = .ready) → ∃ t, exec (.fwPolicy r) s = .next t ∧
      Replied 0x0204#16 r stOk 0 [] { s with store := { s.store with policy := bits r.mods.toNat 0 2 } } t) ∧
  (∀ (r : Req) (s : State), Serves r.chan s → r.chan ≠ .urgent → r.obj = 0#16 → r.mods = 3#16 → r.payload = [] →
    ∃ t, exec (.fwPolicy r) s = .next t ∧ Replied 0x0204#16 r stBadArg 0 [] s t) ∧
  (∀ (r : Req) (s u : State) (data : List Byte), Serves r.chan s → r.chan ≠ .urgent → r.obj = 0#16 → ModsWithin r 1 →
    Shaped r uploadFields → (s.line.st = .booted ∨ s.line.st = .ready) → s.boot.source ≠ bits r.mods.toNat 0 1 →
    upload 0 { verb := 0x0201#16, req := r } s = (.inr data, u) → r.partOk = true → ∃ t, exec (.fwFlash r) s = .next t ∧
      (uploadedReason u data = 0 →
        Replied 0x0201#16 r stOk 0 [] (writeSlot (bits r.mods.toNat 0 1) (data.take (uAt data 8 4)) u) t) ∧
      (uploadedReason u data ≠ 0 → Replied 0x0201#16 r stBadArg 0x0101 [b8 (uploadedReason u data)] u t))

/-- R191, R731, R751, R752, R756, R757: POWER.GRANTS answers 12 bytes for the budget it names; POWER.WAKE writes the wake
configuration to the always-on domain; STORE.READ answers LENGTH bytes of the area; STORE.LOG the entries from FIRST, 32 bytes
each, at most MAX of them. The model's choices that bear on it: log 7, log 43. -/
def Obligations.PowerAndStoreVerbsAnswer : Prop :=
  (∀ (r : Req) (s : State), Serves r.chan s → Names r kBudget s → r.mods = 0#16 → r.payload = [] → s.line.st ≠ .booted →
    ∃ t, exec (.powerGrants r) s = .next t ∧ Replied 0x0D01#16 r stOk 0
      (leBytes 4 (budgetClaims s.grants (objIdx r.obj)) ++ leBytes 4 (budgetLoad s.grants s.localNs (objIdx r.obj)) ++
        leBytes 2 (s.grants.grants.filter fun g =>
          g.budget == objIdx r.obj && decide (s.localNs < g.start + g.dur)).length ++
        leBytes 2 (vget s.grants.refusals (objIdx r.obj))) s t) ∧
  (∀ (r : Req) (s : State) (d : Decl), Serves r.chan s → r.obj = 0#16 → r.mods = 0#16 → r.payload = [] → s.line.st ≠ .booted →
    s.decl = some d → ∃ t p, exec (.powerGrants r) s = .next t ∧ Replied 0x0D01#16 r stOk 0 p s t ∧
      p.length = 12 * ((List.range 8).filter fun b => (assoc d.budgets b).isSome).length) ∧
  (∀ (r : Req) (s : State), Serves r.chan s → r.chan ≠ .urgent → r.obj = 0#16 → r.mods = 0#16 → r.payload.length = 3 →
    arg r 0 1 < 32 → arg r 1 1 < 16 → 0x08 ≤ arg r 2 1 → arg r 2 1 ≤ 0x77 → s.wake.retention = none →
    ∃ t, exec (.powerWake r) s = .next t ∧ Replied 0x0D02#16 r stOk 0 [] { s with wake := { s.wake with
      enable := arg r 0 1, polarity := arg r 1 1, i2cAddr := if bit (arg r 0 1) 4 then some (arg r 2 1) else none } } t) ∧
  (∀ (r : Req) (s : State), Serves r.chan s → r.chan ≠ .urgent → r.obj = 0#16 → r.mods = 0#16 → Shaped r [.u 1, .u 4, .u 4] →
    arg r 0 1 ≤ 2 → 1 ≤ arg r 8 4 → arg r 8 4 ≤ 4064 → arg r 4 4 + arg r 8 4 ≤ areaSize (arg r 0 1) →
    ∃ t p, exec (.storeRead r) s = .next t ∧ Replied 0x0E01#16 r stOk 0 p s t ∧ p.length = arg r 8 4) ∧
  (∀ (r : Req) (s : State), Serves r.chan s → r.chan ≠ .urgent → r.obj = 0#16 → r.mods = 0#16 → Shaped r [.u 4, .u 2] →
    ∃ t p, exec (.storeLog r) s = .next t ∧ Replied 0x0E02#16 r stOk 0 p s t ∧ p.length ≤ 32 * min (arg r 4 2) 127 ∧
      (∀ (e : LogEntry) (es : List LogEntry), (s.store.log.filter fun x => decide (arg r 0 4 ≤ x.seq)) = e :: es →
        1 ≤ arg r 4 2 → p.take 6 = leBytes 4 e.seq ++ leBytes 2 e.code))

/-! ### DECLARE and LINE (chapters 04 and 05) -/

/-- R172, R210, R212, R213: DECLARE.BOARD answers an accepted declaration with its digests, and takes it into force unless
CHECK_ONLY is set: from BOOTED the line state becomes DECLARED and the epoch advances; a declaration that fails a check is
answered with the failure, and changes nothing. DECLARE.QUERY answers with the record that covers the object. The model's
choices that bear on it: log 32, log 73. -/
def Obligations.DeclareVerbsAnswer : Prop :=
  (∀ (r : Req) (s : State) (d : Decl), Issued r s → r.obj = 0#16 → r.mods = 2#16 →
    (s.line.st = .booted ∨ s.line.st = .declared ∨ s.line.st = .ready) →
    checkDeclaration s.limit (fwMinor s) r.payload = .ok d →
    ∃ t, exec (.declareBoard r) s = .next t ∧ Replied 0x0301#16 r stOk 0 (digestReply d) s t) ∧
  (∀ (r : Req) (s : State) (d : Decl), Issued r s → r.obj = 0#16 → r.mods = 0#16 → s.line.st = .booted →
    checkDeclaration s.limit (fwMinor s) r.payload = .ok d →
    ∃ t u, exec (.declareBoard r) s = .next t ∧ Replied 0x0301#16 r stOk 0 (digestReply d) u t ∧
      u.decl = some d ∧ u.line.st = .declared ∧ u.line.epoch = s.line.epoch + 1#32 ∧ u.line.dram = none ∧
      u.rst = s.rst ∧ u.clk = s.clk ∧ u.boot = s.boot) ∧
  (∀ (r : Req) (s : State) (e : DFail), Issued r s → r.obj = 0#16 → (r.mods = 0#16 ∨ r.mods = 2#16) →
    (s.line.st = .booted ∨ s.line.st = .declared ∨ s.line.st = .ready) →
    checkDeclaration s.limit (fwMinor s) r.payload = .error e →
    ∃ t, exec (.declareBoard r) s = .next t ∧ Replied 0x0301#16 r e.status e.detail e.payload s t) ∧
  (∀ (r : Req) (s : State) (d : Decl) (rec : RawRec) (k : Nat × Nat), Issued r s → objKind r.obj < 14 →
    Names r (objKind r.obj) s → r.mods = 0#16 → r.payload = [] → s.line.st ≠ .booted → s.decl = some d →
    coveringRecord d (objKind r.obj) (objIdx r.obj) = some k → findRec d.records k.1 k.2 = some rec →
    ∃ t, exec (.declareQuery r) s = .next t ∧ Replied 0x0302#16 r stOk 0 (recBytes rec) s t)

/-- R157, R174, R175, R214, R429, R567, R571: LINE.ARM of one device, when no check of R214 fails, begins a run: ARMED, FROZEN gone, the first
line, the count and the speed as given. LINE.START with AT NOW or AT POSITION sets the start point, and triggers are admitted
from now on. LINE.STOP with END ends admission, and the run ends when its lines have drained. A feed axis
the device owns starts toward the run's speed, and stops on its ramp. The model's choices that bear on it: log 57, log 74. -/
def Obligations.LineRunVerbs : Prop :=
  (∀ (r : Req) (s : State) (d : Decl), Issued r s → r.obj = 0#16 → r.mods = 0#16 → Shaped r [.u 4, .u 4, .u 1] →
    s.decl = some d → FullRun s → (s.line.st = .ready ∨ s.line.st = .frozen) → speedOk d (arg r 8 1) = true →
    firstFail (armChecks d false s ++ nodeChecks s) = none → (dPrism? s = none ∨ pJoined s = true) → armWaits s = false →
    ∃ t u, exec (.lineArm r) s = .next t ∧ Replied 0x0401#16 r stOk 0 [] u t ∧
      u.line.st = .armed ∧ u.line.frozen = false ∧ u.line.firstLine = arg r 0 4 ∧ u.line.lineCount = arg r 4 4 ∧
      u.line.speed = arg r 8 1 ∧ u.line.admitting = false ∧ u.line.start = none ∧ u.line.seams = 0 ∧ u.line.gaps = 0 ∧
      u.deliv.streams = lineStreams d s ∧ (∀ n, n < 24 → (vget u.achr.hist n) = []) ∧ u.decl = s.decl ∧
      (s.line.resume = none → u.ports = s.ports) ∧ u.cal = s.cal ∧ u.lamps = s.lamps ∧ u.motion = s.motion) ∧
  (∀ (r : Req) (s : State) (w : StartAt), Issued r s → r.obj = 0#16 → Shaped r [.u 8, .u 8] → s.line.st = .armed →
    (r.mods = 0#16 ∧ w = .now ∨
      r.mods = 1#16 ∧ w = .position (sAt r.payload 0 8) ∧ -(2 ^ 47) ≤ sAt r.payload 0 8 ∧ sAt r.payload 0 8 < 2 ^ 47 ∨
      r.mods = 2#16 ∧ w = .time (arg r 8 8) ∧ sysNs s + 8000 ≤ arg r 8 8 ∧ s.prism.run = none) →
    s.line.fresh = false → s.line.resuming = false → pendingReconf s = none →
    ∃ t u, exec (.lineStart r) s = .next t ∧ Replied 0x0402#16 r stOk 0 [] u t ∧
      (feedAxis? s = none → u = { s with
        line := { s.line with admitting := true, start := some w }
        motion := { s.motion with cmp := { s.motion.cmp with
          g0 := startGrid w (encd s (feedEnc s)).count s.motion.cmp.pitch, index := 0, gridPitch := s.motion.cmp.pitch
          capPitch := (s.decl.map fun d => d.geometry.capPitch).getD 0 } } }) ∧
      (∀ a, a < 4 → feedAxis? s = some a → (drv s a).feed = none → (drv u a).feed = some (feedSpeed s s.line.speed)) ∧
      u.line = { s.line with admitting := true, start := some w } ∧ u.lamps = s.lamps ∧ u.ports = s.ports ∧ u.decl = s.decl) ∧
  (∀ (r : Req) (s : State), Issued r s → r.obj = 0#16 → r.mods = 2#16 → Shaped r [.u 8, .u 8] →
    arg r 8 8 < sysNs s + 8000 → ∃ t, exec (.lineStart r) s = .next t ∧ Replied 0x0402#16 r stBadArg 0x0101 [] s t) ∧
  (∀ (r : Req) (s : State), Serves r.chan s → r.obj = 0#16 → r.mods = 0#16 → Shaped r [.u 4] →
    (s.line.st = .armed ∨ s.line.st = .capturing) → s.line.resuming = false → s.prism.run = none →
    (∀ b, s.fw.busy = some b → Busy.isSystemArm b.2 = false) →
    ∃ t, exec (.lineStop r) s = .next t ∧ Replied 0x0403#16 r stOk 0 []
      (stopFeed { s with line := { s.line with start := none, admitting := false, drain := .stopEnd 0x0403#16 } }) t)

/-- R174, R179, R180, R183, R389: LINE.CONFIG, LINE.RECONFIGURE and LINE.MIRROR outside a run's capture take effect at once.
LINE.CONFIG's entries apply together, and the epoch advances (R169). LINE.RECONFIGURE whose replacements pass the checks puts the
declaration they give into force. LINE.STATUS answers the line state, the speed, the last line admitted and delivered, the
epoch and the counts. The model's choices that bear on it: log 61, log 62. -/
def Obligations.LineSettingVerbs : Prop :=
  (∀ (r : Req) (s : State) (d : Decl), Issued r s → r.obj = 0#16 → r.mods = 0#16 → s.decl = some d → s.line.st ≠ .booted →
    16 ≤ r.payload.length → r.payload.length ≤ 4080 → r.payload.length % 8 = 0 → arg r 4 4 = 0 →
    cfgFits d (cfgEntries r.payload) s = true → cfgWrites d (cfgOwn r.tag) (cfgEntries r.payload) s = [] →
    cfgWindows d (cfgEntries r.payload) s = none → lineFlow s = false →
    ∃ t, exec (.lineConfig r) s = .next t ∧ Replied 0x0404#16 r stOk 0 [] (cfgApply d (cfgEntries r.payload) s) t ∧
      t.line.epoch = s.line.epoch + 1#32) ∧
  (∀ (r : Req) (s : State) (d : Decl), Issued r s → r.obj = 0#16 → r.mods = 0#16 → s.decl = some d →
    16 ≤ r.payload.length → r.payload.length ≤ 4080 → r.payload.length % 8 = 0 → arg r 4 4 = 0 →
    cfgFits d (cfgEntries r.payload) s = false →
    ∃ t, exec (.lineConfig r) s = .next t ∧ Replied 0x0404#16 r stBadArg 0 [] s t) ∧
  (∀ (r : Req) (s : State) (d d' : Decl) (l : List RawRec), Issued r s → r.obj = 0#16 → r.mods = 0#16 → s.decl = some d →
    s.line.st = .ready → s.line.resume = none → s.line.settling = false → 8 ≤ r.payload.length → arg r 4 4 = 0 →
    readReplacement d.records (r.payload.drop 8) = .ok l → checkReplacement d false l s = .ok d' →
    ∃ t, exec (.lineReconfigure r) s = .next t ∧ Replied 0x0405#16 r stOk 0 [] (applyReconf l none s) t ∧
      t.decl = some (toDecl d.minMinor d.declId (mergeRecords d.records l)) ∧ t.line.epoch = s.line.epoch + 1#32 ∧
      t.line.st = .ready) ∧
  (∀ (r : Req) (s : State) (d : Decl), Issued r s → r.obj = 0#16 → r.mods = 0#16 → s.decl = some d → s.line.st = .capturing →
    8 ≤ r.payload.length → arg r 4 4 = 0 → ∃ t, exec (.lineReconfigure r) s = .next t ∧ Replied 0x0405#16 r stState 0x0101 [] s t) ∧
  (∀ (r : Req) (s : State), Issued r s → (Names r kDevice s ∨ Names r kSegment s) → ModsWithin r 7 → bits r.mods.toNat 0 3 ≤ 5 → Shaped r [.u 2] →
    s.line.st ≠ .booted → 1 ≤ arg r 0 2 → lineFlow s = false → FullRun s →
    ∃ t, exec (.lineMirror r) s = .next t ∧ Replied 0x0406#16 r stOk 0 [] { s with achr := { s.achr with mirror := { s.achr.mirror with
      sel := { point := bits r.mods.toNat 0 3, seg := if objKind r.obj = kSegment then some (objIdx r.obj) else none, decimate := arg r 0 2 },
          next := none } } } t) ∧
  (∀ (r : Req) (s : State), Serves r.chan s → r.obj = 0#16 → r.mods = 0#16 → r.payload = [] → s.line.st ≠ .booted →
    ∃ t, exec (.lineStatus r) s = .next t ∧ Replied 0x0407#16 r stOk 0
      ([b8 (lineCode s.line.st), b8 (speedByte s), 0#8, 0#8] ++ leBytes 4 (lastAdm s) ++ leBytes 4 (lastDeliv s) ++
        wordBytes s.line.epoch ++ leBytes 4 s.line.seams ++ leBytes 4 s.line.gaps) s t)

/-- R157, R176, R178, R750: an ended run whose lines have drained, with the feed at standstill, leaves the line state READY (or
DECLARED, with a port failed) and nothing admitted; and the end of DRAM training records the result and starts the ports
that waited. The model's choices that bear on it: log 59. -/
def Obligations.RunAndTrainingEnds : Prop :=
  (∀ (s : State) (v : Half), s.line.drain = .stopEnd v → stopped s = true → (s.line.st = .armed ∨ s.line.st = .capturing) →
    s.fw.deferred = [] → s.fw.busy = none → s.fw.urgBusy = none → s.prism.heldArm = none → s.lampLink.stage = none →
    ∃ t, exec .lineStopComplete s = .next t ∧ t.line.st = (if anyPortFailed s then .declared else .ready) ∧
      t.line.drain = .none ∧ t.line.admitting = false ∧ t.line.resume = none ∧ t.line.start = none ∧ t.prism.run = none ∧
      t.decl = s.decl ∧ t.lamps = s.lamps ∧ t.store = s.store) ∧
  (∀ s : State, stopped s = false → ∃ t, exec .lineStopComplete s = .next t ∧ Same s t) ∧
  (∀ s : State, s.line.drain = .counted → inRun s = true → drained s = true → s.fw.deferred = [] → s.fw.busy = none →
    s.fw.urgBusy = none → s.prism.heldArm = none → s.lampLink.stage = none →
    ∃ t, exec .runCountEnd s = .next t ∧ t.line.st = (if anyPortFailed s then .declared else .ready) ∧ t.line.drain = .none ∧
      t.line.admitting = false ∧ t.line.resume = none ∧ t.prism.run = none ∧ t.decl = s.decl ∧ t.lamps = s.lamps ∧
      t.store = s.store) ∧
  (∀ (s : State) (d : Decl) (code mib : Nat), s.decl = some d → s.line.dramRun = true → fwRunning s = true → code ≤ 3 →
    ∃ t, exec (.dramTrainingEnd code mib) s = .next t ∧
      t.line.dram = some (if code = 0 ∧ mib ≠ 1024 * d.dram.sizeGib then 2 else code) ∧ t.line.dramMib = mib ∧
      t.line.dramRun = false ∧ t.line.dramAsk = none ∧ t.decl = s.decl)

/-! ### Line starts and calibration (chapters 05 to 08) -/

/-- R178, R229, R234, R237, R331, R395, R397, R398, R572: LINE_TRIGGER fires when the count has reached the pending grid point, and
not otherwise; while lines are admitted, it is admitted when the slots and the ports allow it, its line being issued, and is
otherwise a missing capture, by cause 1 with no slot or with one of its slots still held, and by cause 3 with a port busy at the
next boundary of its timing lane. ENCODER_POSITION_LATCH gives the
oldest line whose instant has come its position. CALIBRATION_LINE_TIMER issues the next calibration line. The model's
choices that bear on it: log 66. -/
def Obligations.LinesAreStarted : Prop :=
  (∀ (s : State) (mon : List Mon), (triggerDue s = false ∨ dpClk s = false) →
    ∃ t, exec (.lineTrigger mon) s = .next t ∧ Same s t) ∧
  (∀ (s : State) (d : Decl) (mon : List Mon), s.decl = some d → triggerDue s = true → dpClk s = true →
    (inRun s = false ∨ s.line.admitting = false) → ∃ t, exec (.lineTrigger mon) s = .next t ∧
      Same { s with line := { s.line with start := none }
                    motion := { s.motion with cmp := { s.motion.cmp with index := s.motion.cmp.index + 1 } } } t) ∧
  (∀ (s : State) (d : Decl) (mon : List Mon), s.decl = some d → triggerDue s = true → dpClk s = true →
    (s.line.st = .armed ∨ s.line.st = .capturing) → s.line.admitting = true → (d.system.scan = true ∨ s.deliv.refusing = false) →
    occupancy s + (claimsFor d s s.motion.cmp.index).length ≤ claimLimit d s →
    (∀ m ∈ claimsFor d s s.motion.cmp.index, slotHeld d s m = false) → (∀ n, n < 24 → (sport s n).lsFree ≤ issueAt s) →
    ∃ t, exec (.lineTrigger mon) s = .next t ∧ t.line.lastAdmitted = some (outNumber s s.motion.cmp.index) ∧
      t.motion.cmp.index = s.motion.cmp.index + 1 ∧ (d.system.scan = false → t.line.st = .capturing) ∧
      ∃ c ∈ t.caps, c.cal = false ∧ c.index = s.motion.cmp.index ∧ c.line = outNumber s s.motion.cmp.index ∧ c.gap = 0) ∧
  (∀ (s : State) (d : Decl) (mon : List Mon), s.decl = some d → triggerDue s = true → dpClk s = true → inRun s = true →
    s.line.admitting = true → d.system.scan = false → s.deliv.refusing = false →
    (claimLimit d s < occupancy s + (claimsFor d s s.motion.cmp.index).length ∨
      ∃ m ∈ claimsFor d s s.motion.cmp.index, slotHeld d s m = true) →
    ∃ t, exec (.lineTrigger mon) s = .next t ∧ t.line.lastAdmitted = s.line.lastAdmitted ∧ t.deliv.refusing = true ∧
      t.ports = s.ports ∧ t.lamps = s.lamps ∧ ∃ c ∈ t.caps, c.index = s.motion.cmp.index ∧ c.gap = 1 ∧ c.done = true) ∧
  (∀ (s : State) (d : Decl) (mon : List Mon) (n : Nat), s.decl = some d → triggerDue s = true → dpClk s = true → inRun s = true →
    s.line.admitting = true → d.system.scan = false → s.deliv.refusing = false →
    occupancy s + (claimsFor d s s.motion.cmp.index).length ≤ claimLimit d s →
    (∀ m ∈ claimsFor d s s.motion.cmp.index, slotHeld d s m = false) →
    n < d.segments.length → portUp (sport s n) = true → issueAt s < (sport s n).lsFree →
    ∃ t, exec (.lineTrigger mon) s = .next t ∧ t.line.lastAdmitted = s.line.lastAdmitted ∧
      t.line.overruns = s.line.overruns + 1 ∧ t.ports = s.ports ∧ t.lamps = s.lamps ∧
      ∃ c ∈ t.caps, c.index = s.motion.cmp.index ∧ c.gap = 3 ∧ c.done = true) ∧
  (∀ (s : State) (x : Capture), (s.caps.find? fun c => c.pos.isNone && c.gap == 0 && decide (c.latchAt ≤ s.localNs)) = some x →
    ∃ t, exec .encoderPositionLatch s = .next t ∧ Same { s with caps := s.caps.map fun c =>
      if c.cal = x.cal ∧ c.index = x.index then { c with pos := some (encd s (feedEnc s)).count } else c } t) ∧
  (∀ (s : State) (d : Decl) (r : CalRun) (mon : List Mon), s.decl = some d → s.cal.run = some r → r.accumulating = true →
    r.nextAt ≤ s.localNs → dpClk s = true → r.counted < r.lines → r.issued < 2 * r.lines + 16 →
    (∀ n, n < 24 → (sport s n).lsFree ≤ issueAt s) →
    ∃ t, exec (.calibrationLineTimer mon) s = .next t ∧ t.cal.counter = (s.cal.counter + 1) % 2 ^ 32 ∧
      t.cal.run = some { r with issued := r.issued + 1, nextAt := s.localNs + d.system.calPeriodNs } ∧
      (∃ c ∈ t.caps, c.cal = true ∧ c.line = s.cal.counter) ∧ t.line.lastAdmitted = s.line.lastAdmitted)

/-- R185, R186, R324 to R330, R335, R363, R273: the CAL verbs. CAL.DARK and CAL.WHITE, in READY with the lamps as each needs them and
the grant given, enter CALIBRATING, and are answered when they end. CAL.LOAD writes its table into the loaded bank under a
grant. CAL.SWAP exchanges the banks, at once outside a run's capture, or deferred to a line, and is answered when the copy has
ended. CAL.LANES and CAL.PLACE report and set a port's lanes and a segment's shift, which a SET changes at the next line
boundary. The model's choices that bear on it: log
62, log 69. -/
def Obligations.CalVerbs : Prop :=
  (∀ (r : Req) (s : State) (d : Decl), Issued r s → FullRun s → (Names r kDevice s ∨ Names r kSegment s) → ModsWithin r 1 →
    Shaped r [.u 2, .u 1] → s.line.st = .ready → 16 ≤ arg r 0 2 → arg r 0 2 ≤ 4096 → 1 ≤ arg r 2 1 → arg r 2 1 ≤ 3 →
    swapPending s = false → s.decl = some d → (∀ p ∈ d.strings, (str s p.1).st = .off) →
    (let run := newCal { verb := 0x0501#16, req := r } false (arg r 2 1) 0 s
     let g := (askGrant .cal .calSweep [(dDramBudget s, 1800)] (sweepNs d run) s).1
     (g = true → ∃ t, exec (.calDark r) s = .next t ∧ Waits 0x0501#16 r .cal t ∧ t.line.st = .calibrating ∧
       t.cal.run.map (fun x => (x.white, x.lines, x.expSet, x.segs)) = some (false, arg r 0 2, arg r 2 1, run.segs)) ∧
     (g = false → ∃ t u, exec (.calDark r) s = .next t ∧ Replied 0x0501#16 r stNoGrant 0 [] u t ∧
       u.cal = s.cal ∧ u.lamps = s.lamps ∧ u.ports = s.ports))) ∧
  (∀ (r : Req) (s : State) (d : Decl), Issued r s → FullRun s → (Names r kDevice s ∨ Names r kSegment s) → ModsWithin r 3 →
    Shaped r [.u 2, .u 2] → s.line.st = .ready → 16 ≤ arg r 0 2 → arg r 0 2 ≤ 4096 → swapPending s = false → s.decl = some d →
    (∀ p ∈ d.strings, (str s p.1).st = .on ∧ iSetOf p.2 (str s p.1).level ≤ derateCeil p.2 (str s p.1)) →
    (let run := newCal { verb := 0x0502#16, req := r } true (if d.geometry.dual then 3 else 1) (arg r 2 2) s
     (askGrant .cal .calSweep [(dDramBudget s, 1800)] (sweepNs d run) s).1 = true →
     ∃ t, exec (.calWhite r) s = .next t ∧ Waits 0x0502#16 r .cal t ∧ t.line.st = .calibrating ∧
       t.cal.run.map (fun x => (x.white, x.lines, x.target, x.segs)) = some (true, arg r 0 2, arg r 2 2, run.segs))) ∧
  (∀ (r : Req) (s u : State) (d : Decl) (data : List Byte), Issued r s → FullRun s → r.obj = 0#16 → r.mods = 1#16 →
    Shaped r ([.u 1, .u 1, .r 2] ++ uploadFields) → s.line.st ≠ .booted → swapPending s = false → s.decl = some d →
    upload 4 { verb := 0x0503#16, req := r } s = (.inr data, u) → loadSize d (arg r 0 1) (arg r 1 1) = some data.length →
    (if arg r 0 1 = 4 then weightsOk data = true else ∀ n ∈ (loadSegs d (arg r 0 1) (arg r 1 1)).getD [],
      loadOk d (arg r 0 1) n (segData d (arg r 0 1) ((loadSegs d (arg r 0 1) (arg r 1 1)).getD []) n data) = true) →
    bankOpen u = true → ∃ t, exec (.calLoad r) s = .next t ∧
      Replied 0x0503#16 r (runLoad (arg r 0 1) (arg r 1 1) data u).1 0 [] (runLoad (arg r 0 1) (arg r 1 1) data u).2 t ∧
      ((runLoad (arg r 0 1) (arg r 1 1) data u).1 = stOk → data ≠ [] →
        t.cal.written = true ∧ t.cal.active = s.cal.active)) ∧
  (∀ (r : Req) (s : State), Issued r s → r.obj = 0#16 → r.mods = 0#16 → Shaped r [.u 4] → s.line.st ≠ .booted →
    s.cal.written = true → lineFlow s = false → ∃ t, exec (.calSwap r) s = .next t ∧ Waits 0x0504#16 r .swap t ∧
      t.cal = { s.cal with active := 1 - s.cal.active, written := false, copy := .release, swapping := false } ∧
      t.line = { s.line with epoch := s.line.epoch + 1#32 }) ∧
  (∀ (r : Req) (s : State), Issued r s → r.obj = 0#16 → r.mods = 1#16 → Shaped r [.u 4] → s.line.st ≠ .booted →
    s.cal.written = true → s.fw.deferred.length < 16 → ∃ t, exec (.calSwap r) s = .next t ∧
      Replied 0x0504#16 r stDeferred 0 [] { s with fw := { s.fw with deferred := s.fw.deferred ++
        [{ tag := r.tag, verb := 0x0504#16, obj := r.obj, act := .swap (arg r 0 4), acted := none }] } } t) ∧
  (∀ (r : Req) (s : State), Issued r s → r.obj = 0#16 → ModsWithin r 1 → Shaped r [.u 4] → s.line.st ≠ .booted →
    s.cal.written = false → ∃ t, exec (.calSwap r) s = .next t ∧ Replied 0x0504#16 r stState 0x0101 [] s t) ∧
  (∀ (r : Req) (s : State), Issued r s → Names r kSegment s → r.payload = [] → s.line.st ≠ .booted →
    (r.mods = 0#16 → ∃ t, exec (.calLanes r) s = .next t ∧ Replied 0x0505#16 r stOk 0
      ((List.range 4).flatMap fun x => [b8 (lane s (objIdx r.obj) x).tap, b8 (lane s (objIdx r.obj) x).boost] ++
        leInt 1 (lane s (objIdx r.obj) x).slicer ++ [b8 (roleCode (lane s (objIdx r.obj) x).role)]) s t) ∧
    (r.mods = 1#16 → (sport s (objIdx r.obj)).st ≠ .failed → ∃ t, exec (.calLanes r) s = .next t ∧
      Waits 0x0505#16 r (.lanes (objIdx r.obj)) t ∧
      t.ports = vmod s.ports (objIdx r.obj) (fun p => { p with recal := 4, retried := false })) ∧
    (r.mods = 2#16 → ∃ t, exec (.calLanes r) s = .next t ∧ Replied 0x0505#16 r stOk 0 []
      { s with ports := vmod s.ports (objIdx r.obj) (fun p => { p with frozen := true }) } t) ∧
    (r.mods = 3#16 → ∃ t, exec (.calLanes r) s = .next t ∧ Replied 0x0505#16 r stOk 0 []
      { s with ports := vmod s.ports (objIdx r.obj) (fun p => { p with frozen := false }) } t)) ∧
  (∀ (r : Req) (s : State) (d : Decl), Issued r s → Names r kSegment s → ModsWithin r 3 → Shaped r [.u 1] → s.line.st ≠ .booted →
    s.decl = some d → d.geometry.nativeOnly = false → -32 ≤ sAt r.payload 0 1 → sAt r.payload 0 1 ≤ 32 →
    ∃ t, exec (.calPlace r) s = .next t ∧
      (let place := vmod s.achr.place (objIdx r.obj) fun p => match bits r.mods.toNat 0 2 with
        | 1 => { p with frozen := true }
        | 2 => { p with frozen := false }
        | 3 => { p with pending := some (sAt r.payload 0 1) }
        | _ => p
       Replied 0x0506#16 r stOk 0 (leInt 1 (vget place (objIdx r.obj)).shift) { s with achr := { s.achr with place := place } } t))

/-- R329, R334, R335, R337, R340 to R344: a calibration whose tables are written ends: with fewer than 16 lines counted, or with a
gain beyond the range, no table has changed. A dark calibration of one segment replaces the dark field of each of its words. After the
formerly active bank is released, the loaded bank becomes a copy of the active one. The model's choices that bear on it: log
18, log 78. -/
def Obligations.CalibrationEnds : Prop :=
  (∀ (s : State) (d : Decl) (r : CalRun), s.decl = some d → s.cal.run = some r → r.step = .compute → fwRunning s = true →
    (r.counted < 16 ∨ r.white = true ∧ (gainFail s d r).isSome = true) → ∃ t, exec .calibrationTablesWritten s = .next t ∧
      t.cal = { s.cal with run := none } ∧ t.line.st = (if anyPortFailed s then .declared else .ready) ∧
      t.lamps = s.lamps ∧ t.ports = s.ports) ∧
  (∀ (s : State) (d : Decl) (r : CalRun) (x : CalSums), s.decl = some d → s.cal.run = some r → r.step = .compute →
    fwRunning s = true → 16 ≤ r.counted → r.white = false → r.swap = false → r.sums = [x] → x.short = false → x.seg < 24 →
    s.cal.active < 2 → ∃ t, exec .calibrationTablesWritten s = .next t ∧ t.cal.run = none ∧ t.cal.written = true ∧
      (let old := vget (vget s.cal.banks (1 - s.cal.active)).segs x.seg
       let new := vget (vget t.cal.banks (1 - s.cal.active)).segs x.seg
       new.main = some (((mainOf (d.segments.getD x.seg default).pixels old).zip x.sums).map fun p =>
         p.1 / 4096 * 4096 + unsignedOf 12 (darkEntry false r.counted p.2).1) ∧ new.short = old.short ∧ new.lin = old.lin ∧
         new.defects = old.defects) ∧
      vget t.cal.banks s.cal.active = vget s.cal.banks s.cal.active) ∧
  (∀ (s : State) (d : Decl) (r : CalRun), s.decl = some d → s.cal.run = some r → r.step = .compute → fwRunning s = true →
    16 ≤ r.counted → r.white = true → gainFail s d r = none → ∃ t, exec .calibrationTablesWritten s = .next t ∧
      t.cal.run = none ∧ t.store.summarySeq = (s.store.summarySeq + 1) % 2 ^ 32 ∧
      ∀ n, n < 16 → (str t n).markRetired = false ∧ (str t n).markRebalanced = false) ∧
  (∀ s : State, s.cal.copy = .release → fwRunning s = true → (∀ c ∈ s.caps, c.done = true ∨ c.bank = s.cal.active) →
    ∃ t, exec .bankRelease s = .next t ∧ t.cal = { s.cal with
      copy := if (askBank 6291456 s).1 then .copying s.localNs else .grant } ∧ t.line = s.line ∧ t.lamps = s.lamps) ∧
  (∀ (s : State) (t0 : Nat), s.cal.copy = .copying t0 → s.fw.busy = none → s.fw.deferred = [] → s.cal.run = none →
    ∃ t, exec .bankCopyEnd s = .next t ∧ Same (returnGrant .cal .bankLoad { s with cal := { s.cal with
      copy := .idle, banks := vset s.cal.banks (1 - s.cal.active) (vget s.cal.banks s.cal.active) } }) t)

/-! ### The Segment link (chapter 06) -/

/-- R224, R245, R251, R256 to R261, R270, R281, R286: a packet is put together from what the device lanes received. One of a
reserved type, or of a line not expected, is stale; a good packet of an expected line goes into its readout, and so does one that
only the COPY lane brought whole. A register reply completes the access with its TAG; a sequence without one is sent again, up to
three times, and then the port fails. A readout whose deadline passes with nothing received is MISSING. After 1,024 lines the
ports' counts are reported and begin afresh. The model's choices that bear on it: log 95. -/
def Obligations.SegmentReceives : Prop :=
  let broken (s : State) (n : Nat) (rx : List LaneRx) (j : Joined) : Prop :=
    j.whole = true ∨ (joinPacket s n true rx).filter Joined.whole = none
  let stale (n : Nat) (j : Joined) (s : State) : State := { s with ports := vmod s.ports n fun p => { p with
    rxSeq := seqAfter j p, counts := { p.counts with stale := p.counts.stale + 1 } } }
  (∀ (s : State) (n : Nat) (rx : List LaneRx) (j : Joined), rootClks s = true → n < 24 → (sport s n).st ≠ .off →
    joinPacket s n false rx = some j → broken s n rx j → uAt j.bytes 0 1 ≠ 1 → uAt j.bytes 0 1 ≠ 2 →
    ∃ t, exec (.dataPacketReceived n (rx.map (·.slot)) (rx.map (·.pos)) (rx.map (·.groups))) s = .next t ∧ Same (stale n j s) t) ∧
  (∀ (s : State) (n : Nat) (rx : List LaneRx) (j : Joined), rootClks s = true → n < 24 → (sport s n).st ≠ .off →
    joinPacket s n false rx = some j → broken s n rx j → uAt j.bytes 0 1 = 1 → (∀ x ∈ s.caps, expectsCap n j.bytes x = false) →
    ∃ t, exec (.dataPacketReceived n (rx.map (·.slot)) (rx.map (·.pos)) (rx.map (·.groups))) s = .next t ∧ Same (stale n j s) t) ∧
  (∀ (s : State) (n : Nat) (rx : List LaneRx) (j k : Joined) (x : Capture) (y : SegLine) (r : Readout) (onCopy : Bool),
    rootClks s = true → n < 24 → (sport s n).st ≠ .off → joinPacket s n false rx = some j →
    (if onCopy then j.whole = false ∧ joinPacket s n true rx = some k else k = j) → k.whole = true → uAt k.bytes 0 1 = 1 →
    s.caps = [x] → x.segs = [y] → y.readouts = [r] → expectsCap n k.bytes x = true → (sport s n).rxSeq = some (uAt k.bytes 12 2) →
    ∃ t, exec (.dataPacketReceived n (rx.map (·.slot)) (rx.map (·.pos)) (rx.map (·.groups))) s = .next t ∧
      Same { s with
        ports := vmod s.ports n fun p => { p with rxSeq := some ((uAt k.bytes 12 2 + 1) % 65536) }
        caps := [{ x with segs := [{ y with
          readouts := [takePacket (segPixels s n) k.bytes false onCopy s.localNs r] }] }] } t) ∧
  (∀ (s : State) (n : Nat) (rx : List LaneRx) (j : Joined) (o : RegOut), rootClks s = true → n < 24 → (sport s n).st ≠ .off →
    joinPacket s n false rx = some j → j.whole = true → j.bytes.length = 42 → uAt j.bytes 0 1 = 2 → o.acc.write = true →
    o.acc.use ≠ .shape → (sport s n).bring = .none → (sport s n).regQ = [] →
    ((sport s n).regOut.find? fun o => o.tag == uAt j.bytes 24 1) = some o → lineFlow s = true → s.fw.deferred = [] →
    s.fw.busy = none → s.lampLink.stage = none → ∃ t, exec (.registerReplyReceived n rx) s = .next t ∧
      Same { s with ports := vmod s.ports n fun p => noteWrite o.acc { p with
        rxSeq := some ((uAt j.bytes 12 2 + 1) % 65536), regOut := p.regOut.filter fun x => x.tag != o.tag } } t) ∧
  (∀ (s : State) (n : Nat) (o : RegOut), rootClks s = true → n < 24 →
    ((sport s n).regOut.find? fun o => decide (o.sentAt + 100000 ≤ s.localNs)) = some o → o.tries < 4 →
    ∃ t, exec (.registerSequenceTimeout n) s = .next t ∧
      (let body := [b8 (if o.acc.write then 1 else 2), b8 o.tag] ++ leBytes 2 o.acc.addr ++ leBytes 4 o.acc.data
       Same { s with ports := vmod s.ports n fun p => { p with
         regOut := p.regOut.map fun x => if x.tag = o.tag then { x with tries := x.tries + 1, sentAt := s.localNs } else x
         tx := { p.tx with seqs := p.tx.seqs ++ [symReg :: (body ++ leBytes 2 (crc16 body)).map symData ++ [symEnd]] } } } t)) ∧
  (∀ (s : State) (n : Nat) (o : RegOut), rootClks s = true → n < 24 →
    ((sport s n).regOut.find? fun o => decide (o.sentAt + 100000 ≤ s.localNs)) = some o → 4 ≤ o.tries →
    ∃ t, exec (.registerSequenceTimeout n) s = .next t ∧ (sport t n).st = .failed ∧
      (inRun s = false → (sport t n).regOut = [])) ∧
  (∀ (s : State) (d : Decl) (x : Capture) (y : SegLine) (r : Readout), rootClks s = true → s.decl = some d → d.system.scan = false →
    s.caps = [x] → x.segs = [y] → y.readouts = [r] → x.cal = false → x.done = false → y.seg < 24 → r.cls = none → r.any = false →
    r.deadline ≤ s.localNs → s.line.settling = false → s.fw.busy = none → s.prism.heldArm = none →
    ∃ t, exec .readoutDeadline s = .next t ∧ Same { s with
      ports := vmod s.ports y.seg fun p => { p with counts := { p.counts with missing := p.counts.missing + 1 } }
      caps := [{ x with gap := 2, done := true, segs := [{ y with readouts := [{ r with cls := some .missing, px := [] }] }] }] } t) ∧
  (∀ s : State, s.line.winLines < 1024 → ∃ t, exec .integrityWindowEnd s = .next t ∧ Same s t) ∧
  (∀ s : State, 1024 ≤ s.line.winLines → ∃ t, exec .integrityWindowEnd s = .next t ∧ t.line.winLines = 0 ∧ t.line.overruns = 0 ∧
    (∀ n, n < 24 → n < (dSegments s).length → (sport t n).counts = {}) ∧ t.line.st = s.line.st ∧ t.caps = s.caps)

/-- R239, R244, R262 to R279: the lanes. TAP moves one step when one side leads by more than 64. The checker's lock on the bits
received begins a lane's phase sweep, and each window that ends, with the bit errors counted in it, carries training on. A
rotation step copies the lane trained longest ago on the spare, and takes it over when the copies agree over 64 packets or
17,280 code groups. A lost data lane's stripe goes to the spare, and a port all of whose lanes in use are lost within one
window fails. The first aligned SOPs let firmware read the identity, and 10 ms after RUN the port is up. -/
def Obligations.LanesAreKept : Prop :=
  let put (n x : Nat) (f : Lane → Lane) (s : State) : State :=
    { s with ports := vmod s.ports n fun p => { p with lanes := vmod p.lanes x f } }
  let errors (s : State) (n x : Nat) (rx : PrbsRx) : Nat := prbsErrors rx.reg (prbsRx s n x rx.bits)
  let told (n : Nat) (t : State) : Prop := ∃ q ∈ (sport t n).tx.seqs, q.head? = some symLane
  (∀ (s : State) (n x early late : Nat), n < 24 → x < 4 → (sport s n).track = true → (sport s n).frozen = false →
    (lane s n x).role ≠ .training → (sport s n).st ≠ .off → rootClks s = true →
    ∃ t, exec (.phaseTrackWindow n x early late) s = .next t ∧ Same (put n x (fun l => { l with tap :=
      if late + 64 < early then (l.tap + 63) % 64 else if early + 64 < late then (l.tap + 1) % 64 else l.tap }) s) t) ∧
  (∀ (s : State) (n x w : Nat) (bits : List Bool), (lane s n x).train = some (.lock w) → rootClks s = true →
    (sport s n).st ≠ .off → prbsLocks (prbsRx s n x bits) = true → ∃ t, exec (.prbsLock n ⟨x, bits⟩) s = .next t ∧
    Same (put n x (fun l => { l with train := some (.sweep false l.tap []) }) s) t) ∧
  (∀ (s : State) (n x : Nat) (rx : PrbsRx) (tr : TrainStep), n < 24 → x < 4 → (lane s n x).train = some tr → rootClks s = true →
    (sport s n).st ≠ .off →
    (trainWindow (if (sport s n).bring = .train then 34 else 2) (errors s n x rx) (lane s n x)).train ≠ none →
    ∃ t, exec (.trainingWindow n x rx) s = .next t ∧
      Same (put n x (trainWindow (if (sport s n).bring = .train then 34 else 2) (errors s n x rx)) s) t) ∧
  (∀ (s : State) (n x : Nat) (rx : PrbsRx) (tr : TrainStep), n < 24 → x < 4 → (lane s n x).train = some tr → rootClks s = true →
    portUp (sport s n) = true → (sport s n).bring = .none → (sport s n).recal = 0 →
    (trainWindow 2 (errors s n x rx) (lane s n x)).train = none → ∃ t, exec (.trainingWindow n x rx) s = .next t ∧
      (if (trainWindow 2 (errors s n x rx) (lane s n x)).passed then (sport t n).st = .up ∧ (lane t n x).role = .spare
       else (sport t n).st = .degraded) ∧ (sport t n).rot = .idle ∧ (sport t n).rotEnded = s.localNs) ∧
  (∀ (s : State) (n a b : Nat), n < 24 → a < 4 → b < 4 → a ≠ b → (sport s n).frozen = false → (sport s n).st = .up →
    (sport s n).rot = .idle → rootClks s = true → spareLane (sport s n) = some a → oldestData (sport s n) = some b →
    (0 < (sport s n).recal ∨ s.cal.par.rotateMs ≠ 0 ∧ (sport s n).rotEnded + s.cal.par.rotateMs * 1000000 ≤ s.localNs) →
    ∃ t, exec (.rotateInterval n) s = .next t ∧ (sport t n).rot = .comparing a b ∧ (lane t n a).role = .copy ∧
      (lane t n a).stripe = (lane s n b).stripe ∧ (lane t n b) = (lane s n b) ∧ told n t) ∧
  (∀ (s : State) (n a b : Nat), n < 24 → a < 4 → b < 4 → a ≠ b → (sport s n).rot = .comparing a b →
    rootClks s = true → (lane s n a).aligned = true → ∀ packets groups differ bad : Nat,
    ((64 ≤ packets ∨ packets = 0 ∧ 17280 ≤ groups) → differ = 0 → bad = 0 →
      ∃ t, exec (.copyCompareEnd n ⟨packets, groups, differ, bad⟩) s = .next t ∧ (sport t n).rot = .training b ∧
      (lane t n a).role = .data ∧ (lane t n a).stripe = (lane s n b).stripe ∧ (lane t n b).role = .training ∧ told n t) ∧
    (differ ≠ 0 ∨ bad ≠ 0 → ∃ t, exec (.copyCompareEnd n ⟨packets, groups, differ, bad⟩) s = .next t ∧
      (sport t n).rot = .training a ∧ (lane t n a).role = .training ∧ (lane t n b) = (lane s n b) ∧ told n t)) ∧
  (∀ (s : State) (n x y : Nat) (rx : List LaneWatch), n < 24 → x < 4 → y < 4 → x ≠ y → rolesHeld (sport s n) = true →
    rootClks s = true → (lane s n x).role = .data → spareLane (sport s n) = some y → (sport s n).rot = .idle →
    (∃ z, z < 4 ∧ z ≠ x ∧ ((lane s n z).role = .data ∨ (lane s n z).role = .copy)) →
    (∀ z, z < 4 → (laneIsLost s n z (rx.getD z default) = true ↔ z = x)) →
    ∃ t, exec (.laneLost n rx) s = .next t ∧ (lane t n y).role = .data ∧ (lane t n y).stripe = (lane s n x).stripe ∧
      (lane t n x).role = .training ∧ (sport t n).st = (sport s n).st ∧ (sport t n).rot = .training x) ∧
  (∀ (s : State) (n : Nat) (rx : List LaneWatch), n < 24 → rolesHeld (sport s n) = true → rootClks s = true →
    (sport s n).retried = true → (∀ z, z < 4 → ((lane s n z).role = .data ∨ (lane s n z).role = .copy) →
      laneIsLost s n z (rx.getD z default) = true) →
    ∃ t, exec (.laneLost n rx) s = .next t ∧ (sport t n).st = .failed) ∧
  (∀ (s : State) (n : Nat) (slots : List (Option Nat)), n < 24 → rootClks s = true → (sport s n).st ≠ .off →
    (sport s n).bring = .align → fwRunning s = true →
    (∀ x, x < 4 → (lane s n x).role = .data → (lane s n x).aligned = true ∨ sopTogether (sport s n) slots x = true) →
    ∃ t, exec (.sopAligned ⟨n, slots⟩) s = .next t ∧ (sport t n).bring = .identify ∧ (sport t n).st = (sport s n).st ∧
      (∀ x, x < 4 → (lane s n x).role = .data → (lane t n x).aligned = true) ∧ t.line = s.line ∧ t.lamps = s.lamps) ∧
  (∀ (s : State) (n t0 : Nat), n < 24 → (sport s n).bring = .settle t0 → t0 + 10000000 ≤ s.localNs → fwRunning s = true →
    ∃ t, exec (.digitizerRunSettle n) s = .next t ∧ (sport t n).bring = .none ∧ (sport t n).rotEnded = s.localNs ∧
      (sport t n).st = if (spareLane (sport s n)).isSome then .up else .degraded)

/-! ### Forming, delivery, the seam and Loupe (chapters 07 to 09) -/

/-- R369, R371, R396, R401, R406 to R408, R410, R418, R421, R423, R445: ACHROMAT_FORM_LINE writes the next output line to its slot,
or fixes it as a gap when a capture it needs is missing. LINE_DELIVERY writes the finished line, with its header, to the buffer at
the descriptor's address, and the completion to the second half of the descriptor in its ring. GAP_RECORD_FLUSH closes the open
record, and completes a buffer of gap records. PACE_WINDOW_END moves the drain estimate by an eighth, and at high occupancy the speed index by one.
HOST_STALL_TIMEOUT marks the ring that has held data with no descriptor. The model's choices that bear on it: log 60, log
67, log 76, log 80. -/
def Obligations.LinesAreDelivered : Prop :=
  let written (s t : State) (k : Nat) (e : Desc) (status info : Nat) (data : List Byte) : Prop :=
    Out.hostWrite (descAddr (ring s k) (ring s k).head.toNat + 0x10)
      (doneHalf data.length info status (lapOf (ring s k) (ring s k).head.toNat)) ∈ t.outbox ∧
    (data ≠ [] → Out.hostWrite e.addr data ∈ t.outbox) ∧ (ring t k).head = (ring s k).head + 1#16
  (∀ s : State, dpClk s = false → ∃ t, exec .achromatFormLine s = .next t ∧ Same s t) ∧
  (∀ (s : State) (d : Decl) (r : List ((Nat × Nat) × ChanRead)), s.decl = some d → dpClk s = true →
    d.system.scan = false → s.fw.deferred = [] → s.fw.busy = none → s.prism.heldArm = none → s.deliv.seam.phase = .off →
    formable d (storeCaptures d s) = some r → ∃ t, exec .achromatFormLine s = .next t ∧ t.achr.next = s.achr.next + 1 ∧
      (readsGap r = true → t.line.gaps = (s.line.gaps + 1) % 2 ^ 32 ∧ ∀ x ∈ t.deliv.slots, x.n ≠ s.achr.next) ∧
      (readsGap r = false → t.line.gaps = s.line.gaps ∧ (s.deliv.streams ≠ [] →
        ∃ x ∈ t.deliv.slots, x.n = s.achr.next ∧ x.st = .filled ∧ x.owed = s.deliv.streams ∧ x.line.isSome = true)) ∧
      t.ports = s.ports ∧ t.motion = s.motion ∧ t.store = s.store) ∧
  (∀ (s : State) (k : Nat) (e : Desc) (x : Slot) (l : OutLine), k < 16 → rootClks s = true → s.power.present ≠ .doze →
    hostReach s = true → ringTurn s k = true → ringStream (ring s k) = 1 → nextLine s 1 = some (x, l) → x.owed = [1] →
    ∃ t, exec (.lineDelivery k e) s = .next t ∧ t.line.lastDelivered = some x.num ∧ t.deliv.turn = k ∧
      written s t k e (if e.len < (lineBuffer 1 x.num l).length then 1 else 0) x.num ((lineBuffer 1 x.num l).take e.len)) ∧
  (∀ (s : State) (k : Nat) (e : Desc) (m : MirrorRec) (ms : List MirrorRec), k < 16 → rootClks s = true → s.power.present ≠ .doze →
    hostReach s = true → ringTurn s k = true → ringStream (ring s k) = 7 → s.achr.mirror.buf = m :: ms →
    ∃ t, exec (.lineDelivery k e) s = .next t ∧ t.achr.mirror.buf = ms ∧ t.achr.mirror.dropped = 0 ∧
      written s t k e (if e.len < (mirrorRecBytes s.achr.mirror.dropped m).length then 1 else 0) m.line
        ((mirrorRecBytes s.achr.mirror.dropped m).take e.len)) ∧
  (∀ (s : State) (k : Nat) (e : Desc) (g : GapRec), k < 16 → rootClks s = true → s.power.present ≠ .doze →
    hostReach s = true → ringTurn s k = true → ringStream (ring s k) = 5 → closedGaps s.deliv = [g] → s.deliv.gapOpen = none →
    s.deliv.gapBuf = none → 64 ≤ e.len → ∃ t, exec (.lineDelivery k e) s = .next t ∧ Same { s with deliv := { s.deliv with
      gapLog := [], turn := k
      gapBuf := some { ring := k, desc := e, bytes := gapBytes g, count := 1, since := s.localNs } } } t) ∧
  (∀ (s : State) (t0 : Nat), s.deliv.gapOpen = some t0 → t0 + s.deliv.par.flushMs * 1000000 ≤ s.localNs → s.deliv.gapBuf = none →
    s.deliv.loupeBuf = none → ∃ t, exec .gapRecordFlush s = .next t ∧
    Same { s with deliv := { s.deliv with gapOpen := none } } t) ∧
  (∀ (s : State) (b : FillBuf), s.deliv.gapOpen = none → s.deliv.gapBuf = some b → s.deliv.loupeBuf = none → 0 < b.count →
    b.ring < 16 → b.since + s.deliv.par.flushMs * 1000000 ≤ s.localNs → ∃ t, exec .gapRecordFlush s = .next t ∧
    t.deliv = { s.deliv with gapBuf := none } ∧ written s t b.ring b.desc 0 b.count b.bytes ∧ t.line = s.line) ∧
  (∀ (s : State) (d : Decl), s.decl = some d → s.deliv.window + s.deliv.par.windowMs * 1000000 ≤ s.localNs → rootClks s = true →
    d.system.scan = false → s.deliv.seam.phase = .off → ∃ t, exec .paceWindowEnd s = .next t ∧
    Same { s with deliv := { s.deliv with
      drain := s.deliv.drain + (hostRate s.deliv - s.deliv.drain) / 8, posted := [0, 0, 0, 0], window := s.localNs } } t) ∧
  (∀ (s : State) (d : Decl), s.decl = some d → s.deliv.window + s.deliv.par.windowMs * 1000000 ≤ s.localNs → rootClks s = true →
    d.system.scan = true → s.deliv.seam.phase = .off → s.line.st = .capturing → s.line.admitting = true → s.line.drain = .none →
    s.deliv.par.fixed = false → fwRunning s = true → 0 < s.line.speed →
    s.deliv.par.highPm * slotLimit d ≤ occupancy s * 1000 →
    ∃ t, exec .paceWindowEnd s = .next t ∧ t.line.speed = s.line.speed - 1 ∧ t.line.st = .capturing) ∧
  (∀ (s : State) (k : Nat), k < 16 → ((List.range 16).find? fun j => stallDue s j) = some k →
    ∃ t, exec .hostStallTimeout s = .next t ∧ (ring t k).stallReported = true ∧ (∀ j, j ≠ k → ring t j = ring s j) ∧
      t.line = s.line ∧ t.deliv = s.deliv)

/-- R401, R431 to R439: the seam keeper. At standstill the resume point is fixed, the slots still claimed are released, and the
backup begins with its dwell; under LINE.STOP with SEAM the run ends with the resume point held. The dwells lead to the
move, and to the wait for the host. When the slots have drained, the axis starts forward under its grant and lines are
admitted again. The join check, once made, ends the seam. The model's choices that bear on it: log 57, log 58. -/
def Obligations.SeamKeeperSteps : Prop :=
  let seam (f : SeamU → SeamU) (s : State) : State := { s with deliv := { s.deliv with seam := f s.deliv.seam } }
  (∀ (s : State) (d : Decl) (j : Nat), s.decl = some d → s.deliv.seam.phase = .ramp → feedStill s = true → drained s = true →
    s.line.st = .seam → s.line.drain = .none → fwRunning s = true → s.fw.busy = none → s.cal.swapping = false →
    s.achr.mirror.next = none → s.prism.heldArm = none →
    chooseJoin d { fixResume s with line := { (fixResume s).line with admitting := false } } = some j →
    ∃ t, exec .seamStandstill s = .next t ∧ t.deliv.seam.phase = .dwellBack (dirFrom s d.system.feedAxis) ∧ t.deliv.seam.j = j ∧
      t.deliv.seam.nr = max s.achr.next s.deliv.seam.nr ∧ t.line.admitting = false ∧ t.line.st = .seam ∧
      ∀ x ∈ t.deliv.slots, x.st ≠ .claimed) ∧
  (∀ (s : State) (v : Half), s.deliv.seam.phase = .ramp → feedStill s = true → drained s = true → s.line.st = .seam →
    s.line.drain = .stopSeam v → s.prism.heldArm = none → (∀ b, s.fw.busy = some b → Busy.isStopSeam b.2 = true) →
    s.fw.urgBusy = none → ∃ t, exec .seamStandstill s = .next t ∧ t.deliv.seam.phase = .off ∧
      t.line.resume = some (max s.achr.next s.deliv.seam.nr) ∧ t.line.admitting = false ∧ t.fw.busy = none) ∧
  (∀ s : State, feedStill s = false → ∃ t, exec .seamStandstill s = .next t ∧ Same s t) ∧
  (∀ (s : State) (t0 : Nat), s.deliv.seam.phase = .dwellFwd t0 → dwellOver s t0 = true →
    ∃ t, exec .seamDwellEnd s = .next t ∧ Same (seam (fun m => { m with phase := .wait }) s) t) ∧
  (∀ (s : State) (t0 a : Nat), s.deliv.seam.phase = .dwellBack t0 → dwellOver s t0 = true → feedAxis? s = some a →
    s.deliv.seam.xBack ≠ (ax s a).pos → (askAccel a [a] s).1 = true → ∃ t, exec .seamDwellEnd s = .next t ∧
      t.deliv.seam.phase = .back ∧ t.deliv.seam.travel = s.deliv.seam.travel + (s.deliv.seam.xBack - (ax s a).pos).natAbs) ∧
  (∀ (s : State) (a : Nat), s.deliv.seam.phase = .back → feedAxis? s = some a → axStill s a = true → (drv s a).queue = [] →
    (ax s a).pos = s.deliv.seam.xBack → ∃ t, exec .seamBackupReached s = .next t ∧
    Same (seam (fun m => { m with phase := .dwellFwd (dirFrom s a) }) (setDir a true s)) t) ∧
  (∀ (s : State) (d : Decl), s.decl = some d → d.system.scan = true → d.system.feedAxis < 4 → s.deliv.seam.phase = .wait →
    fwRunning s = true → occupancy s * 1000 ≤ s.deliv.par.resumePm * slotLimit d → pendingReconf s = none →
    ∃ t, exec .seamHostWaitEnd s = .next t ∧
      (if (askAccel d.system.feedAxis [d.system.feedAxis] s).1 then t.deliv.seam.phase = .fwd ∧ t.line.admitting = true ∧
         t.line.speed = 0 ∧ (drv t d.system.feedAxis).feed = some (feedSpeed s 0) ∧
         t.achr.next = s.deliv.seam.nr - s.deliv.seam.j
       else t.deliv.seam.phase = .askFwd ∧ t.line = s.line)) ∧
  (∀ (s : State) (d : Decl), s.decl = some d → s.deliv.seam.phase = .join → s.deliv.seam.nr ≤ s.achr.next → fwRunning s = true →
    s.line.settling = false → s.prism.heldArm = none → (∀ b, s.fw.busy = some b → b.2 ≠ .arm) →
    ∃ t, exec .seamJoinCheck s = .next t ∧ t.deliv.seam.phase = .off ∧ t.deliv.seam.mark = true ∧
      t.deliv.seam.reported = true ∧ t.line = { s.line with
        seams := if s.deliv.seam.reported then s.line.seams else (s.line.seams + 1) % 2 ^ 32 } ∧ t.motion = s.motion)

/-- R190, R454 to R459, R462, R465, R474, R477, R826: the LOUPE verbs set the stripes, the bins, the anomaly search and the alarms, at once with
no stripe open, and else when the open stripe ends. A search newly begun begins its baseline with the next stripe. A stripe whose
every position is present is finalised, and its settings then apply; firmware's results follow, oldest stripe first. The model's
choices that bear on it: log 68, log 81. -/
def Obligations.LoupeWorks : Prop :=
  (∀ (r : Req) (s : State), Issued r s → r.obj = 0#16 → r.mods = 0#16 → s.line.st ≠ .booted → s.loupe.cur = none →
    (Shaped r [.u 4, .u 4, .u 1, .u 1] → 16 ≤ arg r 0 4 → arg r 0 4 ≤ 65536 → 1 ≤ arg r 8 1 → arg r 8 1 ≤ 64 →
      1 ≤ arg r 9 1 → arg r 9 1 ≤ 64 → arg r 0 4 * arg r 9 1 ≤ 524288 → ∃ t, exec (.loupeStripe r) s = .next t ∧
      Replied 0x0B01#16 r stOk 0 [] { s with loupe := { s.loupe with
        lines := arg r 0 4, nextNumber := arg r 4 4, colBin := arg r 8 1, zones := arg r 9 1 } } t) ∧
    (Shaped r (Fd.u 1 :: List.replicate (arg r 0 1) (Fd.u 4)) → arg r 0 1 ≤ 32 →
      (∀ i, i < arg r 0 1 → 1 ≤ arg r (4 + 4 * i) 4 ∧ arg r (4 + 4 * i) 4 ≤ 2147483647) →
      ∃ t, exec (.loupeBands r) s = .next t ∧ Replied 0x0B02#16 r stOk 0 [] { s with loupe := { s.loupe with
        freq := (List.range (arg r 0 1)).map fun i => arg r (4 + 4 * i) 4 } } t) ∧
    (Shaped r [.u 1, .u 1, .u 1, .u 1, .u 2, .u 2] → arg r 0 1 < 4 → arg r 3 1 < 8 → arg r 1 1 ≤ 8 → 1 ≤ arg r 2 1 →
      arg r 2 1 ≤ 32 → 1 ≤ arg r 4 2 → arg r 6 2 ≤ 1024 → (bit (arg r 0 1) 0 = true → arg r 3 1 ≠ 0) →
      ∃ t, exec (.loupeAnomaly r) s = .next t ∧ Replied 0x0B03#16 r stOk 0 [] { s with loupe := { s.loupe with
        anomaly := { on := bit (arg r 0 1) 0, frozen := bit (arg r 0 1) 1, baseLog2 := arg r 1 1, window := arg r 2 1,
                     colours := arg r 3 1, thresh := arg r 4 2, maxList := arg r 6 2 }
        baseReset := s.loupe.baseReset || (bit (arg r 0 1) 0 && !s.loupe.anomaly.on) } } t) ∧
    (let l := (List.range (arg r 0 1)).map fun i => ({ kind := arg r (4 + 8 * i) 1, colour := arg r (5 + 8 * i) 1
                                                       index := arg r (6 + 8 * i) 2, level := arg r (8 + 8 * i) 4 } : LAlarm)
     Shaped r ([Fd.u 1, .r 1, .r 1, .r 1] ++ (List.range (arg r 0 1)).flatMap fun _ => [Fd.u 1, .u 1, .u 2, .u 4]) →
      arg r 0 1 ≤ 16 → (∀ a ∈ l, alarmOk a = true) → ∃ t, exec (.loupeAlarm r) s = .next t ∧
      Replied 0x0B04#16 r stOk 0 [] { s with loupe := { s.loupe with alarms := l } } t)) ∧
  (∀ (r : Req) (s : State), Issued r s → r.obj = 0#16 → r.mods = 0#16 → s.line.st ≠ .booted → s.loupe.cur.isSome = true →
    Shaped r [.u 4, .u 4, .u 1, .u 1] → 16 ≤ arg r 0 4 → arg r 0 4 ≤ 65536 → 1 ≤ arg r 8 1 → arg r 8 1 ≤ 64 →
    1 ≤ arg r 9 1 → arg r 9 1 ≤ 64 → arg r 0 4 * arg r 9 1 ≤ 524288 → ∃ t, exec (.loupeStripe r) s = .next t ∧
    Waits 0x0B01#16 r .loupe t ∧ t.loupe = { s.loupe with pendingSet := s.loupe.pendingSet ++
      [.stripe (arg r 0 4) (arg r 4 4) (arg r 8 1) (arg r 9 1)] }) ∧
  (∀ (s : State) (p : Stripe), s.loupe.cur = some p → stripeFull p = false → ∃ t, exec .stripeFinalise s = .next t ∧ Same s t) ∧
  (∀ (s : State) (p : Stripe), s.loupe.cur = some p → stripeFull p = true → ∃ t, exec .stripeFinalise s = .next t ∧
    t.loupe.cur = none ∧ t.loupe.pendingSet = [] ∧ t.loupe.finalised = s.loupe.finalised ++
      [{ p with isPartial := false, bands := bandResults p }] ∧ t.line = s.line ∧ t.deliv = s.deliv) ∧
  (∀ (s : State) (p : Stripe) (ps : List Stripe), s.loupe.finalised = p :: ps → fwRunning s = true →
    ∃ t, exec .loupeFirmwareResults s = .next t ∧ t.loupe.finalised = ps ∧ t.loupe.cur = s.loupe.cur ∧ t.line = s.line ∧
      t.deliv = s.deliv ∧ ∃ q ∈ t.loupe.packets, q.kind = 1 ∧ q.stripe = p.number)

/-! ### The lamps (chapter 10) -/

/-- R187, R481, R488, R489, R513 to R518: the LAMP verbs on a string. LAMP.SET starts an OFF or SAFE string under a grant, and is
refused without it; a lower level needs none; a string in FAULT refuses it. LAMP.OFF turns the stage off and clears the faults. LAMP.DUTY
sets the duties and clears the trims. LAMP.TEST begins in READY with the string OFF, its first point to take effect at a line mark, and refuses
a point above the ceiling. LAMP.RECOVER enters RECOVERY, or leaves it. LAMP.STATUS answers 8 bytes for each string. The model's
choices that bear on it: log 9, log 99. -/
def Obligations.LampVerbs : Prop :=
  (∀ (r : Req) (s : State) (n : Nat) (d : DString), Issued r s → Names r kString s → n = objIdx r.obj → ModsWithin r 1 →
    Shaped r [.u 2] → s.line.st ≠ .booted → s.line.st ≠ .calibrating → inRun s = false → 1 ≤ arg r 0 2 → arg r 0 2 ≤ 10000 →
    s.lampLink.st = .up → dString? s n = some d →
    ((str s n).st = .off ∨ (str s n).st = .safe →
      (let g := (askRise n d (min (iSetOf d (arg r 0 2)) (ceilingMa s n d)) s).1
       (g = true → ∃ t, exec (.lampSet r) s = .next t ∧ Waits 0x0601#16 r (.lampSet [n]) t ∧ (str t n).st = .starting ∧
         (str t n).level = arg r 0 2 ∧ (str t n).loop = bit r.mods.toNat 0 ∧ (str t n).target = 0 ∧ (str t n).safed = false ∧
         t.line = s.line ∧ t.motion = s.motion ∧ t.ports = s.ports) ∧
       (g = false → ∃ t u, exec (.lampSet r) s = .next t ∧ Replied 0x0601#16 r stNoGrant 0 [] u t ∧ (str u n).st = (str s n).st ∧
         (str u n).level = (str s n).level ∧ u.line = s.line))) ∧
    ((str s n).st = .on → s.cal.run = none →
      (senseCode d.senseUohm (min (iSetOf d (arg r 0 2)) (ceilingMa s n d)) : Rat) < (str s n).target →
      ∃ t, exec (.lampSet r) s = .next t ∧ Waits 0x0601#16 r (.lampSet [n]) t ∧ (str t n).st = .starting ∧
        (str t n).level = arg r 0 2 ∧ (str t n).target = (str s n).target ∧ t.grants = s.grants ∧ t.line = s.line) ∧
    ((str s n).st = .fault → ∃ t, exec (.lampSet r) s = .next t ∧ Replied 0x0601#16 r stState 0x0101 [] (refreshLamps s) t)) ∧
  (∀ (r : Req) (s : State) (n : Nat), Serves r.chan s → Names r kString s → n = objIdx r.obj → r.mods = 0#16 → r.payload = [] →
    s.line.st ≠ .booted → ∃ t u, exec (.lampOff r) s = .next t ∧ Replied 0x0602#16 r stOk 0 [] u t ∧ (str u n).st = .off ∧
      (str u n).flags = 0 ∧ (str u n).causeOpen = false ∧ (str u n).safed = false ∧ (str u n).gh = false ∧ (str u n).gl = false ∧
      (str u n).target = 0 ∧ (str u n).test = none ∧ (∀ m, m ≠ n → str u m = str s m) ∧ u.motion = s.motion ∧ u.decl = s.decl) ∧
  (∀ (r : Req) (s : State) (n : Nat) (d : DString), Issued r s → Names r kString s → n = objIdx r.obj → r.mods = 0#16 →
    dString? s n = some d → d.lamps ≤ 24 → r.payload.length = 2 * d.lamps → s.line.st ≠ .booted → s.line.st ≠ .calibrating →
    (∀ j, j < d.lamps → arg r (2 * j) 2 < 4096 ∧ arg r (2 * j) 2 ≤ dutyCeiling s n) →
    ∃ t, exec (.lampDuty r) s = .next t ∧ Waits 0x0603#16 r (.lampDuty n) t ∧
      (∀ j, j < d.lamps → (vget (str t n).lamps j).duty = arg r (2 * j) 2 ∧ (vget (str t n).lamps j).trim = 0) ∧
      (str t n).st = (str s n).st ∧ (str t n).level = (str s n).level ∧ t.line = s.line) ∧
  (∀ (r : Req) (s : State) (n : Nat) (d : DString), Issued r s → Names r kString s → n = objIdx r.obj → r.mods = 0#16 →
    dString? s n = some d → 1 ≤ arg r 0 1 → arg r 0 1 ≤ 16 → r.payload.length = 2 + 2 * arg r 0 1 → arg r 1 1 = 0 →
    s.line.st = .ready → (str s n).st = .off →
    (let pts := (List.range (arg r 0 1)).map fun i => arg r (2 + 2 * i) 2
     ((∀ p ∈ pts, p ≤ ceilingMa s n d) → (askRise n d (pts.foldl max 0) s).1 = true →
      ∃ t, exec (.lampTest r) s = .next t ∧ Waits 0x0604#16 r (.lampTest n) t ∧
        (str t n).test = some { points := pts, measured := [], since := none } ∧ (str t n).target = (str s n).target ∧
        (str t n).st = .off ∧ t.line = s.line) ∧
     ((∃ p ∈ pts, ceilingMa s n d < p) → ∃ t, exec (.lampTest r) s = .next t ∧ Replied 0x0604#16 r stLimit 0 [] s t))) ∧
  (∀ (r : Req) (s : State) (n : Nat) (d : DString), Issued r s → Names r kString s → n = objIdx r.obj → r.payload = [] →
    dString? s n = some d → s.line.st ≠ .booted → s.line.st ≠ .calibrating →
    (r.mods = 0#16 → (str s n).st = .on ∨ (str s n).st = .starting → ∃ t u, exec (.lampRecover r) s = .next t ∧ Replied 0x0605#16 r stOk 0 [] u t ∧
      (str u n).st = .recovery ∧ (str u n).target ≤ (senseCode d.senseUohm (recoverMa s n d) : Rat) ∧ u.line = s.line) ∧
    (r.mods = 1#16 → (str s n).st = .recovery → s.lampLink.st = .up →
      (askRise n d (min (iSetOf d (str s n).level) (ceilingMa s n d)) s).1 = true →
      ∃ t, exec (.lampRecover r) s = .next t ∧ Waits 0x0605#16 r (.lampRecover n true) t ∧ (str t n).st = .starting ∧
        t.line = s.line)) ∧
  (∀ (r : Req) (s : State), Serves r.chan s → (Names r kString s ∨ Names r kDevice s) → r.mods = 0#16 → r.payload = [] →
    s.line.st ≠ .booted → ∃ t, exec (.lampStatus r) s = .next t ∧ Replied 0x0606#16 r stOk 0
      ((if objKind r.obj = kString then [objIdx r.obj] else (dStrings s).map Prod.fst).flatMap (strStatus s)) s t)

/-- R482 to R485, R493, R509, R517 to R520, R587: the strings' own events. A switching period of string n begins 30 n cycles and a whole
number of periods after the line mark, runs at the threshold of the lamps reckoned lit, and is cut at the trip or at 432 cycles; it
blanks the sensor of its string. A fault stops the stage and sets its flag; an open lamp's switch is held closed; a shorted lamp takes a string
to RECOVERY, and one in RECOVERY or in a V-I test to FAULT. A test point is measured, and the next waits for a line mark, or the
test ends. Nothing happens to a string that is not switching. An idle mark, 1 ms after the last mark, ends every period, and MARK is
to be sent at the next bit boundary. The model's choices that bear on it: log 48. -/
def Obligations.LampEvents : Prop :=
  (∀ (s : State) (n k cycle : Nat) (trips : Bool) (d : DString), n < 16 → dString? s n = some d → switching (str s n) = true →
    s.limit.limitLock = true → rootClks s = true → seqStart s n ≤ 2 * s.localNs → k = (2 * s.localNs - seqStart s n) / 2000 →
    (str s n).periodNo ≠ some k → ∃ t, exec (.switchingPeriod n trips cycle) s = .next t ∧
      (str t n).periodAt = some (2 * s.lampLink.lastMark + 125 * n + 2000 * k) ∧ (str t n).periodNo = some k ∧
      (str t n).periodThr = periodThreshold s n d (litIn s n ((1000 * (k + 1) : Nat) + (125 * n : Nat) / 2)) ∧
      (str t n).periodOff = (if trips = true ∧ 48 ≤ cycle ∧ cycle < 432 then cycle else 432) ∧
      ((str t n).gh, (str t n).gl) = gatesAt (str t n) s.localNs ∧ (∀ m, m ≠ n → str t m = str s m) ∧
      (∀ th, s.therm.slot = some d.sensor → dThermal? s d.sensor = some th → th.role = 1 →
        (seqStart s n + 2000 * k) / 2 ∈ t.therm.points) ∧ t.line = s.line ∧ t.motion = s.motion) ∧
  (∀ (s : State) (n : Nat) (l : List Nat), switching (str s n) = false →
    (∃ t, exec (.overcurrentFault n) s = .next t ∧ Same s t) ∧ (∃ t, exec (.outputShortFault n) s = .next t ∧ Same s t) ∧
    (∃ t, exec (.regulationFault n) s = .next t ∧ Same s t) ∧ (∃ t, exec (.overvoltageFault n l) s = .next t ∧ Same s t) ∧
    (∃ t, exec (.lampShortFault n l) s = .next t ∧ Same s t)) ∧
  (∀ (s : State) (n : Nat), n < 16 → switching (str s n) = true →
    (∃ t, exec (.overcurrentFault n) s = .next t ∧ (str t n).st = .fault ∧ (str t n).flags = (str s n).flags ||| 4 ∧
      (str t n).target = 0 ∧ (str t n).gh = false ∧ (str t n).gl = false ∧ ∀ m, m ≠ n → str t m = str s m) ∧
    (∃ t, exec (.outputShortFault n) s = .next t ∧ (str t n).st = .fault ∧ (str t n).flags = (str s n).flags ||| 16 ∧
      (str t n).target = 0 ∧ (str t n).gh = false ∧ (str t n).gl = false ∧ ∀ m, m ≠ n → str t m = str s m) ∧
    (∃ t, exec (.overvoltageFault n []) s = .next t ∧ (str t n).st = .fault ∧ (str t n).flags = (str s n).flags ||| 8 ∧
      (str t n).target = 0 ∧ (str t n).causeOpen = false ∧ ∀ m, m ≠ n → str t m = str s m) ∧
    (∀ d, dString? s n = some d → iSetOf d (str s n).level ≤ ceilingMa s n d →
      ∃ t, exec (.regulationFault n) s = .next t ∧ (str t n).st = .fault ∧ (str t n).flags = (str s n).flags ||| 32 ∧
        (str t n).target = 0 ∧ ∀ m, m ≠ n → str t m = str s m) ∧
    (∀ i j (l : List Nat), ∃ t, exec (.overvoltageFault n (i :: j :: l)) s = .next t ∧ (str t n).st = .fault ∧
      (str t n).flags = (str s n).flags ||| 2 ∧ (str t n).causeOpen = true) ∧
    (∀ j d, j < 24 → dString? s n = some d → ∃ t, exec (.overvoltageFault n [j]) s = .next t ∧
      ((str t n).st = .fault ∨ (str t n).st = .starting) ∧ (str t n).flags = (str s n).flags ||| 2 ∧ (str t n).target = 0 ∧
      (vget (str t n).lamps j).retired = true)) ∧
  (∀ (s : State) (n : Nat) (d : DString) (l : List Nat), n < 16 → dString? s n = some d →
    ((str s n).st = .on → (str s n).test = none → ∃ t, exec (.lampShortFault n l) s = .next t ∧ (str t n).st = .recovery ∧
      (str t n).flags = (str s n).flags ||| 1 ∧ (str t n).target ≤ (senseCode d.senseUohm (recoverMa s n d) : Rat)) ∧
    ((str s n).st = .recovery ∨ (str s n).test ≠ none → ∃ t, exec (.lampShortFault n l) s = .next t ∧ (str t n).st = .fault ∧
      (str t n).flags = (str s n).flags ||| 1 ∧ (str t n).target = 0)) ∧
  (∀ (s : State) (n ma mv t0 : Nat) (d : DString) (x : LampTest), n < 16 → dString? s n = some d → (str s n).test = some x →
    x.since = some t0 → t0 + 30000000 ≤ s.localNs →
    (x.measured.length + 1 < x.points.length → ∃ t, exec (.lampTestPoint n ma mv) s = .next t ∧
      Same { s with lamps := vmod s.lamps n fun y => { y with
        test := some { x with measured := x.measured ++ [(ma, mv)], since := none } } } t) ∧
    (x.points.length ≤ x.measured.length + 1 → ∃ t, exec (.lampTestPoint n ma mv) s = .next t ∧ (str t n).test = none ∧
      (str t n).target = 0 ∧ (str t n).gh = false ∧ (str t n).gl = false ∧
      ∀ c, s.fw.busy = some (c, .lampTest n) → t.fw.busy = none)) ∧
  (∀ (s : State) (mon : List Mon), s.lampLink.lastMark + 1000000 ≤ s.localNs → s.lampLink.nextMark = none → rootClks s = true →
    ∃ t, exec (.idleMark mon) s = .next t ∧ t.lampLink.lastMark = s.localNs ∧ t.lampLink.markSlot = some (lampSlotFrom s.localNs) ∧
      (∀ n, n < 16 → (str t n).gh = false ∧ (str t n).gl = false) ∧ t.motion = s.motion ∧ t.ports = s.ports)

/-- R490, R491, R494 to R498, R502 to R505: the lamp link. A frame leaves as 4 idle bits, SOF, its bytes and EOF. One whose return
is wrong is sent again under the next SEQ, twice; the third failure loses the link. A good return of an APPLY frees the chain. ENUM
is sent 200 µs after the link starts and every second while it is lost, whatever became of the one before, and a count that
agrees leads to the devices' registers. A POLL is sent when one is due. Nothing returns before the frame has left. The returns
are stated where no verb waits for a line boundary, at which a return might let it act. -/
def Obligations.LampLinkFrames : Prop :=
  let out (s : State) (f : LFrame) : List BitTime := s.lampLink.tx ++ lampSymbols (frameBytes f s.lampLink.seq)
  let enum : LFrame := { addr := 0xFD, type := 6, body := [0#8] }
  let plain (s : State) : Prop := rootClks s = true ∧ s.lampLink.tx = [] ∧ s.fw.busy = none ∧ s.fw.deferred = [] ∧
    s.cal.swapping = false ∧ s.achr.mirror.next = none ∧ s.lampLink.stage = none
  (∀ (s : State) (b : List Byte), (s.lampLink.flight = none ∧ plain s) ∨ s.lampLink.tx ≠ [] ∨ rootClks s = false →
    ∃ t, exec (.lampFrameReturn b) s = .next t ∧ Same s t) ∧
  (∀ (s : State) (b : List Byte) (f : LFrame) (q k : Nat), plain s → s.lampLink.flight = some (f, q, k) → returnGood f q b = false →
    (k < 2 → ∃ t, exec (.lampFrameReturn b) s = .next t ∧
      Same { s with lampLink := { s.lampLink with
        seq := (s.lampLink.seq + 1) % 256, flight := some (f, s.lampLink.seq, k + 1), tx := out s f
        applyLeft := if f.type = 2 then some (out s f).length else s.lampLink.applyLeft } } t) ∧
    (2 ≤ k → ∃ t, exec (.lampFrameReturn b) s = .next t ∧ t.lampLink.st = .lost ∧ t.lampLink.flight = none ∧
      t.lampLink.queue = [] ∧ ∀ n, n < 16 → ((str t n).st ≠ .on ∧ (str t n).st ≠ .starting) ∨ dString? s n = none)) ∧
  (∀ (s : State) (b : List Byte) (f : LFrame) (q k : Nat), plain s → s.lampLink.flight = some (f, q, k) → returnGood f q b = true →
    f.type = 2 → s.lampLink.queue = [] → s.lampLink.pollDue = false → s.lampLink.bring = .idle →
    ∃ t, exec (.lampFrameReturn b) s = .next t ∧ Same { s with lampLink := { s.lampLink with flight := none } } t) ∧
  (∀ (s : State) (b : List Byte) (f : LFrame) (q k : Nat), plain s → s.lampLink.flight = some (f, q, k) → returnGood f q b = true →
    f.type = 6 → (uAt ((b.drop 3).take f.body.length) 0 1 = bypassCount s → ∃ t, exec (.lampFrameReturn b) s = .next t ∧
      t.lampLink.st = .linking ∧ t.lampLink.bring = .reading) ∧
    (uAt ((b.drop 3).take f.body.length) 0 1 ≠ bypassCount s → ∃ t, exec (.lampFrameReturn b) s = .next t ∧
      t.lampLink.st = .lost)) ∧
  (∀ s : State, s.lampLink.st = .up → s.lampLink.flight = none →
    (s.lampLink.pollDue = true ∨ s.lampLink.lastPoll + 1000000 ≤ s.localNs) → ∃ t, exec .pollTimer s = .next t ∧
    Same { s with lampLink := { s.lampLink with
      pollDue := false, lastPoll := s.localNs, seq := (s.lampLink.seq + 1) % 256
      flight := some (pollFrame s, s.lampLink.seq, 0), tx := out s (pollFrame s) } } t) ∧
  (∀ s : State, s.lampLink.bring = .waitEnum → s.lampLink.since + 200000 ≤ s.localNs →
    ∃ t, exec .lampLinkEnumWait s = .next t ∧ Same { s with lampLink := { s.lampLink with
      bring := .enum, seq := (s.lampLink.seq + 1) % 256, flight := some (enum, s.lampLink.seq, 0), tx := out s enum } } t) ∧
  (∀ s : State, s.lampLink.st = .lost → s.lampLink.since + 1000000000 ≤ s.localNs →
    ∃ t, exec .lampLinkRetry s = .next t ∧ Same { s with lampLink := { s.lampLink with
      since := s.localNs, bring := .enum, seq := (s.lampLink.seq + 1) % 256, flight := some (enum, s.lampLink.seq, 0)
      tx := out s enum } } t)


/-- R218, R220, R221, R225, R490, R491, R493, R664: what the block's serial lines carry. In every slot a running timing lane sends one
code group: of a line start that is due, before anything else; else of the sequence in progress; IDLE where there is neither. In
every bit time the running lamp link sends one bit: MARK at its boundary, between any two bits of a frame; else the next bit of a
frame; else a 1. An enabled Prism port sends one code group in every slot: of a NAK sequence, else of the message in progress, else
IDLE, of which two part its messages; after them what is to be sent again goes before what has waited (R668, R669). A coded symbol is
decoded to itself, whatever the running disparity. Where a slot begins is free: log 94. -/
def Obligations.LinesSendEverySlot : Prop :=
  (∀ (s : State) (n : Nat) (x : TxLane), s.pending = [] → n < 24 → (sport s n).tx = x → x.on = true → rootClks s = true →
    slotNo (s.localNs + 1) ≠ slotNo s.localNs →
    (∀ k y ys r, x.starts = (k, y :: ys) :: r → k ≤ slotNo (s.localNs + 1) →
      ∃ t, step s = .next t ∧ Out.timing n (codeOf x.pos y) ∈ t.outbox) ∧
    (∀ y ys r, (∀ e ∈ x.starts, slotNo (s.localNs + 1) < e.1 ∧ e.2 ≠ []) → x.seqs = (y :: ys) :: r →
      ∃ t, step s = .next t ∧ Out.timing n (codeOf x.pos y) ∈ t.outbox) ∧
    ((∀ e ∈ x.starts, slotNo (s.localNs + 1) < e.1 ∧ e.2 ≠ []) → x.seqs = [] →
      ∃ t, step s = .next t ∧ Out.timing n (codeOf x.pos symIdle) ∈ t.outbox)) ∧
  (∀ (s : State), s.pending = [] → s.lampLink.st ≠ .off → rootClks s = true → lampSlot (s.localNs + 1) ≠ lampSlot s.localNs →
    (∀ k, s.lampLink.markSlot = some k → k ≤ lampSlot (s.localNs + 1) → ∃ t, step s = .next t ∧ Out.lampBit false false ∈ t.outbox ∧
      (s.power.stored = none → t.lampLink.tx = (false, false) :: s.lampLink.tx ∧ t.lampLink.markSlot = none)) ∧
    (∀ b bs, (∀ k, s.lampLink.markSlot = some k → lampSlot (s.localNs + 1) < k) → s.lampLink.tx = b :: bs →
      ∃ t, step s = .next t ∧ Out.lampBit b.1 b.2 ∈ t.outbox ∧ (s.power.stored = none → t.lampLink.tx = bs)) ∧
    ((∀ k, s.lampLink.markSlot = some k → lampSlot (s.localNs + 1) < k) → s.lampLink.tx = [] →
      ∃ t, step s = .next t ∧ Out.lampBit false true ∈ t.outbox)) ∧
  (∀ (s : State) (p : Nat) (x : PrismTx), s.pending = [] → p < 3 → (pport s p).tx = x → (pport s p).enabled = true →
    (∀ q, q < 3 → (pport s q).closing = false) → rootClks s = true → prismSlot (s.localNs + 1) ≠ prismSlot s.localNs →
    (∀ y ys, x.naks = y :: ys → ∃ t, step s = .next t ∧ Out.prismGroup p (codeOf x.pos y) ∈ t.outbox) ∧
    (∀ y ys, x.naks = [] → x.cur = y :: ys → ∃ t, step s = .next t ∧ Out.prismGroup p (codeOf x.pos y) ∈ t.outbox) ∧
    (x.naks = [] → x.cur = [] → x.idles < 2 → ∃ t, step s = .next t ∧ Out.prismGroup p (codeOf x.pos symIdle) ∈ t.outbox) ∧
    (x.naks = [] → x.cur = [] → 2 ≤ x.idles → (∀ q, q < 3 → (pport s q).tx.raw = []) → s.power.stored = none →
      (∀ q qs m k t0, x.again = q :: qs → (pport s p).unacked = [(q, m, k, t0)] → ∃ t stamp, step s = .next t ∧
        (pport t p).unacked = [(q, m, k + 1, s.localNs + 1)] ∧ (pport t p).tx.again = qs ∧
        (pport t p).tx.cur = (somToEom (pBytes stamp q (pport s p).rxSeq true m)).drop 1) ∧
      (∀ m ms, x.again = [] → (pport s p).queue = m :: ms → (pport s p).unacked.length < 32 → ∃ t stamp, step s = .next t ∧
        (pport t p).unacked = (pport s p).unacked ++ [((pport s p).txSeq, m, 1, s.localNs + 1)] ∧ (pport t p).queue = ms ∧
        (pport t p).txSeq = ((pport s p).txSeq + 1) % 65536 ∧
        (pport t p).tx.cur = (somToEom (pBytes stamp (pport s p).txSeq (pport s p).rxSeq false m)).drop 1))) ∧
  (∀ (pos : Bool) (ks : List Sym) (y : Sym), ks = dataLaneSyms ∨ ks = prismSyms → y.k = false ∨ y ∈ ks →
    symOf ks pos (codeOf pos y) = some y)

/-! ### Motion (chapter 11) -/

/-- R188, R189, R529, R538, R543 to R546, R551, R555 to R557, R559, R561, R576: the AXIS verbs. A move within the limits, of an axis
at standstill, begins under its grant, or waits in the queue of a DISABLED axis; one that finds moves queued joins them; one beyond
a limit is refused. AXIS.STOP empties the queue and halts an axis on its ramp, or with EMERGENCY at D_EMERG, and settles one that
stands. AXIS.SET_POS gives the position, AXIS.ENABLE the driver's state, and AXIS.STATUS answers 16 bytes for each axis. The model's
choices that bear on it: log 35, log 102. -/
def Obligations.AxisVerbs : Prop :=
  let moveOf (ends base : List Int) (v : Nat) : Move :=
    { ends := ends, delta := (List.range 4).map fun i => ends.getD i 0 - base.getD i 0, vMax := v, noBlend := false }
  let here (s : State) : List Int := (List.range 4).map fun b => (ax s b).pos
  (∀ (r : Req) (s : State) (a : Nat) (d : DAxis), Issued r s → Names r kAxis s → a = objIdx r.obj → r.mods = 0#16 →
    Shaped r [.u 4, .u 4] → s.line.st ≠ .booted → (inRun s = false ∨ feedAxis? s ≠ some a) → dAxis? s a = some d → 4 ≤ d.group →
    (ax s a).st ≠ .fault → arg r 4 4 ≤ limitN (.axV a) s →
    (d.limMin ≤ sAt r.payload 0 4 → sAt r.payload 0 4 ≤ d.limMax →
      ((drv s a).queue = [] → still (drv s a) = true → (drv s a).dwell = .none → sAt r.payload 0 4 ≠ (ax s a).pos →
        ((askAccel a [a] s).1 = true → ∃ t u, exec (.axisMove r) s = .next t ∧ Replied 0x0701#16 r stOk 0 [] u t ∧
          (drv u a).queue = [moveOf ((here s).set a (sAt r.payload 0 4)) (here s) (arg r 4 4)] ∧
          ((ax s a).st ≠ .disabled → (ax u a).st = .dwell ∧ (drv u a).begun = true ∧
            (ax u a).dirTo = decide ((ax s a).pos < sAt r.payload 0 4)) ∧
          ((ax s a).st = .disabled → (ax u a).st = .disabled ∧ (drv u a).begun = false ∧ still (drv u a) = true) ∧
          (ax u a).pos = (ax s a).pos ∧ u.line = s.line ∧
          u.lamps = s.lamps ∧ ∀ b, b ≠ a → ax u b = ax s b) ∧
        ((askAccel a [a] s).1 = false → ∃ t u, exec (.axisMove r) s = .next t ∧ Replied 0x0701#16 r stNoGrant 0 [] u t ∧
          u.motion = s.motion ∧ u.line = s.line)) ∧
      (∀ m, (drv s a).queue.getLast? = some m → (drv s a).queue.length < 64 → still (drv s a) = false →
        ∃ t u, exec (.axisMove r) s = .next t ∧ Replied 0x0701#16 r stOk 0 [] u t ∧
          (drv u a).queue = (drv s a).queue ++ [moveOf (m.ends.set a (sAt r.payload 0 4)) m.ends (arg r 4 4)] ∧
          (drv u a).speed = (drv s a).speed ∧ u.line = s.line ∧ u.grants = s.grants)) ∧
    ((sAt r.payload 0 4 < d.limMin ∨ d.limMax < sAt r.payload 0 4) → (drv s a).queue.length < 64 →
      ∃ t, exec (.axisMove r) s = .next t ∧ Replied 0x0701#16 r stLimit 0 [] s t)) ∧
  (∀ (r : Req) (s : State) (g : Nat), Issued r s → Names r kGroup s → g = objIdx r.obj → r.mods = 0#16 →
    Shaped r [.u 4, .u 4, .u 4, .u 4, .u 4] → s.line.st ≠ .booted → inRun s = false →
    (∀ b, b < 4 → b ∉ groupMembers s g → sAt r.payload (4 * b) 4 = 0) →
    (∀ b ∈ groupMembers s g, (ax s b).st ≠ .disabled ∧ (ax s b).st ≠ .fault ∧ withinLimits s b (sAt r.payload (4 * b) 4) = true ∧
      arg r 16 4 ≤ limitN (.axV b) s) →
    (drv s (4 + g)).queue = [] → still (drv s (4 + g)) = true → (drv s (4 + g)).dwell = .none →
    (∃ b ∈ groupMembers s g, sAt r.payload (4 * b) 4 ≠ (ax s b).pos) →
    (askAccel (4 + g) ((groupMembers s g).filter fun b => sAt r.payload (4 * b) 4 != (ax s b).pos) s).1 = true →
    ∃ t u, exec (.axisGroupMove r) s = .next t ∧ Replied 0x0702#16 r stOk 0 [] u t ∧
      (drv u (4 + g)).queue = [moveOf ((List.range 4).map fun b =>
        if (groupMembers s g).contains b then sAt r.payload (4 * b) 4 else (ax s b).pos) (here s) (arg r 16 4)] ∧
      (∀ b, b < 4 → (ax u b).pos = (ax s b).pos) ∧ u.line = s.line) ∧
  (∀ (r : Req) (s : State) (a : Nat) (d : DAxis), Serves r.chan s → Names r kAxis s → a = objIdx r.obj → r.payload = [] →
    s.line.st ≠ .booted → (inRun s = false ∨ feedAxis? s ≠ some a) → dAxis? s a = some d → 4 ≤ d.group →
    (r.mods = 0#16 → still (drv s a) = true → ∃ t u, exec (.axisStop r) s = .next t ∧ Replied 0x0703#16 r stOk 0 [] u t ∧
      (drv u a).queue = [] ∧ still (drv u a) = true ∧ (ax u a).st ≠ .halted ∧ (ax u a).pos = (ax s a).pos ∧ u.line = s.line) ∧
    (r.mods = 0#16 → still (drv s a) = false → (drv s a).fall ≠ .toFault → (drv s a).fall ≠ .emergency → (ax s a).st = .moving →
      ∃ t u, exec (.axisStop r) s = .next t ∧ Replied 0x0703#16 r stOk 0 [] u t ∧ (drv u a).fall = fallKind s a ∧
        (drv u a).queue = [] ∧ (drv u a).coast = lineOf s a ∧ (drv u a).stopping = true ∧ (ax u a).st = .stopping ∧
        (drv u a).speed = (drv s a).speed ∧ u.line = s.line) ∧
    (r.mods = 1#16 → still (drv s a) = false → (drv s a).fall ≠ .toFault → (ax s a).st = .moving →
      ∃ t u, exec (.axisStop r) s = .next t ∧ Replied 0x0703#16 r stOk 0 [] u t ∧ (drv u a).fall = .emergency ∧
        (drv u a).queue = [] ∧ (drv u a).stopping = true ∧ (ax u a).st = .stopping ∧ (drv u a).speed = (drv s a).speed ∧
        u.line = s.line)) ∧
  (∀ (r : Req) (s : State) (a : Nat), Issued r s → Names r kAxis s → a = objIdx r.obj → ModsWithin r 1 → Shaped r [.u 4] →
    s.line.st ≠ .booted → inRun s = false → axStill s a = true → withinLimits s a (sAt r.payload 0 4) = true →
    ∃ t u, exec (.axisSetPos r) s = .next t ∧ Replied 0x0704#16 r stOk 0 [] u t ∧ (ax u a).pos = sAt r.payload 0 4 ∧
      (ax u a).pRef = sAt r.payload 0 4 ∧ (ax u a).devCount = 0 ∧ (∀ b, b ≠ a → ax u b = ax s b) ∧
      (∀ d, bit r.mods.toNat 0 = true → axisEnc s a < 4 → dAxis? s a = some d →
        (encd u (axisEnc s a)).count = wrap48 ((2 * sAt r.payload 0 4 * d.countsPerStep + 65536) / 131072)) ∧
      (bit r.mods.toNat 0 = false → ∀ e, (encd u e).count = (encd s e).count) ∧ u.line = s.line ∧ u.lamps = s.lamps) ∧
  (∀ (r : Req) (s : State) (a : Nat), Issued r s → Names r kAxis s → a = objIdx r.obj → r.payload = [] → s.line.st ≠ .booted →
    (r.mods = 1#16 → ∃ t u, exec (.axisEnable r) s = .next t ∧ Replied 0x0705#16 r stOk 0 [] u t ∧ (ax u a).en = true ∧
      (ax u a).st ≠ .disabled ∧ (ax u a).st ≠ .fault ∧ (ax u a).halted = false ∧ (ax u a).pos = (ax s a).pos ∧
      ((∀ k ∈ drivesOver s a, (drv s k).feed = none ∧ (drv s k).queue = []) → ∀ b, b ≠ a → ax u b = ax s b) ∧ u.line = s.line) ∧
    (r.mods = 0#16 → axStill s a = true → (ax s a).st = .idle ∨ (ax s a).st = .halted → ∃ t u, exec (.axisEnable r) s = .next t ∧
      Replied 0x0705#16 r stOk 0 [] u t ∧ (ax u a).en = false ∧ (ax u a).st = .disabled ∧ (ax u a).iref = 0 ∧
      (∀ b, b ≠ a → ax u b = ax s b) ∧ u.line = s.line) ∧
    (r.mods = 0#16 → axStill s a = false → ∃ t, exec (.axisEnable r) s = .next t ∧
      Replied 0x0705#16 r stState 0x0103 [] s t)) ∧
  (∀ (r : Req) (s : State), Serves r.chan s → Names r kAxis s → r.mods = 0#16 → r.payload = [] → s.line.st ≠ .booted →
    ∃ t, exec (.axisStatus r) s = .next t ∧ Replied 0x0706#16 r stOk 0 (axisStatus s (objIdx r.obj)) s t)

/-- R530, R532 to R536, R539, R540, R543, R550, R553, R559, R560, R563: the motion rows. An encoder edge of one channel counts one way
or the other, and of both is an error. An index latches the count. A ramp update gives a move that awaits its first step its starting
speed, and each reference the code asked for. A step pulse carries every member on along its line, and ends in a limit fault where
the next step would pass a limit. A stall
latches a fault and stops the axis. The dwells end in the first step, and the hold delay in I_HOLD. The model's choices that
bear on it: log 10, log 12, log 35. -/
def Obligations.MotionRows : Prop :=
  (∀ (s : State) (e : Nat) (a b : Bool) (d : DEncoder), (s.power.present = .run ∨ s.power.present = .idle) →
    dEncoder? s e = some d → ((encd s e).a = a ∨ (encd s e).b = b) → ∃ t, exec (.encoderEdge e a b) s = .next t ∧
    Same { s with motion := { s.motion with encs := vmod s.motion.encs e fun y => { y with
      a := a, b := b
      count := wrap48 (y.count + if d.invert then quadStep y.b y.a b a else quadStep y.a y.b a b) } } } t) ∧
  (∀ (s : State) (e : Nat) (a b : Bool) (d : DEncoder) (t0 : Nat), e < 4 → (s.power.present = .run ∨ s.power.present = .idle) →
    dEncoder? s e = some d → (encd s e).a ≠ a → (encd s e).b ≠ b → (encd s e).errReported = some t0 →
    s.localNs < t0 + 1000000000 → ∃ t, exec (.encoderEdge e a b) s = .next t ∧
    Same { s with motion := { s.motion with encs := vmod s.motion.encs e fun y => { y with
      a := a, b := b, errors := y.errors + 1 } } } t) ∧
  (∀ (s : State) (e : Nat), e < 4 → 0 < (encd s e).errors → (encd s e).errReported = none →
    ∃ t, exec (.encoderErrorReport e) s = .next t ∧ (encd t e).errors = 0 ∧ (encd t e).errReported = some s.localNs ∧
      (encd t e).count = (encd s e).count ∧ t.line = s.line) ∧
  (∀ (s : State) (e : Nat) (d : DEncoder), e < 4 → dEncoder? s e = some d → d.useIndex = true →
    ∃ t, exec (.indexLatch e) s = .next t ∧ (encd t e).latched = (encd s e).count ∧ (encd t e).indexDue = false ∧
      (encd t e).count = (encd s e).count ∧ t.line = s.line) ∧
  (∀ s : State, rootClks s = false → ∃ t, exec .rampUpdate s = .next t ∧ Same s t) ∧
  (∀ (s : State) (k : Nat), k < 8 → rootClks s = true → feedAxis? s = none →
    ∃ t, exec .rampUpdate s = .next t ∧ drv t k = drv (rampDrive k s) k ∧
      ((drv s k).dwell = .first → (drv t k).dwell = .none ∧ (drv t k).speed = startSpeed s k * 4294967296) ∧
      (∀ a, a < 4 → (ax t a).pos = (ax s a).pos ∧ (ax t a).iref = (ax s a).irefTo ∧ (ax t a).irefTo = (ax s a).irefTo) ∧
      t.line = s.line) ∧
  (∀ (s : State) (k : Nat) (m : Move) (ms : List Move), k < 8 → rootClks s = true → phaseWrap ≤ (drv s k).phase →
    limitBlocks s k = none → (drv s k).feed = none → (drv s k).queue = m :: ms → (drv s k).steps + 1 < moveLen m →
    (drv s k).coast = none →
    ∃ t, exec (.stepPulse k) s = .next t ∧ drv t k = { drv s k with
        phase := (drv s k).phase - phaseWrap, steps := (drv s k).steps + 1 } ∧
      (∀ a ∈ driveAxes s k, a < 4 → (ax t a).pos = memberPos m (drv s k).startPos ((drv s k).steps + 1) a) ∧
      (∀ a, a ∉ driveAxes s k → ax t a = ax s a) ∧ t.line = s.line) ∧
  (∀ (s : State) (k a : Nat), k < 4 → rootClks s = true → phaseWrap ≤ (drv s k).phase → limitBlocks s k = some a →
    (ax s a).st ≠ .disabled → inRun s = false → ∃ t, exec (.stepPulse k) s = .next t ∧ (ax t a).st = .fault ∧
      (ax t a).pos = (ax s a).pos ∧ (drv t k).queue = [] ∧ still (drv t k) = true) ∧
  (∀ (s : State) (a : Nat) (d : DAxis), a < 4 → 8 ≤ (ax s a).devCount → (ax s a).st ≠ .disabled → (ax s a).st ≠ .fault →
    dAxis? s a = some d → 4 ≤ d.group → inRun s = false → ∃ t, exec (.stall a) s = .next t ∧ (ax t a).st = .fault ∧
      (drv t a).queue = [] ∧ still (drv t a) = true ∧ (ax t a).pos = (ax s a).pos ∧ ∀ b, b ≠ a → ax t b = ax s b) ∧
  (∀ (s : State) (k t0 : Nat), (drv s k).dwell = .direction t0 → t0 ≤ s.localNs → ∃ t, exec (.directionDwellEnd k) s = .next t ∧
    Same { s with motion := { s.motion with drives := vmod s.motion.drives k fun d => { d with dwell := .first } } } t) ∧
  (∀ (s : State) (k t0 : Nat), (drv s k).dwell = .iref t0 → t0 ≤ s.localNs → ∃ t, exec (.irefRaiseDwellEnd k) s = .next t ∧
    Same { s with motion := { s.motion with drives := vmod s.motion.drives k fun d => { d with dwell := .first } } } t) ∧
  (∀ (s : State) (k t0 : Nat), k < 4 → (drv s k).standSince = some t0 → still (drv s k) = true → (drv s k).queue = [] →
    (drv s k).dwell = .none → t0 + holdDelay s k ≤ s.localNs → (ax s k).st = .idle → axStill s k = true →
    ∃ t, exec (.holdDelayEnd k) s = .next t ∧ (ax t k).irefTo = iHoldOf s k ∧ (ax t k).st = .idle ∧ (drv t k).standSince = none ∧
      (∀ g ∈ t.grants.grants, g.holder ≠ .axis k) ∧ t.line = s.line)

/-! ### The thermal front end and housekeeping (chapter 12) -/

/-- R190, R580, R581, R585, R587 to R594, R596 to R599: the thermal front end. TEMP.READ answers readings and states; TEMP.THRESHOLD
waits for the next reading. A slot goes to the sensor due earliest, and its next sample is due at the next whole multiple of its period.
A window ends once it has been fed enough modulator bits that were not dropped. The first sample of a sensor gives no reading, the
second does, and a reading moves LEVEL by the thresholds and their dwell. A window too long is abandoned, and its orientation kept. A
sensor turns stale, and then faults, its safety outputs go low and its strings stop. A safety output takes the latest valid reading
when its period is over, or stays low. The model's choices that bear on it: log 14. -/
def Obligations.ThermalRows : Prop :=
  (∀ (r : Req) (s : State), Serves r.chan s → (Names r kSensor s ∨ Names r kDevice s) → r.mods = 0#16 → r.payload = [] →
    s.line.st ≠ .booted → ∃ t, exec (.tempRead r) s = .next t ∧ Replied 0x0801#16 r stOk 0
      ((if objKind r.obj = kSensor then [objIdx r.obj] else (List.range 8).filter fun n => (dThermal? s n).isSome).flatMap
        (fun n => leInt 2 ((sen s n).reading.getD (-32768)) ++ [b8 (thrByte (sen s n)), 0#8]) ++
        leInt 2 (vget s.hk.sup 0).latest) s t) ∧
  (∀ (r : Req) (s : State) (n : Nat), Issued r s → Names r kSensor s → n = objIdx r.obj → r.mods = 0#16 →
    Shaped r [.u 2, .u 2, .u 1] → s.line.st ≠ .booted →
    (let fall := if sAt r.payload 2 2 = 0 then sAt r.payload 0 2 - 32 else sAt r.payload 2 2
     fall < sAt r.payload 0 2 → 1 ≤ arg r 4 1 → arg r 4 1 ≤ 64 →
     (sAt r.payload 0 2 ≤ limitOf (.tempRise n) s → ∃ t, exec (.tempThreshold r) s = .next t ∧
       Waits 0x0802#16 r (.threshold n) t ∧ (sen t n).pendingThr = some (sAt r.payload 0 2, fall, arg r 4 1) ∧
       thrOf t n = thrOf s n ∧ (sen t n).level = (sen s n).level ∧ (∀ m, m ≠ n → sen t m = sen s m) ∧ t.line = s.line) ∧
     (limitOf (.tempRise n) s < sAt r.payload 0 2 → ∃ t, exec (.tempThreshold r) s = .next t ∧
       Replied 0x0802#16 r stLimit 0 [] s t))) ∧
  (∀ s : State, (∀ n, n < 8 → dThermal? s n ≠ none → s.localNs < (sen s n).due) →
    ∃ t, exec .tfeSlotStart s = .next t ∧ Same s t) ∧
  (∀ (s : State) (n : Nat) (d : DThermal), n < 8 → rootClks s = true → s.therm.slot = none → dThermal? s n = some d →
    (sen s n).due ≤ s.localNs → (s.localNs - (sen s n).due) * d.rateSps ≤ 1000000000 →
    (∀ m, m < 8 → m ≠ n → dThermal? s m ≠ none → (sen s m).due ≤ s.localNs →
      (sen s n).due < (sen s m).due ∨ ((sen s n).due = (sen s m).due ∧ n < m)) →
    ∃ t, exec .tfeSlotStart s = .next t ∧ Same { s with therm := { s.therm with
      slot := some n, points := [], window := s.localNs + 167 + 2000 * dischargeUs d + 8000
      sensors := vmod s.therm.sensors n fun y => { y with
        due := y.start + (sampleNo d (y.due - y.start) + 1) * 1000000000 / d.rateSps } } } t) ∧
  (∀ (s : State) (n : Nat) (x : Int) (blank : List (Nat × Nat)) (d : DThermal), n < 8 → rootClks s = true →
    s.therm.slot = some n → dThermal? s n = some d →
    (fedBits d blank s < windowBits d.rateSps → ∃ t, exec (.tfeWindowEnd ⟨x, blank⟩) s = .next t ∧ Same s t) ∧
    (windowBits d.rateSps ≤ fedBits d blank s → (sen s n).lastX = none → ∃ t, exec (.tfeWindowEnd ⟨x, blank⟩) s = .next t ∧
      Same { s with therm := { s.therm with
        slot := none, chop := (s.therm.chop + windowBits d.rateSps) % 256
        blank := blank.any fun h => decide (h.1 ≤ s.localNs ∧ s.localNs ≤ h.2)
        sensors := vmod s.therm.sensors n fun y => { y with lastX := some x, orient := !y.orient } } } t) ∧
    (∀ x', windowBits d.rateSps ≤ fedBits d blank s → (sen s n).lastX = some x' → (sen s n).pendingThr = none →
      ∃ t, exec (.tfeWindowEnd ⟨x, blank⟩) s = .next t ∧ t.therm.slot = none ∧ (sen t n).lastX = some x ∧
        (sen t n).orient = !(sen s n).orient ∧ (sen t n).reading = some (readingOf d x x') ∧ (sen t n).readAt = s.localNs ∧
        (sen t n).stale = false ∧ (∀ m, m ≠ n → sen t m = sen s m) ∧
        (let r := readingOf d x x'
         let rise := (thrOf s n).1
         let fall := (thrOf s n).2.1
         let dwell := (thrOf s n).2.2
         (r = -32768 → (sen t n).level = (sen s n).level ∧ (sen t n).cFault = (sen s n).cFault + 1 ∧ (sen t n).cUp = 0) ∧
         (r ≠ -32768 → (sen s n).fault = false → fall < rise → 1 ≤ dwell →
           ((sen s n).level = .clear → r < rise → (sen t n).level = .clear ∧ (sen t n).cUp = 0) ∧
           ((sen s n).level = .clear → rise ≤ r → r < rise + 256 → (sen s n).cUp + 1 < dwell →
             (sen t n).level = .clear ∧ (sen t n).cUp = (sen s n).cUp + 1) ∧
           ((sen s n).level = .clear → rise ≤ r → r < rise + 256 → dwell ≤ (sen s n).cUp + 1 → (sen t n).level = .raised ∧
             (sen t n).crossings = (s.localNs :: (sen s n).crossings).take 5) ∧
           ((sen s n).level ≠ .overs → rise + 256 ≤ r → dwell ≤ (sen s n).cOver + 1 → (sen t n).level = .overs) ∧
           ((sen s n).level = .raised → (sen s n).latched = false → r ≤ fall → dwell ≤ (sen s n).cDown + 1 →
             (sen t n).level = .clear) ∧
           ((sen s n).level = .raised → (sen s n).latched = true → fall - (rise - fall) < r → r < rise + 256 →
             (sen t n).level = .raised ∧ (sen t n).latched = true) ∧
           ((sen s n).level = .overs → r < rise + 256 - (rise - fall) → dwell ≤ (sen s n).cDown + 1 →
             (sen t n).level = .raised))))) ∧
  (∀ (s : State) (n : Nat) (blank : List (Nat × Nat)) (d : DThermal), s.therm.slot = some n → dThermal? s n = some d →
    rootClks s = true → 12 * s.therm.window + 4000 * windowBits d.rateSps ≤ 12 * s.localNs →
    fedBits d blank s < windowBits d.rateSps → ∃ t, exec (.tfeWindowAbandon blank) s = .next t ∧
    Same { s with therm := { s.therm with
      slot := none, chop := (s.therm.chop + fedBits d blank s) % 256
      blank := blank.any fun h => decide (h.1 ≤ s.localNs ∧ s.localNs ≤ h.2)
      sensors := vmod s.therm.sensors n fun y => { y with abandoned := y.abandoned + 1 } } } t) ∧
  (∀ (s : State) (n : Nat) (d : DThermal), n < 8 → dThermal? s n = some d → rootClks s = true → (sen s n).stale = false →
    (sen s n).readAt + 4000000000 / d.rateSps ≤ s.localNs → ∃ t, exec (.sensorStale n) s = .next t ∧
      (sen t n).stale = true ∧ (sen t n).level = (sen s n).level ∧ (sen t n).reading = (sen s n).reading ∧
      (∀ m, m ≠ n → sen t m = sen s m) ∧ t.lamps = s.lamps ∧ t.line = s.line ∧
      ∀ e k mode, s.decl = some e → k < 2 → e.safety[k]? = some (n, mode) → (vget t.therm.outs k).high = 0) ∧
  (∀ (s : State) (n : Nat) (d : DThermal), n < 8 → dThermal? s n = some d → rootClks s = true → (sen s n).fault = false →
    ((thrOf s n).2.2 ≤ (sen s n).cFault ∨
      ((sen s n).stale = true ∧ (sen s n).readAt + 4000000000 / d.rateSps + 1000000000 ≤ s.localNs)) →
    ∃ t, exec (.sensorFault n) s = .next t ∧ (sen t n).fault = true ∧ (sen t n).level = .overs ∧
      (sen t n).reading = (sen s n).reading ∧ (∀ m, m ≠ n → sen t m = sen s m) ∧
      ∀ p e, p < 16 → dString? s p = some e → e.sensor = n → switching (str s p) = true → (str t p).st = .fault ∧
        (str t p).target = 0) ∧
  (∀ (s : State) (k : Nat), periodOver s k = false → ∃ t, exec (.safetyOutputPeriod k) s = .next t ∧ Same s t) ∧
  (∀ (s : State) (k : Nat), k < 2 → periodOver s k = true → ∃ (t : State) (o : SafetyOut), exec (.safetyOutputPeriod k) s = .next t ∧
    Same { s with therm := { s.therm with outs := vset s.therm.outs k { o with since := s.localNs } } } t ∧
    (∀ d n mode, s.decl = some d → d.safety[k]? = some (n, mode) →
      (mode = 0 ∨ (sen s n).fault = true ∨ (sen s n).stale = true ∨ (sen s n).reading = none ∨ rootClks s = false →
        o.period = 0 ∧ o.high = 0) ∧
      (∀ r : Int, (sen s n).fault = false → (sen s n).stale = false → (sen s n).reading = some r → r ≠ -32768 → rootClks s = true →
        (mode = 1 → o.period = 1000 ∧ o.high = (max 100 (min 900 (100 + (2 * (r + 800) + 5) / 10))).toNat) ∧
        (mode = 2 → let f := (max 1000 (min 3500 (1000 + (10 * (r + 800) + 8) / 16))).toNat
          o.period = (48000000 + f) / (2 * f) ∧ o.high = (48000000 + f) / (2 * f) / 2))))

/-- R190, R602 to R604, R606 to R608, R762, R768: housekeeping and the supervisor. HK.SEQUENCE begins at once where no sequence is in
force, and else replaces it when it next begins; HK.READ answers the results. A conversion takes its sampling phase and 8 cycles of
ANA_CLK; the next of its entry follows at once, but on HK1 waits for the supervisor's slot. An entry ends with the last of its
conversions, and its result is their rounded mean times 16. The supervisor's slot is 4 µs of every 250. A result of the supervisor
outside its window counts, and the second in a row confirms a breach, which drives FAULT_N low; one inside starts the count again.
None runs without ANA_CLK. The model's choices that bear on it: log 14, log 36, log 103. -/
def Obligations.HousekeepingRows : Prop :=
  let entry (r : Req) (i : Nat) : HkEntry :=
    { channel := arg r (2 + 8 * i) 1, subsel := arg r (3 + 8 * i) 1, cycles := arg r (4 + 8 * i) 2, gain := arg r (6 + 8 * i) 1,
      avgLog2 := arg r (7 + 8 * i) 1, conv := arg r (8 + 8 * i) 1 }
  let inRange (e : HkEntry) : Prop := e.channel < 32 ∧ (if e.channel = 31 then e.subsel < 32 else e.subsel = 0) ∧ 4 ≤ e.cycles ∧
    e.cycles ≤ 256 ∧ e.gain ≤ 2 ∧ e.avgLog2 ≤ 8 ∧ e.conv ≤ 2
  (∀ (r : Req) (s : State), Issued r s → r.obj = 0#16 → r.mods = 0#16 → s.line.st ≠ .booted →
    1 ≤ arg r 0 1 → arg r 0 1 ≤ 16 → r.payload.length = 2 + 8 * arg r 0 1 → arg r 1 1 = 0 →
    (∀ i, i < arg r 0 1 → arg r (9 + 8 * i) 1 = 0) →
    (let es := (List.range (arg r 0 1)).map (entry r)
     ((∀ e ∈ es, inRange e) → rootClks s = true → s.hk.seq = [] → s.hk.pos = 0 →
       ∃ t u, exec (.hkSequence r) s = .next t ∧ Replied 0x0901#16 r stOk 0 [] u t ∧ u.hk.seq = es ∧ u.hk.next = none ∧
         u.hk.results = List.replicate es.length 0 ∧ u.hk.sup = s.hk.sup ∧ u.line = s.line ∧ u.therm = s.therm) ∧
     ((∀ e ∈ es, inRange e) → s.hk.seq ≠ [] → ∃ t, exec (.hkSequence r) s = .next t ∧ Waits 0x0901#16 r .hkSequence t ∧
       t.hk = { s.hk with next := some es } ∧ t.line = s.line ∧ t.therm = s.therm) ∧
     ((∃ e ∈ es, ¬ inRange e) → ∃ t, exec (.hkSequence r) s = .next t ∧ Replied 0x0901#16 r stBadArg 0 [] s t))) ∧
  (∀ (r : Req) (s : State), Issued r s → r.obj = 0#16 → r.mods = 0#16 → r.payload = [] → s.line.st ≠ .booted →
    ∃ t, exec (.hkRead r) s = .next t ∧ Replied 0x0902#16 r stOk 0 (s.hk.results.flatMap (leBytes 2)) s t) ∧
  (∀ (s : State) (k code t0 : Nat) (x : HkRun) (e : HkEntry), k < 2 → rootClks s = true → vget s.hk.runs k = some x →
    s.hk.seq[x.idx]? = some e → code < 4096 → x.since = some t0 → t0 + convNs e.cycles ≤ s.localNs →
    (x.count + 1 < 2 ^ e.avgLog2 → ∃ t, exec (.hkConversionEnd k code) s = .next t ∧ Same { s with hk := { s.hk with
      runs := vset s.hk.runs k (some { x with
        count := x.count + 1, sum := x.sum + code
        since := if vget s.hk.urgent k = none ∧ (k = 0 ∨ t0 + 2 * convNs e.cycles ≤ s.hk.slotAt) then some (t0 + convNs e.cycles)
          else none }) } } t) ∧
    (2 ^ e.avgLog2 ≤ x.count + 1 → s.hk.next = none → ∃ t, exec (.hkConversionEnd k code) s = .next t ∧
      t.hk.results = s.hk.results.set x.idx ((32 * (x.sum + code) + 2 ^ e.avgLog2) / (2 * 2 ^ e.avgLog2)) ∧
      t.hk.seq = s.hk.seq ∧ t.hk.sup = s.hk.sup ∧ t.line = s.line ∧ t.therm = s.therm)) ∧
  (∀ (s : State) (c24 c25 c26 c27 : Nat),
    (rootClks s = false ∨ s.localNs < s.hk.slotAt + 4000 → ∃ t, exec (.supervisorCycle c24 c25 c26 c27) s = .next t ∧ Same s t) ∧
    (rootClks s = true → s.limit.ceilingLock = true → s.hk.slotAt + 4000 ≤ s.localNs →
      ∃ t, exec (.supervisorCycle c24 c25 c26 c27) s = .next t ∧ t.hk.slotAt = s.hk.slotAt + 250000 ∧
      ∀ i, i < 4 →
        (let v := supResult i ([c24, c25, c26, c27].getD i 0)
         let inside : Prop := limitOf (.supLow (24 + i)) s ≤ v ∧ v ≤ limitOf (.supHigh (24 + i)) s
         let x := vget s.hk.sup i
         let y := vget t.hk.sup i
         y.latest = v ∧ (inside → y.out = 0 ∧ y.inside = x.inside + 1) ∧ (¬ inside → y.out = x.out + 1 ∧ y.inside = 0) ∧
         (¬ inside → 1 ≤ x.out → bit t.hk.breached i = true ∧ t.pins.faultLow = true) ∧
         (¬ inside → x.out = 0 → bit t.hk.breached i = bit s.hk.breached i) ∧
         (inside → 1 ≤ x.inside → bit t.hk.breached i = false)))) ∧
  (∀ (s : State) (k i code : Nat), k < 2 → i < 4 → rootClks s = true → vget s.hk.urgent k = some (24 + i) →
    vget s.hk.urgentAt k + 1000 ≤ s.localNs → ∃ t, exec (.urgentConversionEnd k code) s = .next t ∧ (vget t.hk.sup i).latest = supResult i code ∧
      (∀ j, j < 4 → j ≠ i → vget t.hk.sup j = vget s.hk.sup j) ∧
      (limitOf (.supLow (24 + i)) s ≤ supResult i code → supResult i code ≤ limitOf (.supHigh (24 + i)) s →
        vget t.hk.urgent k = none ∧ (vget t.hk.sup i).out = 0 ∧ (vget t.hk.sup i).inside = (vget s.hk.sup i).inside + 1))

/-! ### The area cameras (chapter 13) -/

/-- R190, R630, R631, R633, R648, R650, R656 to R658: the CAM verbs. CAM.CONFIG replaces a section of a context that is not running,
inline or uploaded, and adds 1 to CONFIG_SEQ; a field out of range refuses it whole, and so does a running context. CAM.START arms
a stopped receiver, sets a
switch on a running one, and is refused while the other holds the context. CAM.STOP ends acceptance at once between
frames, and at the frame's end within one. CAM.SENSOR is deferred to its frame, and refused when that is too near. The
model's choices that bear on it: log 63. -/
def Obligations.CameraVerbs : Prop :=
  let defect (v : Nat) : List Byte := leBytes 2 7 ++ leBytes 2 4 ++ leBytes 4 v
  let withDefect (v k : Nat) (s : State) : State :=
    { s with cam := { s.cam with ctx := vset s.cam.ctx k { camCtx s k with thresh := v, seq := ((camCtx s k).seq + 1) % 4294967296 } } }
  (∀ (r : Req) (s : State) (k v : Nat), Issued r s → Names r kContext s → k = objIdx r.obj → v < 4294967296 → s.line.st ≠ .booted →
    ctxRunning s k = false →
    (r.mods = 0#16 → r.payload = defect v →
      (v ≤ 1048575 → ∃ t, exec (.camConfig r) s = .next t ∧ Replied 0x0A01#16 r stOk 0 [] (withDefect v k s) t) ∧
      (1048575 < v → ∃ t, exec (.camConfig r) s = .next t ∧ Replied 0x0A01#16 r stBadArg 0 [] s t)) ∧
    (∀ u, r.mods = 1#16 → Shaped r uploadFields → upload 0 { verb := 0x0A01#16, req := r } s = (.inr (defect v), u) → v ≤ 1048575 →
      ∃ t, exec (.camConfig r) s = .next t ∧ Replied 0x0A01#16 r stOk 0 [] (withDefect v k u) t)) ∧
  (∀ (r : Req) (s : State) (k id : Nat) (b : List Byte), Issued r s → Names r kContext s → k = objIdx r.obj → s.line.st ≠ .booted →
    ctxRunning s k = false → r.mods = 0#16 → r.payload = leBytes 2 id ++ leBytes 2 b.length ++ b → sectionLen id = some b.length →
    ((∀ x ∈ sectionReserved id, uAt b x.1 x.2 = 0) → (∀ c, putSection (camCtx s k) id b = some c →
      ∃ t, exec (.camConfig r) s = .next t ∧ Replied 0x0A01#16 r stOk 0 []
        { s with cam := { s.cam with ctx := vset s.cam.ctx k { c with seq := (c.seq + 1) % 4294967296 } } } t) ∧
      (putSection (camCtx s k) id b = none → ∃ t, exec (.camConfig r) s = .next t ∧ Replied 0x0A01#16 r stBadArg 0 [] s t))) ∧
  (∀ (r : Req) (s : State) (c : CamCtx), Issued r s → Names r kContext s → s.line.st ≠ .booted →
    ctxRunning s (objIdx r.obj) = true → r.mods = 0#16 → camParse (camCtx s (objIdx r.obj)) r.payload = .inr c →
        ∃ t, exec (.camConfig r) s = .next t ∧ Replied 0x0A01#16 r stState 0 [] s t) ∧
  (∀ (r : Req) (s : State) (n : Nat), Issued r s → FullRun s → Names r kCamera s → n = objIdx r.obj → ModsWithin r 1 → Shaped r [.u 1, .u 2] →
    s.line.st ≠ .booted → arg r 0 1 < 4 →
    (if r.mods = 1#16 then 64 ≤ arg r 2 2 ∧ arg r 2 2 ≤ 2048 else camW s n ≤ 8192) →
    (let x := camRx s (1 - n)
     let held : Prop := (x.armed = true ∧ x.ctx = arg r 0 1) ∨ ∃ st fs, x.switch = some (arg r 0 1, st, fs)
     let px : Option Nat := if r.mods = 1#16 then some (arg r 2 2) else none
     (¬ held → (camRx s n).armed = false → ∃ t u, exec (.camStart r) s = .next t ∧ Replied 0x0A02#16 r stOk 0 [] u t ∧
       (camRx u n).armed = true ∧ (camRx u n).ctx = arg r 0 1 ∧ (camRx u n).stripe = px ∧ (camRx u n).lastFrame = none ∧
       (camRx u n).expInForce = 0xFFFFFFFF ∧ (camRx u n).gainInForce = 0xFFFFFFFF ∧ (camRx u n).number = (camRx s n).number ∧
       (∀ m, m ≠ n → camRx u m = camRx s m) ∧ u.cam.ctx = s.cam.ctx ∧ u.line = s.line) ∧
     (¬ held → (camRx s n).armed = true → ∃ t u, exec (.camStart r) s = .next t ∧ Replied 0x0A02#16 r stOk 0 [] u t ∧
       (∃ fs, (camRx u n).switch = some (arg r 0 1, px, fs) ∧ (camRx s n).number < fs ∧
         ∀ x ∈ (camRx s n).settings, x.frame ≤ fs) ∧
       (camRx u n).ctx = (camRx s n).ctx ∧ (∀ m, m ≠ n → camRx u m = camRx s m) ∧ u.cam.ctx = s.cam.ctx ∧ u.line = s.line) ∧
     (held → ∃ t, exec (.camStart r) s = .next t ∧ Replied 0x0A02#16 r stBusy 0 [] s t))) ∧
  (∀ (r : Req) (s : State) (n : Nat), Serves r.chan s → Names r kCamera s → n = objIdx r.obj → r.mods = 0#16 → r.payload = [] →
    s.line.st ≠ .booted →
    ((camRx s n).armed = false → ∃ t, exec (.camStop r) s = .next t ∧ Replied 0x0A03#16 r stOk 0 [] s t) ∧
    ((camRx s n).armed = true → (camRx s n).cur = none → s.fw.busy = none → s.fw.urgBusy = none →
      ∃ t u, exec (.camStop r) s = .next t ∧ Replied 0x0A03#16 r stOk 0 [] u t ∧ (camRx u n).armed = false ∧
        (camRx u n).switch = none ∧ (camRx u n).settings = [] ∧ (camRx u n).inputs = (camRx s n).inputs ∧
        (camRx u n).outQ = (camRx s n).outQ ∧ (∀ m, m ≠ n → camRx u m = camRx s m) ∧ u.line = s.line) ∧
    (∀ f, (camRx s n).armed = true → (camRx s n).cur = some f → ∃ t, exec (.camStop r) s = .next t ∧
      Waits 0x0A03#16 r (.camStop n) t ∧ (camRx t n).stopping = true ∧ (camRx t n).armed = true ∧ (camRx t n).switch = none ∧
      (camRx t n).settings = [] ∧ (camRx t n).cur = some f ∧ t.line = s.line)) ∧
  (∀ (r : Req) (s : State) (n : Nat), Issued r s → Names r kCamera s → n = objIdx r.obj → r.mods = 0#16 → Shaped r [.u 4, .u 1, .u 4] →
    (camRx s n).armed = true → arg r 4 1 < 2 → s.fw.deferred.length < 16 →
    (let f := arg r 0 4
     let gain := decide (arg r 4 1 = 1)
     let least := (match (camRx s n).lastFrame with | some k => k + 2 | none => 1) + latency s n gain
     (least ≤ f → ∃ t u, exec (.camSensor r) s = .next t ∧ Replied 0x0A04#16 r stDeferred 0 [] u t ∧
       (camRx u n).settings = ((camRx s n).settings.filter fun x => !(x.gain == gain && x.frame == f)) ++
         [{ gain := gain, frame := f, value := arg r 8 4, started := false, ended := false }] ∧
       (∃ d ∈ u.fw.deferred, d.tag = r.tag ∧ d.verb = 0x0A04#16 ∧ d.act = .camSensor n f gain (arg r 8 4)) ∧
       (camRx u n).cur = (camRx s n).cur ∧ u.cam.bus = s.cam.bus ∧ u.line = s.line) ∧
     (f < least → ∃ t, exec (.camSensor r) s = .next t ∧ Replied 0x0A04#16 r stBadArg 0 [] s t)))

/-- R406, R407, R443, R613 to R620, R623 to R627, R647, R649, R652 to R655: the cameras' events. An accepted Frame Start opens the
next frame number, or drops it when
both input buffers are held. A row of full width is taken, one whose CRC fails is replaced, one outside a frame is stray.
The last Frame End completes the frame, which waits for the pipeline; a time-out ends it, and one with no row is dropped. The
pipeline's last unit leaves the frame for delivery, chunk by chunk, each in its ring's turn. A sensor write that fails is made again, twice. The
model's choices that bear on it: log 15, log 63. -/
def Obligations.CameraEvents : Prop :=
  let runs (s : State) (n : Nat) : Prop := rxRuns s n = true ∧ (camRx s n).ulps = false
  let written (s t : State) (k : Nat) (e : Desc) (status info : Nat) (data : List Byte) : Prop :=
    Out.hostWrite (descAddr (ring s k) (ring s k).head.toNat + 0x10)
      (doneHalf data.length info status (lapOf (ring s k) (ring s k).head.toNat)) ∈ t.outbox ∧
    (data ≠ [] → Out.hostWrite e.addr data ∈ t.outbox) ∧ (ring t k).head = (ring s k).head + 1#16
  let rxed (n : Nat) (g : CamRx → CamRx) (s : State) : State := { s with cam := { s.cam with rx := vmod s.cam.rx n g } }
  (∀ (s : State) (n vc : Nat), runs s n →
    ((camRx s n).armed = false → ∃ t, exec (.frameStart n vc 0) s = .next t ∧ Same s t) ∧
    (∃ t, exec (.frameStart n vc 2) s = .next t ∧
      Same (rxed n (fun r => { r with counts := { r.counts with eccBad := r.counts.eccBad + 1 } }) s) t) ∧
    ((camRx s n).armed = true → (camRx s n).stopping = false → (camRx s n).cur = none → (camRx s n).switch = none →
      (camRx s n).settings = [] → vcExposure (camCtx s (camRx s n).ctx) vc = some 0 → ∃ t f, exec (.frameStart n vc 0) s = .next t ∧
        (camRx t n).cur = some f ∧ f.number = ((camRx s n).number + 1) % 4294967296 ∧ (camRx t n).number = f.number ∧
        (camRx t n).lastFrame = some f.number ∧ f.issueNs = sysNs s ∧ f.ctx = (camRx s n).ctx ∧
        f.seq = (camCtx s (camRx s n).ctx).seq ∧ f.exposureVal = (camRx s n).expInForce ∧ f.gainVal = (camRx s n).gainInForce ∧
        f.exps.length = (camCtx s (camRx s n).ctx).exposures ∧ f.dropped = decide (2 ≤ (camRx s n).inputs.length) ∧
        (f.dropped = true → ∃ o ∈ (camRx t n).outQ, o.number = f.number ∧ o.cause = 1) ∧
        (f.dropped = false → (camRx t n).outQ = (camRx s n).outQ) ∧ (camRx t n).inputs = (camRx s n).inputs) ∧
    (∀ f e x, (camRx s n).armed = true → (camRx s n).cur = some f → vcExposure (camCtx s f.ctx) vc = some (e + 1) →
      f.exps[e + 1]? = some x → x.begun = false → ∃ t f', exec (.frameStart n vc 0) s = .next t ∧ (camRx t n).cur = some f' ∧
        f'.exps = f.exps.set (e + 1) { x with begun := true } ∧ f'.number = f.number)) ∧
  (∀ (s : State) (n vc e wc : Nat) (samples : List Nat) (crcOk : Bool) (d : DCamera) (f : CamFrame) (x : CamExp),
    runs s n → dCamera? s n = some d → 1 ≤ d.bits → d.bits ≤ 16 → (camRx s n).cur = some f → f.dropped = false →
    vcExposure (camCtx s f.ctx) vc = some e → f.exps[e]? = some x → x.begun = true → x.ended = false → x.rows.length < d.height →
    wc * 8 = d.bits * d.width → samples.length = d.width → (∀ v ∈ samples, v < 2 ^ d.bits) →
    ∃ t f', exec (.cameraRow n vc (rawType d.bits) wc samples crcOk 0) s = .next t ∧ (camRx t n).cur = some f' ∧
      f'.number = f.number ∧ f'.flags = (if crcOk then f.flags else f.flags ||| 16) ∧
      (camRx t n).counts = { (camRx s n).counts with rowCrc := (camRx s n).counts.rowCrc + if crcOk then 0 else 1 } ∧
      f'.exps = f.exps.set e { x with rows := x.rows ++ [
        if crcOk then samples.map fun v => v * 2 ^ (16 - d.bits)
        else if x.rows.length < 2 then List.replicate d.width 0 else x.rows.getD (x.rows.length - 2) []] }) ∧
  (∀ (s : State) (n vc e wc : Nat) (samples : List Nat) (crcOk : Bool) (d : DCamera), runs s n → dCamera? s n = some d →
    (camRx s n).cur = none → vcExposure (camCtx s (camRx s n).ctx) vc = some e →
    ∃ t, exec (.cameraRow n vc (rawType d.bits) wc samples crcOk 0) s = .next t ∧
      Same (rxed n (fun r => { r with counts := { r.counts with stray := r.counts.stray + 1 } }) s) t) ∧
  (∀ (s : State) (n vc e : Nat) (f : CamFrame) (x : CamExp), runs s n → (camRx s n).cur = some f →
    vcExposure (camCtx s f.ctx) vc = some e → f.exps[e]? = some x → x.begun = true →
    ((∃ y ∈ f.exps.set e { x with ended := true }, y.ended = false) → ∃ t, exec (.frameEnd n vc 0) s = .next t ∧
      Same (rxed n (fun r => { r with cur := some { f with exps := f.exps.set e { x with ended := true } } }) s) t) ∧
    (f.exps = [x] → f.dropped = false → (camRx s n).stopping = false → 0 < camH s n → x.rows.length = camH s n →
      ∃ t f', exec (.frameEnd n vc 0) s = .next t ∧ (camRx t n).cur = none ∧ f' ∈ (camRx t n).inputs ∧ f'.number = f.number ∧
        f'.exps = [{ x with ended := true }])) ∧
  (∀ (s : State) (n : Nat) (f : CamFrame), (camRx s n).cur = some f →
    (s.localNs < f.openedAt + (camCtx s f.ctx).timeoutMs * 1000000 → ∃ t, exec (.frameTimeout n) s = .next t ∧ Same s t) ∧
    (f.openedAt + (camCtx s f.ctx).timeoutMs * 1000000 ≤ s.localNs → rxRuns s n = true → (camRx s n).stopping = false →
      f.dropped = false → ((f.exps.head?.map CamExp.rows).getD []) = [] → ∃ t, exec (.frameTimeout n) s = .next t ∧
        (camRx t n).cur = none ∧ (∃ o ∈ (camRx t n).outQ, o.number = f.number ∧ o.cause = 3) ∧
        (camRx t n).counts.dropped = (camRx s n).counts.dropped + 1 ∧ (camRx t n).inputs = (camRx s n).inputs)) ∧
  (∀ (s : State) (n : Nat) (f : CamFrame), (camRx s n).cur = some f → f.dropped = false → rxRuns s n = true →
    ∃ t f', exec (.inputFifoOverflow n) s = .next t ∧ (camRx t n).cur = some f' ∧ f'.dropped = true ∧ f'.number = f.number ∧
      (∃ o ∈ (camRx t n).outQ, o.number = f.number ∧ o.cause = 2) ∧
      (camRx t n).counts.dropped = (camRx s n).counts.dropped + 1 ∧ t.line = s.line) ∧
  (∀ (s : State) (n : Nat) (b : Bool), rxRuns s n = true →
    (∃ t, exec (.csiDeskew n) s = .next t ∧ Same (rxed n (fun r => { r with deskews := r.deskews + 1 }) s) t) ∧
    (∃ t, exec (.csiUlps n b) s = .next t ∧ Same (rxed n (fun r => { r with ulps := b }) s) t)) ∧
  (∀ (s : State) (n : Nat) (f : CamFrame) (fs : List CamFrame), n < 2 → s.cam.unit = some n → (camRx s n).inputs = f :: fs →
    dpClk s = true →
    (f.units + 1 < unitsOf f (camW s n) → ∃ t f', exec .pipelineUnitEnd s = .next t ∧ (camRx t n).inputs = f' :: fs ∧
      f'.units = f.units + 1 ∧ (camRx t n).outQ = (camRx s n).outQ) ∧
    (unitsOf f (camW s n) ≤ f.units + 1 → ∃ t o, exec .pipelineUnitEnd s = .next t ∧ o ∈ (camRx t n).outQ ∧ o.number = f.number ∧
      o.cause = 0 ∧ o.rows = outRows (pipeIn (camCtx s f.ctx) (camW s n) (camH s n) f) ∧ (camRx t n).inputs.length = fs.length)) ∧
  (∀ (s : State) (n k : Nat) (d : Desc) (o : CamOut), n < 2 → deliverable s n = some o → ringOf s (8 + n) = some k →
    ringTurn s k = true → hostReach s = true → dpClk s = true →
    (nextChunk o d.len = none → ∃ t, exec (.cameraChunkDelivery n d) s = .next t ∧ t.cam = s.cam ∧ t.deliv.turn = k ∧
      written s t k d 2 o.number []) ∧
    (∀ b o' last, nextChunk o d.len = some (b, o', last) → ∃ t, exec (.cameraChunkDelivery n d) s = .next t ∧
      (camRx t n).outQ = (if last then (camRx s n).outQ.drop 1 else o' :: (camRx s n).outQ.drop 1) ∧
      t.deliv.turn = k ∧ written s t k d 0 o.number b)) ∧
  (∀ (s : State) (w : CamWrite), s.cam.bus = [w] → w.tries ≠ 0 → dpClk s = true →
    (∃ t, exec (.sensorWriteEnd true) s = .next t ∧ t.cam.bus = [] ∧ ∀ x ∈ (camRx t w.rx).settings, x.gain = w.gain →
      x.frame = w.frame → x.ended = true) ∧
    (w.tries < 3 → writePending s w = true → ∃ t, exec (.sensorWriteEnd false) s = .next t ∧
      Same { s with cam := { s.cam with bus := [{ w with tries := w.tries + 1 }] } } t ∧
      Out.sensorWrite w.rx (sensorBytes s w) ∈ t.outbox) ∧
    (3 ≤ w.tries → writePending s w = true → w.rx < 2 → ∃ t, exec (.sensorWriteEnd false) s = .next t ∧ t.cam.bus = [] ∧
      (∀ x ∈ (camRx t w.rx).settings, x.gain ≠ w.gain ∨ x.frame ≠ w.frame) ∧
      (if w.gain then (camRx t w.rx).gainFail else (camRx t w.rx).expFail) ≠ none))

/-! ### The Prism link (chapter 14) -/

/-- R191, R192, R674, R676, R678, R692, R696, R698, R699, R704, R706: the PRISM verbs. PRISM.JOIN enables the declared ports, and is answered at
once on a root that has its nodes. PRISM.LEAVE sends LEAVE up and disables the ports, the one toward the parent once
LEAVE has gone. PRISM.SCHEDULE is deferred to its time, and refused within
8 µs of it. PRISM.RELAY cuts its packet into fragments toward the node, or queues it on the node itself. PRISM.SWAP asks the
neighbour. PRISM.STATUS answers 24 bytes. The model's choices that bear on it: log 16, log 53, log 54, log 55, log 56. -/
def Obligations.PrismVerbs : Prop :=
  let open_ (s : State) (p : Nat) : Prop := portLive (pport s p) = true ∧ (pport s p).closing = false
  (∀ (r : Req) (s : State), Issued r s → r.obj = 0#16 → r.mods = 0#16 → r.payload = [] →
    (s.line.st = .declared ∨ s.line.st = .ready) →
    (dPrism? s = none → ∃ t, exec (.prismJoin r) s = .next t ∧ Replied 0x0C01#16 r stState 0 [] s t) ∧
    (∀ d, dPrism? s = some d →
      (s.prism.root = true → s.prism.expect ≤ nodesPresent s → ∃ t u, exec (.prismJoin r) s = .next t ∧
        Replied 0x0C01#16 r stOk 0 [] u t ∧ u.prism.join = .joined ∧ u.prism.depth = 0 ∧ u.prism.joinAt = none ∧
        (∀ p, p < 3 → pDeclared s p = true → (pport u p).enabled = true) ∧ u.line = s.line) ∧
      (s.prism.root = true → nodesPresent s < s.prism.expect → ∃ t, exec (.prismJoin r) s = .next t ∧
        Waits 0x0C01#16 r .prismJoin t ∧ t.prism.join = .joined ∧ t.prism.joinAt = some s.localNs ∧ t.line = s.line) ∧
      (s.prism.root = false → s.prism.join = .joined → ∃ t, exec (.prismJoin r) s = .next t ∧
        Replied 0x0C01#16 r stOk 0 [] s t) ∧
      (s.prism.root = false → s.prism.join = .off → ∃ t, exec (.prismJoin r) s = .next t ∧ Waits 0x0C01#16 r .prismJoin t ∧
        (t.prism.join = .linking ∨ t.prism.join = .asked) ∧ t.prism.joinAt = some s.localNs ∧
        (∀ p, p < 3 → pDeclared s p = true → (pport t p).enabled = true) ∧ t.line = s.line))) ∧
  (∀ (r : Req) (s : State), Issued r s → r.obj = 0#16 → r.mods = 0#16 → r.payload = [] →
    (s.line.st = .declared ∨ s.line.st = .ready) → ∃ t u, exec (.prismLeave r) s = .next t ∧ Replied 0x0C02#16 r stOk 0 [] u t ∧
      u.prism.join = .off ∧ u.prism.agree = none ∧ u.prism.minors = [] ∧ u.line = s.line ∧
      (∀ p, p < 3 → s.prism.root = true ∨ s.prism.incident ≠ some p → pport u p = {}) ∧
      (∀ p, p < 3 → s.prism.root = false → s.prism.incident = some p → open_ s p → (pport u p).closing = true ∧
        (pport u p).st = .linked ∧ (pport u p).ids = [] ∧ Owed p 0x13 0xFFFD (leBytes 2 (nodeId s)) u)) ∧
  (∀ (r : Req) (s : State) (k : Nat), Issued r s → r.obj = 0#16 → k < 2 → r.mods = h16 k → Shaped r [.u 8, .u 4] →
    s.prism.root = true → s.prism.join = .joined → s.line.st = .capturing →
    (sysNs s + 8000 ≤ arg r 0 8 → s.fw.deferred.length < 16 → ∃ t u, exec (.prismSchedule r) s = .next t ∧
      Replied 0x0C03#16 r stDeferred 0 [] u t ∧ u.fw.deferred = s.fw.deferred ++
        [{ tag := r.tag, verb := 0x0C03#16, obj := r.obj, act := .schedule (k == 1) (arg r 0 8) (arg r 8 4), acted := none }] ∧
      (k = 1 ∨ s.line.system = true → ∀ q ∈ pDownPorts s, (pport s q).closing = false →
        Owed q 0x0A 0xFFFF (leBytes 8 (arg r 0 8) ++ leBytes 4 (arg r 8 4) ++
        leBytes 2 (s.prism.run.getD s.prism.runId) ++ [b8 (k + 1)]) u) ∧ u.line = s.line) ∧
    (arg r 0 8 < sysNs s + 8000 → ∃ t, exec (.prismSchedule r) s = .next t ∧ Replied 0x0C03#16 r stBadArg 0 [] s t)) ∧
  (∀ (r : Req) (s : State) (node : Nat) (b : List Byte), Issued r s → r.obj = 0#16 → r.mods = 0#16 →
    r.payload = leBytes 2 node ++ b → node < 65536 → 16 ≤ b.length → b.length ≤ 4072 → uAt b 8 2 < 4096 → packetLen b = b.length →
    uAt b 3 1 ≠ 0xF0 → uAt b 10 1 = 0 → uAt b 2 2 ≠ 0x0C04 →
    (s.prism.join ≠ .joined → ∃ t, exec (.prismRelay r) s = .next t ∧ Replied 0x0C04#16 r stState 0 [] s t) ∧
    (∀ q, s.prism.join = .joined → node ≠ nodeId s → pPortOf s node = some q → open_ s q →
      ∃ t, exec (.prismRelay r) s = .next t ∧ t.fw.relaying = some ({ verb := 0x0C04#16, req := r }, node, some q) ∧
        t.prism.relayId = (s.prism.relayId + 1) % 65536 ∧ (∀ c ∈ pFragments s.prism.relayId false b, Owed q 0x10 node c t) ∧
        t.line = s.line) ∧
    (s.prism.join = .joined → node = nodeId s → s.prism.relayQ.length < 16 → ∃ t, exec (.prismRelay r) s = .next t ∧
      t.fw.relaying = some ({ verb := 0x0C04#16, req := r }, node, none) ∧
      t.prism.relayQ = s.prism.relayQ ++ [{ src := node, id := s.prism.relayId, reply := false, bytes := b }] ∧ t.line = s.line) ∧
    (s.prism.join = .joined → node ≠ nodeId s → pPortOf s node = none → s.prism.root = true →
      ∃ t, exec (.prismRelay r) s = .next t ∧ Replied 0x0C04#16 r stState 0x0105 []
        { s with prism := { s.prism with relayId := (s.prism.relayId + 1) % 65536 } } t)) ∧
  (∀ (r : Req) (s : State) (p : Nat), Issued r s → Names r kPort s → p = objIdx r.obj → r.mods = 0#16 → r.payload = [] →
    s.prism.join = .joined → s.line.st = .ready →
    (swapPort s p = true → (s.prism.root = true → ∃ a, (pport s p).child = some a ∧ a.readiness = 1) → swapDepthOk s p = true →
      (pport s p).closing = false → ∃ t, exec (.prismSwap r) s = .next t ∧ Waits 0x0C05#16 r .prismSwap t ∧ (pport t p).swap = .asked ∧
        Owed p 0x11 0xFFFE (leBytes 2 (nodeId s)) t ∧ t.prism.root = s.prism.root ∧ t.line = s.line) ∧
    (swapPort s p = false → ∃ t, exec (.prismSwap r) s = .next t ∧ Replied 0x0C05#16 r stState 0 [] s t)) ∧
  (∀ (r : Req) (s : State), Serves r.chan s → r.obj = 0#16 → r.mods = 0#16 → r.payload = [] → s.line.st ≠ .booted →
    (let rest := [b8 (if s.prism.join = .joined then s.prism.depth else 255), b8 (roleByte s)] ++ leBytes 2 (aggregate s).nodes ++
       [0#8, 0#8] ++ leBytes 8 (systemDigest s) ++ leInt 4 s.prism.offset ++ leBytes 4 (agreementFlags s)
     (∀ c, s.prism.cfg = some c → ∃ t, exec (.prismStatus r) s = .next t ∧
       Replied 0x0C06#16 r stOk 0 (leBytes 2 c.nodeId ++ rest) s t) ∧
     (s.prism.cfg = none → ∃ t id, exec (.prismStatus r) s = .next t ∧
       Replied 0x0C06#16 r stOk 0 (leBytes 2 id ++ rest) { s with freeCtr := s.freeCtr + 1 } t)))

/-- R664 to R682, R686, R687, R689, R705, R707: a Prism port and the tree. A message with a bad CRC or a skipped SEQ is answered
with NAK; one in order is applied. What is not acknowledged is sent again, and the 16th time takes the port DOWN. HELLO links the
port or finds it foreign. JOIN_REQ goes up, the root's JOIN_ANS down; LEAVE empties the sets. The delays are measured, TIME
disciplines the node's clock and goes on down, STATE goes up, and AGREE down. The model's choices that bear on it: log 53,
log 54, log 56. -/
def Obligations.PrismLinkRows : Prop :=
  let ported (p : Nat) (g : PrismPort → PrismPort) (s : State) : State :=
    { s with prism := { s.prism with ports := vmod s.prism.ports p g } }
  let open_ (s : State) (p : Nat) : Prop := portLive (pport s p) = true ∧ (pport s p).closing = false
  let onLink (p : Nat) (s : State) : Prop := p < 3 ∧ rootClks s = true ∧ (pport s p).enabled = true ∧ portLive (pport s p) = true
  let naked (p : Nat) (s : State) : State :=
    ported p (fun x => { x with tx := { x.tx with naks := x.tx.naks ++ nakSymbols x.rxSeq } }) s
  (∀ (s : State) (p : Nat) (rx : PrismRx) (b : List Byte),
    (onLink p s → prismMessage rx = none → ∃ t, exec (.nop p rx) s = .next t ∧ Same (naked p s) t) ∧
    (onLink p s → prismMessage rx = some b → crc32 (b.take 28) ≠ w32 (uAt b 28 4) →
      ∃ t, exec (.nop p rx) s = .next t ∧ Same (naked p s) t) ∧
    (onLink p s → prismMessage rx = some b → crc32 (b.take 28) = w32 (uAt b 28 4) → uAt b 0 1 = 1 →
      uAt b 2 2 = ((pport s p).rxSeq + 1) % 65536 → (pport s p).rxSeq < 65536 →
      ∃ t, exec (.nop p rx) s = .next t ∧ Same (naked p s) t) ∧
    (Comes p 1 rx b s → ∃ t, exec (.nop p rx) s = .next t ∧
      Same (ported p (fun x => { pAcked (uAt b 4 2) x with rxSeq := (x.rxSeq + 1) % 65536, appliedAt := s.localNs }) s) t)) ∧
  (∀ (s : State) (p n q k t0 : Nat) (rx : PrismRx) (m : PMsg), p < 3 → rootClks s = true → portLive (pport s p) = true →
    nakSeq rx = some n → (pport s p).unacked = [(q, m, k, t0)] →
    (k < 16 → (∃ t, exec (.nak p rx) s = .next t ∧ Same (ported p (fun x => { x with tx := { x.tx with again := [q] } }) s) t) ∧
      ((pport s p).tx.again = [] → t0 + 1000 ≤ s.localNs → ∃ t, exec (.retransmitTimeout p) s = .next t ∧
        Same (ported p (fun x => { x with tx := { x.tx with again := [q] } }) s) t)) ∧
    (16 ≤ k → ∃ t, exec (.nak p rx) s = .next t ∧ (pport t p).st = .down)) ∧
  (∀ (s : State) (p : Nat), p < 3 → rootClks s = true → open_ s p →
    ((pport s p).queue = [] → (pport s p).tx.again = [] → (pport s p).sentAt + 10000 ≤ s.localNs →
      ∃ t, exec (.nopTimer p) s = .next t ∧ Owed p 1 0xFFFE [] t ∧ t.line = s.line) ∧
    ((pport s p).delayAt + 1000000 ≤ s.localNs → ∃ t, exec (.delayReqTimer p) s = .next t ∧ Owed p 5 0xFFFE [] t ∧
      (pport t p).delayAt = s.localNs ∧ t.line = s.line)) ∧
  (∀ (s : State) (p : Nat), p < 3 → rootClks s = true → (pport s p).enabled = true → (pport s p).tx.raw = [] →
    ((pport s p).helloSent = false ∨ (pport s p).helloAt + 100000 ≤ s.localNs) →
    ((pport s p).st = .down → ∃ t, exec (.helloTimer p) s = .next t ∧
      Same (ported p (fun x => { x with helloAt := s.localNs, tx := { x.tx with
        raw := [{ type := 2, src := nodeId s, dst := 0xFFFE, body := pBody (helloBody p s) }] } }) s) t) ∧
    ((pport s p).st = .linked → (pport s p).closing = false → ∃ t, exec (.helloTimer p) s = .next t ∧
      Owed p 2 0xFFFE (helloBody p s) t ∧ (pport t p).helloAt = s.localNs)) ∧
  (∀ (s : State) (p : Nat) (rx : PrismRx) (b : List Byte) (c : DPrism), p < 3 → rootClks s = true → (pport s p).enabled = true →
    portLive (pport s p) = false → prismMessage rx = some b → crc32 (b.take 28) = w32 (uAt b 28 4) → uAt b 0 1 = 2 →
    s.prism.cfg = some c → ∃ t h, exec (.hello p rx) s = .next t ∧ (pport t p).hello = some h ∧ h.systemId = pField b 0 4 ∧
      h.depth = pField b 7 1 ∧
      ((pport s p).helloSent = false → (pport t p).st = (pport s p).st) ∧
      ((pport s p).helloSent = true →
        (pField b 0 4 = c.systemId → (pField b 6 1 == 1) ≠ pRefracted s p → (pport t p).st = .linked ∧ (pport t p).rxSeq = 0) ∧
        (pField b 0 4 ≠ c.systemId ∨ (pField b 6 1 == 1) = pRefracted s p → (pport t p).st = .foreign))) ∧
  (∀ (s : State) (p : Nat) (rx : PrismRx), p < 3 → (pport s p).st ≠ .down →
    (4 ≤ codeErrors prismSyms rx.pos (rx.groups.take 1024) ∨ (pport s p).appliedAt + 100000 ≤ s.localNs ∨
      pSpent (pport s p) = true) → ∃ t, exec (.portDown p rx) s = .next t ∧ (pport t p).st = .down ∧
      (pport t p).ids = [] ∧ (pport t p).unacked = [] ∧
      ((pport s p).closing = false → (pport t p).enabled = (pport s p).enabled) ∧
      ((pport s p).st = .joined → s.prism.incident = some p → t.prism.join = .linking ∧ t.prism.orphan = true)) ∧
  (∀ (s : State) (p : Nat) (rx : PrismRx) (b : List Byte), Comes p 3 rx b s → s.prism.join = .joined → s.prism.incident ≠ some p →
    (let node := pField b 0 2
     let depth := pField b 4 1
     (s.prism.root = true → fwRunning s = true → (pport s p).closing = false → pField b 2 1 = fwMajor s → depth ≤ 15 →
       node ≠ nodeId s →
       pPortOf s node = none → ∃ t, exec (.joinReq p rx) s = .next t ∧ (pport t p).st = .joined ∧ node ∈ (pport t p).ids ∧
         (node, pField b 3 1) ∈ t.prism.minors ∧ Owed p 4 node (leBytes 2 node ++ [0#8, b8 depth]) t) ∧
     (s.prism.root = true → fwRunning s = true → (pport s p).closing = false → pField b 2 1 ≠ fwMajor s →
       ∃ t, exec (.joinReq p rx) s = .next t ∧
       (pport t p).st = (pport s p).st ∧ (pport t p).ids = (pport s p).ids ∧
       Owed p 4 node (leBytes 2 node ++ [3#8, b8 depth]) t) ∧
     (∀ q, s.prism.root = false → s.prism.incident = some q → open_ s q →
       ∃ t, exec (.joinReq p rx) s = .next t ∧ t.prism.joining = s.prism.joining ++ [(node, p)] ∧
         Owed q 3 0xFFFD (pBodyOf b) t))) ∧
  (∀ (s : State) (p : Nat) (rx : PrismRx) (b : List Byte), Comes p 4 rx b s → s.prism.incident = some p → s.prism.join = .asked →
    pField b 0 2 = nodeId s →
    (pField b 2 1 = 0 → ∃ t, exec (.joinAns p rx) s = .next t ∧ (pport t p).st = .joined ∧
      t.prism.join = .answered false false ∧ t.prism.depth = pField b 3 1) ∧
    (pField b 2 1 ≠ 0 → ∃ t, exec (.joinAns p rx) s = .next t ∧ t.prism.join = .off ∧
      ∀ c, s.fw.busy = some (c, .prismJoin) → t.fw.busy = none)) ∧
  (∀ (s : State) (p : Nat) (rx : PrismRx) (b : List Byte), Comes p 0x13 rx b s → s.prism.incident ≠ some p → s.prism.root = true →
    ∃ t, exec (.leave p rx) s = .next t ∧ (pport t p).ids = (pport s p).ids.filter (fun n => n != pField b 0 2) ∧
      (∀ m ∈ t.prism.minors, m.1 ≠ pField b 0 2) ∧ ((pport s p).childId = some (pField b 0 2) → (pport t p).st = .linked)) ∧
  (∀ (s : State) (t0 : Nat), s.prism.joinAt = some t0 → t0 + 60000000000 ≤ s.localNs → fwRunning s = true →
    ∃ t, exec .joinTimeout s = .next t ∧ t.prism.joinAt = none ∧ (s.prism.root = false → t.prism.join = .off) ∧
      ∀ c, s.fw.busy = some (c, .prismJoin) → t.fw.busy = none) ∧
  (∀ (s : State) (p : Nat) (rx : PrismRx) (b : List Byte), Comes p 5 rx b s → (pport s p).closing = false →
    ∃ t, exec (.delayReq p rx) s = .next t ∧
    Owed p 6 0xFFFE (leBytes 8 (pRxStamp rx s)) t) ∧
  (∀ (s : State) (p t1 : Nat) (rx : PrismRx) (b : List Byte), Comes p 6 rx b s → (pport s p).t1 = some t1 →
    ∃ t, exec (.delayResp p rx) s = .next t ∧ (pport t p).t1 = none ∧ (pport t p).delays =
      ((signed 64 (pRxStamp rx s + 2 ^ 64 - t1) - signed 64 (pField b 8 8 + 2 ^ 64 - pField b 0 8)) :: (pport s p).delays).take 8) ∧
  (∀ s : State, s.prism.root = true → s.prism.join = .joined → rootClks s = true →
    (s.prism.timeAt + 1000000 ≤ sysNs s ∨ sysNs s < s.prism.timeAt) →
    ∃ t, exec .timeTimer s = .next t ∧ t.prism.timeAt = sysNs s ∧
      (∀ q ∈ pDownPorts s, (pport s q).closing = false → Owed q 7 0xFFFE (leBytes 8 0 ++ leInt 4 s.prism.offset ++ [b8 s.prism.depth]) t) ∧
      ((∀ q ∈ pDownPorts s, (pport s q).swap ≠ .agreed) → t.prism.root = true) ∧
      (∀ q, pDownPorts s = [q] → (pport s q).swap = .agreed → t.prism.root = false ∧ t.prism.incident = some q ∧
        t.prism.depth = 1)) ∧
  (∀ (s : State) (p : Nat) (rx : PrismRx) (b : List Byte), Comes p 7 rx b s → s.prism.incident = some p → (pport s p).st = .joined →
    (pport s p).delays ≠ [] → (pport s p).swap ≠ .agreed → s.prism.join = .joined →
    (let l := (pport s p).delays
     let θ : Rat := ((signed 64 (pRxStamp rx s + 2 ^ 64 - pField b 0 8) : Int) : Rat) / 16 - ((l.sum : Int) : Rat) / (32 * (l.length : Rat))
     let small : Prop := noStep s = true ∨ (-1000 ≤ θ ∧ θ ≤ 1000)
     ∃ t, exec (.time p rx) s = .next t ∧ t.prism.depth = pField b 12 1 + 1 ∧
       (small → t.time.sys = s.time.sys % 2 ^ 96 ∧ t.prism.offset = signed 32 (pField b 8 4) + ratRound θ ∧
         t.time.phi = clampR (-1 / 5000) (1 / 5000) (s.time.phi - θ / 256000000) ∧
         t.time.slew = clampR (-1 / 10000) (1 / 10000) (-θ / 16000000)) ∧
       (¬ small → t.time.sys = (((s.time.sys : Int) - (θ * 4294967296).floor) % (2 ^ 96 : Nat)).toNat ∧
         t.prism.offset = signed 32 (pField b 8 4)))) ∧
  (∀ (s : State) (q : Nat), s.prism.root = false → s.prism.join = .joined → rootClks s = true → s.prism.incident = some q →
    open_ s q → (s.prism.sentAgg = none ∨ s.prism.stateAt + 100000 ≤ s.localNs) →
    (let a := aggregate s
     ∃ t, exec .stateTimer s = .next t ∧ t.prism.sentAgg = some a ∧ t.prism.stateAt = s.localNs ∧
       Owed q 8 0xFFFE (leBytes 2 a.nodes ++ leBytes 2 a.leastNode ++ [b8 a.readiness, b8 a.andFlags, b8 a.orFlags, b8 a.minMinor,
         b8 a.maxDepth]) t)) ∧
  (∀ (s : State) (p : Nat) (rx : PrismRx) (b : List Byte), Comes p 8 rx b s → s.prism.incident ≠ some p → (pport s p).st = .joined →
    ∃ t a, exec (.state p rx) s = .next t ∧ (pport t p).child = some a ∧ a.nodes = pField b 0 2 ∧ a.leastNode = pField b 2 2 ∧
      a.readiness = pField b 4 1 ∧ a.andFlags = pField b 5 1 ∧ a.orFlags = pField b 6 1 ∧ a.maxDepth = pField b 8 1) ∧
  (∀ (s : State) (p : Nat) (rx : PrismRx) (b : List Byte), Comes p 9 rx b s → s.prism.incident = some p → pDst b = 0xFFFF →
    ∃ t, exec (.agree p rx) s = .next t ∧ t.prism.agree = some
        { digest := pField b 0 8, expect := pField b 8 2, minor := pField b 10 1, major := pField b 11 1 } ∧
      (∀ q ∈ pDownPorts s, (pport s q).closing = false → Owed q 9 0xFFFF (pBodyOf b) t) ∧ (∀ a, s.prism.join = .answered true a →
        t.prism.join = .joined)) ∧
  (∀ (s : State) (p : Nat) (rx : PrismRx) (b : List Byte), Comes p 0x11 rx b s → (pport s p).swap = .none → (pport s p).closing = false →
    (swapPort s p = true → s.line.st = .ready → swapDepthOk s p = true → ∃ t, exec (.swapReq p rx) s = .next t ∧
      (pport t p).swap = .agreed ∧ Owed p 0x12 0xFFFE (leBytes 2 (pField b 0 2) ++ [0#8]) t ∧ t.line = s.line) ∧
    (s.line.st ≠ .ready → ∃ t, exec (.swapReq p rx) s = .next t ∧ (pport t p).swap = .none ∧
      Owed p 0x12 0xFFFE (leBytes 2 (pField b 0 2) ++ [2#8]) t ∧ t.line = s.line)) ∧
  (∀ (s : State) (p : Nat) (rx : PrismRx) (b : List Byte), Comes p 0x12 rx b s → (pport s p).swap = .asked →
    (pField b 2 1 = 0 → ∃ t, exec (.swapAns p rx) s = .next t ∧ (pport t p).swap = .agreed ∧ t.fw.busy = s.fw.busy) ∧
    (pField b 2 1 ≠ 0 → ∃ t, exec (.swapAns p rx) s = .next t ∧ (pport t p).swap = .none ∧
      ∀ c, s.fw.busy = some (c, .prismSwap) → t.fw.busy = none))

/-- R571, R693 to R700: a joined system's run. ARM arms the node, or fails with its detail, and the answer goes up; the root's
arm ends when every node is in. UNARM, and the root's time-out, undo it. STOP and FREEZE stop the node's run. An event is
armed, and acted on at its time; a start point of a time becomes G₀. RELAY goes toward its node, and there its fragments become
a command, executed in turn. The model's choices that bear on it: log 33, log 34. -/
def Obligations.PrismRunRows : Prop :=
  let open_ (s : State) (p : Nat) : Prop := portLive (pport s p) = true ∧ (pport s p).closing = false
  let comes (p type : Nat) (rx : PrismRx) (b : List Byte) (s : State) : Prop :=
    Comes p type rx b s ∧ s.prism.incident = some p ∧ (pport s p).st = .joined ∧ s.prism.root = false
  (∀ (s : State) (p : Nat) (rx : PrismRx) (b : List Byte), comes p 0x0B rx b s → (pport s p).closing = false → pDownPorts s = [] →
    fwRunning s = true →
    (∀ d, s.decl = some d → s.line.st = .ready → pField b 11 1 = 0 → armWaits s = false →
      firstFail (need (speedOk d (pField b 10 1)) stState 0 :: armChecks d false s ++ nodeChecks s) = none →
      ∃ t, exec (.arm p rx) s = .next t ∧ t.line.st = .armed ∧ t.line.firstLine = pField b 0 4 ∧ t.line.lineCount = pField b 4 4 ∧
        t.line.speed = pField b 10 1 ∧ t.line.system = true ∧ t.prism.run = some (pField b 8 2) ∧
        t.prism.prev = some { line := s.line, streams := s.deliv.streams } ∧
        Owed p 0x0C 0xFFFE (leBytes 2 (pField b 8 2) ++ leBytes 2 1 ++ leBytes 2 0xFFFF ++ leBytes 2 0) t) ∧
    (s.line.st ≠ .ready → s.line.st ≠ .frozen → ∃ t, exec (.arm p rx) s = .next t ∧ t.line = s.line ∧
      Owed p 0x0C 0xFFFE (leBytes 2 (pField b 8 2) ++ leBytes 2 0 ++ leBytes 2 (nodeId s) ++ leBytes 2 0x010C) t)) ∧
  (∀ (s : State) (p : Nat) (rx : PrismRx) (b : List Byte), Comes p 0x0C rx b s → s.prism.root = true → s.prism.incident = none →
    pDownPorts s = [p] → s.prism.run = some (pField b 0 2) → s.prism.ownAns = some { armed := 1, failNode := 0xFFFF, detail := 0 } →
    (1 + pField b 2 2 = (aggregate s).nodes → ∃ t, exec (.armAns p rx) s = .next t ∧ t.prism.armAt = none ∧
      t.prism.run = s.prism.run ∧ t.line = s.line ∧ ∀ c, s.fw.busy = some (c, .systemArm) → t.fw.busy = none) ∧
    (∀ pr, s.prism.prev = some pr → (pport s p).closing = false → 1 + pField b 2 2 ≠ (aggregate s).nodes →
      ∃ t, exec (.armAns p rx) s = .next t ∧
      t.prism.run = none ∧ t.prism.prev = none ∧ Owed p 0x0D 0xFFFF (leBytes 2 (pField b 0 2)) t ∧
      ∀ c, s.fw.busy = some (c, .systemArm) → t.fw.busy = none)) ∧
  (∀ (s : State) (t0 : Nat) (pr : PPrev), s.prism.armAt = some t0 → t0 + 100000000 ≤ s.localNs → s.prism.root = true →
    fwRunning s = true → s.prism.prev = some pr → ∃ t, exec .armTimeout s = .next t ∧ t.prism.armAt = none ∧
      t.prism.run = none ∧ (∀ q ∈ pDownPorts s, (pport s q).closing = false →
        Owed q 0x0D 0xFFFF (leBytes 2 (s.prism.run.getD s.prism.runId)) t) ∧
      ∀ c, s.fw.busy = some (c, .systemArm) → t.fw.busy = none) ∧
  (∀ (s : State) (p : Nat) (rx : PrismRx) (b : List Byte) (pr : PPrev), comes p 0x0D rx b s → s.prism.run = some (pField b 0 2) →
    s.prism.prev = some pr → s.line.st = .armed → (pr.line.st = .ready → anyPortFailed s = false) →
    ∃ t, exec (.unarm p rx) s = .next t ∧ t.line.st = pr.line.st ∧ t.line.firstLine = pr.line.firstLine ∧
      t.line.lineCount = pr.line.lineCount ∧ t.line.resume = pr.line.resume ∧ t.prism.run = none) ∧
  (∀ (s : State) (p : Nat) (rx : PrismRx) (b : List Byte), comes p 0x0E rx b s → s.prism.run = some (pField b 4 2) → s.line.st = .armed →
    s.line.resuming = false →
    (pField b 7 1 = 1 → ∃ t, exec (.stop p rx) s = .next t ∧ t.line = { s.line with
      treeStops := s.line.treeStops ++ [(if pField b 6 1 = 1 then .seam else .endRun, pField b 0 4)] }) ∧
    (pField b 7 1 = 0 → pField b 6 1 = 0 → ∃ t, exec (.stop p rx) s = .next t ∧ t.line.admitting = false ∧
      t.line.drain = .stopEnd 0x0403#16 ∧ t.line.st = .armed)) ∧
  (∀ (s : State) (p : Nat) (rx : PrismRx) (b : List Byte), comes p 0x0F rx b s → s.prism.run = some (pField b 8 2) →
    (s.line.st = .armed ∨ s.line.st = .capturing ∨ s.line.st = .seam) → ∃ t, exec (.freeze p rx) s = .next t ∧
      t.line.frozen = true ∧ t.line.st = .frozen ∧ t.line.admitting = false ∧
      (s.line.st = .capturing ∨ (s.line.st = .armed ∧ s.line.resuming = false) → t.prism.run = none)) ∧
  (∀ (s : State) (p : Nat) (rx : PrismRx) (b : List Byte), comes p 0x0A rx b s →
    (let e : PEvent := { timeNs := pField b 0 8, line := pField b 8 4, runId := pField b 12 2, kind := pField b 14 1 }
     (e.kind = 2 ∨ (e.kind = 1 ∧ s.prism.run = some e.runId) → sysNs s + 500 ≤ e.timeNs → ∃ t, exec (.event p rx) s = .next t ∧
       t.prism.events = s.prism.events ++ [e] ∧ t.line = s.line) ∧
     (e.kind = 2 → e.timeNs < sysNs s + 500 → ∃ t, exec (.event p rx) s = .next t ∧ t.prism.events = s.prism.events ∧
       t.line = s.line) ∧
     (e.kind = 0 → s.prism.run = some e.runId → sysNs s + 500 ≤ e.timeNs → s.line.st = .armed → s.line.resuming = false →
       ∃ t, exec (.event p rx) s = .next t ∧ t.line.start = some (.time e.timeNs) ∧ t.line.admitting = true))) ∧
  (∀ s : State, rootClks s = true →
    (s.prism.events = [] → s.fw.deferred = [] → (∀ t, s.line.start = some (.time t) → sysNs s < t) →
      ∃ t, exec .scheduledEvent s = .next t ∧ Same s t) ∧
    (∀ t0, s.prism.events = [] → s.fw.deferred = [] → s.line.start = some (.time t0) → t0 ≤ sysNs s →
      s.motion.cmp.g0 = none → ∃ t, exec .scheduledEvent s = .next t ∧ t.motion.cmp.index = 0 ∧
        t.motion.cmp.g0 = startGrid .now (encd s (feedEnc s)).count s.motion.cmp.pitch ∧ t.line = s.line) ∧
    (∀ e : PEvent, s.prism.events = [e] → s.fw.deferred = [] → s.line.start = none → e.timeNs ≤ sysNs s → e.kind = 1 →
      s.prism.run = some e.runId → s.line.st = .armed → e.line ≠ 0xFFFFFFFF → ∃ t, exec .scheduledEvent s = .next t ∧
        t.prism.events = [] ∧ t.line = { s.line with treeStops := s.line.treeStops ++ [(.endRun, e.line)] }) ∧
    (∀ (d : Deferred) (mk : Bool) (t0 n : Nat), s.prism.events = [] → s.line.start = none → s.fw.deferred = [d] →
      d.act = .schedule mk t0 n → mk = true → t0 ≤ sysNs s → ∃ t, exec .scheduledEvent s = .next t ∧ t.fw.deferred = [] ∧
        t.line = s.line)) ∧
  (∀ (s : State) (p : Nat) (rx : PrismRx) (b : List Byte), Comes p 0x10 rx b s →
    (let frag := pField b 2 2
     let o (bs : List Byte) : PRelay := { src := pSrc b, id := pField b 0 2, reply := bit frag 14, bytes := bs }
     (∀ q, pDst b ≠ nodeId s → pPortOf s (pDst b) = some q → open_ s q → ∃ t, exec (.relay p rx) s = .next t ∧
       Owed q 0x10 (pDst b) (pBodyOf b) t) ∧
     (∀ q, pDst b ≠ nodeId s → pPortOf s (pDst b) = none → s.prism.root = false → s.prism.incident = some q →
       open_ s q → ∃ t, exec (.relay p rx) s = .next t ∧ Owed q 0x10 (pDst b) (pBodyOf b) t) ∧
     (pDst b = nodeId s → s.prism.relayIn = [] → bit frag 15 = false → ∃ t, exec (.relay p rx) s = .next t ∧
       t.prism.relayIn = [o (bytesAt b 14 14)]) ∧
     (∀ bs, pDst b = nodeId s → s.prism.relayIn = [o bs] → bit frag 15 = true → bit frag 14 = false →
       s.prism.relayQ.length < 16 → ∃ t, exec (.relay p rx) s = .next t ∧ t.prism.relayIn = [] ∧ t.prism.relayQ = s.prism.relayQ ++
         [o ((bs ++ bytesAt b 14 14).take (packetLen (bs ++ bytesAt b 14 14)))]))) ∧
  (∀ (s : State) (x : PRelay) (rest : List PRelay) (q : Nat) (up : List UpDesc) (ok : Bool), s.prism.relayQ = x :: rest →
    fwRunning s = true → s.fw.busy = none → s.prism.relayCur = none → s.urg.slot = none → packetCheck 4080 0 x.bytes = none →
    (∀ e ∈ s.fw.histRing, e.tag ≠ h16 (uAt x.bytes 0 2)) → uAt x.bytes 2 2 = 0x0101 → uAt x.bytes 4 2 = 0 → uAt x.bytes 6 2 = 0 →
    x.src ≠ nodeId s → pPortOf s x.src = some q → open_ s q →
    (let body := (x.bytes.drop 16).take (uAt x.bytes 8 2)
     ∃ t, exec (.relayExecute up ok) s = .next t ∧ t.prism.relayQ = rest ∧ t.prism.relayCur = none ∧
       (∃ e ∈ t.fw.histRing, e.tag = h16 (uAt x.bytes 0 2) ∧ e.status = stOk ∧ e.payload = body.take 48) ∧
       (body.length ≤ 4064 → ∀ c ∈ pFragments x.id true (replyPacket (h16 (uAt x.bytes 0 2)) 0x0101#16 0#16 stOk stOk 0 false body),
         Owed q 0x10 x.src c t)))

/-! ### Power states, wakes, grants and limits (chapters 15 to 17) -/

/-- R717, R719 to R722, R725 to R728: a request for a lower state is refused with the first reason that applies, which puts REQUEST back
to PRESENT, or entry begins; one for Run is never refused; one made while BUSY is stored. Doze ends at its step 5 with retention
memory written and the PLL stopped; Deep standby at the link's handshake, with all but the always-on domain and the persistent stores
lost. Firmware enters Idle, and Doze, by itself after 1 s and 60 s. The loop moves the bias and the duty by the least slack.
The model's choices that bear on it: log 38, log 39, log 40, log 41. -/
def Obligations.PowerRequests : Prop :=
  (∀ (s : State) (v : Word) (c : Instr) (dest : PState),
    (c = .powerRequestIdle v ∧ dest = .idle) ∨ (c = .powerRequestDoze v ∧ dest = .doze) ∨ (c = .powerRequestDeepStandby v ∧ dest = .deep) →
    hostReach s = true → s.dbg.halted = false → s.power.trans = .none → s.power.present = .run → s.power.request = .run →
    ((s.boot.stage ≠ .running → powerRefusal dest s = 1) ∧
     (s.boot.stage = .running → inRun s = true → powerRefusal dest s = 2)) ∧
    (powerRefusal dest s ≠ 0 → ∃ t, exec c s = .next t ∧ t.power = { s.power with
      autoDoze := v.getLsbD 9, autoIdle := v.getLsbD 8, auto := false, refuseReason := powerRefusal dest s } ∧
      t.line = s.line ∧ t.grants = s.grants ∧ t.wake = s.wake ∧ t.ports = s.ports ∧ t.clk = s.clk) ∧
    (powerRefusal dest s = 0 →
      (dest = .idle → ∃ t, exec c s = .next t ∧ t.power = { s.power with
        autoDoze := v.getLsbD 9, autoIdle := v.getLsbD 8, auto := false, request := .idle, present := .idle, biasStep := 0,
        transStart := s.localNs, dozeOkSince := none } ∧ t.line = s.line ∧ t.wake = s.wake ∧ t.clk = s.clk) ∧
      (dest = .doze → ∃ t, exec c s = .next t ∧ t.power = { s.power with
        autoDoze := v.getLsbD 9, autoIdle := v.getLsbD 8, auto := false, request := .doze, trans := .dozeEntry, leaving := .run,
        transStart := s.localNs, idleOkSince := none, dozeOkSince := none } ∧ t.grants.grants = [] ∧ t.lampLink.st = .off ∧
        (∀ n, n < 24 → (sport t n).st = .off) ∧ t.clk = s.clk ∧ t.wake.cause = s.wake.cause) ∧
      (dest = .deep → ∃ t, exec c s = .next t ∧ t.power.trans = .deepEntry ∧ t.power.request = .deep ∧ t.power.present = .run ∧
        t.power.wakeDue = none ∧ t.grants.grants = [] ∧ t.wake.retention.isSome = true ∧ t.store.ageing = s.live.lamps ∧
        t.store.lifetime = s.live.life ∧ t.clk = s.clk ∧ t.wake.cause = s.wake.cause))) ∧
  (∀ (s : State) (v : Word), hostReach s = true → s.dbg.halted = false →
    (s.power.trans ≠ .none → ∃ t, exec (.powerRequestRun v) s = .next t ∧ Same { s with power := { s.power with
      autoDoze := v.getLsbD 9, autoIdle := v.getLsbD 8, stored := some .run } } t) ∧
    (s.power.trans = .none → s.power.present = .idle → (s.power.request = .idle ∨ s.power.auto = true) →
      ∃ t, exec (.powerRequestRun v) s = .next t ∧ t.power = { s.power with
        autoDoze := v.getLsbD 9, autoIdle := v.getLsbD 8, auto := false, request := .run, present := .run,
        transStart := s.localNs, idleOkSince := none } ∧ t.line = s.line ∧ t.wake = s.wake ∧ t.clk = s.clk) ∧
    (s.power.trans = .none → s.power.present = .doze → (s.power.request = .doze ∨ s.power.auto = true) →
      ∃ t, exec (.powerRequestRun v) s = .next t ∧ t.power.trans = .waking ∧ t.power.request = .run ∧ t.power.present = .doze ∧
        t.power.biasStep = 0 ∧ t.wake.cause.getLsbD 7 = true)) ∧
  (∀ s : State, s.power.trans = .dozeEntry → fwRunning s = true → s.power.stored = none →
    ∃ t, exec .dozeDramIdle s = .next t ∧ t.power = { s.power with
      present := .doze, trans := .none, avsDuty := 0, biasStep := 0, avsLimited := false } ∧
      t.clk = { s.clk with pllLocked := false, pllActive := false } ∧ t.wake.retention.isSome = true ∧
      t.store.ageing = s.live.lamps ∧ t.store.lifetime = s.live.life ∧ t.line = s.line ∧ t.wake.cause = s.wake.cause) ∧
  (∀ s : State, s.power.trans = .deepEntry →
    (s.rst.d3hot = false → ∃ t, exec .deepStandbyHandshake s = .next t ∧ Same s t) ∧
    (s.rst.d3hot = true → s.power.wakeDue = none → ∃ t, exec .deepStandbyHandshake s = .next t ∧
      t.power.present = .deep ∧ t.power.seqAt = some s.localNs ∧ t.power.seqDown = true ∧ t.pins.pwrEnCore = false ∧
      t.pins.pwrEnIo = s.pins.pwrEnIo ∧ t.clk.refRunning = false ∧ t.decl = none ∧ t.line.st = .booted ∧ t.wake = s.wake ∧
      t.store = s.store ∧ t.flash = s.flash ∧ t.rst.cause = s.rst.cause)) ∧
  (∀ s : State, s.power.autoIdle = true → s.power.request = .run → s.power.present = .run → s.power.trans = .none →
    fwRunning s = true → powerRefusal .idle s = 0 →
    (∀ o, s.power.idleOkSince = some o →
      (o + 1000000000 ≤ s.localNs → ∃ t, exec .autoIdleTimer s = .next t ∧ t.power = { s.power with
        present := .idle, biasStep := 0, auto := true, transStart := s.localNs, dozeOkSince := none } ∧ t.line = s.line) ∧
      (s.localNs < o + 1000000000 → ∃ t, exec .autoIdleTimer s = .next t ∧ Same s t))) ∧
  (∀ s : State, s.power.autoDoze = true → s.power.auto = true → s.power.present = .idle → s.power.trans = .none →
    fwRunning s = true → powerRefusal .doze s = 0 →
    (∀ o, s.power.dozeOkSince = some o → dPrism? s = none → o + 60000000000 ≤ s.localNs →
      ∃ t, exec .autoDozeTimer s = .next t ∧ t.power = { s.power with
        trans := .dozeEntry, leaving := .idle, transStart := s.localNs, idleOkSince := none, dozeOkSince := none } ∧
        t.grants.grants = []) ∧
    ((∀ o, s.power.dozeOkSince = some o → s.localNs < o + 60000000000) ∨ dPrism? s ≠ none →
      ∃ t, exec .autoDozeTimer s = .next t ∧ Same s t)) ∧
  (∀ (s : State) (slacks : List Int) (least : Int), s.clk.pllActive = true → slacks.length = 16 →
    (s.power.present = .run ∨ (s.power.present = .doze ∧ s.power.trans = .waking)) → s.power.avsAt + 50000 ≤ s.localNs →
    least ∈ slacks → (∀ x ∈ slacks, least ≤ x) →
    (6 ≤ least → least ≤ 12 → ∃ t, exec (.adaptiveLoopTick slacks) s = .next t ∧
      Same { s with power := { s.power with avsLimited := false, avsAt := s.localNs } } t) ∧
    (12 < least → ∃ t, exec (.adaptiveLoopTick slacks) s = .next t ∧ Same { s with power :=
      if 0 < s.power.avsDuty then { s.power with avsDuty := s.power.avsDuty - 16, avsLimited := false, avsAt := s.localNs }
      else { s.power with biasStep := s.power.biasStep - 1, avsLimited := false, avsAt := s.localNs } } t) ∧
    (least < 6 → s.power.biasStep < 15 → ∃ t, exec (.adaptiveLoopTick slacks) s = .next t ∧ Same { s with power :=
      { s.power with biasStep := s.power.biasStep + 1, avsLimited := false, avsAt := s.localNs } } t) ∧
    (least < 6 → s.power.biasStep = 15 → s.power.avsDuty < 1023 → ∃ t, exec (.adaptiveLoopTick slacks) s = .next t ∧
      Same { s with power := { s.power with avsDuty := min 1023 (s.power.avsDuty + 16), avsLimited := false, avsAt := s.localNs } } t) ∧
    (least < 6 → s.power.biasStep = 15 → s.power.avsDuty = 1023 → ∃ t, exec (.adaptiveLoopTick slacks) s = .next t ∧
      t.power = { s.power with avsLimited := true, avsAt := s.localNs } ∧ t.line = s.line ∧
      (s.power.avsLimited = false → fwRunning s = true → t.store.logSeq = (s.store.logSeq + 1) % 2 ^ 32)))

/-- R723, R731 to R733, R736, R738, R776: an enabled WAKE_INn held for 4 µs wakes the device from Doze and from Deep standby and sets its
bit, one held for less than 1 µs does not. The I2C target answers its own address, reads out the window and wakes the device; outside
Doze it reads without effect but the pointer's. A wake ends when every port has settled; after Deep standby the core starts
anew. The model's choices that bear on it: log 43, log 44, log 45. -/
def Obligations.WakesAndI2c : Prop :=
  (∀ (s : State) (n ns : Nat) (high : Bool), n < 4 →
    let pin := if bit s.pins.wakeIn n = high then s.pins.wakeIn else if high then s.pins.wakeIn + 2 ^ n else s.pins.wakeIn - 2 ^ n
    let u := { s with pins := { s.pins with wakeIn := pin } }
    (ns < 1000 ∨ bit s.wake.enable n = false ∨ high ≠ bit s.wake.polarity n → bit pin n = high →
      ∃ t, exec (.wakeInput n high ns) s = .next t ∧ Same u t) ∧
    (4000 ≤ ns → bit s.wake.enable n = true → high = bit s.wake.polarity n → bit pin n = high →
      (s.power.trans = .none → s.power.present = .run → ∃ t, exec (.wakeInput n high ns) s = .next t ∧ Same u t) ∧
      (s.power.trans = .none → s.power.present = .doze → ∃ t, exec (.wakeInput n high ns) s = .next t ∧
        t.power.trans = .waking ∧ t.power.present = .doze ∧ t.wake.cause.getLsbD n = true ∧ Raised 9 t) ∧
      (s.power.trans = .none → s.power.present = .deep → ∃ t, exec (.wakeInput n high ns) s = .next t ∧
        t.wake = { s.wake with cause := s.wake.cause ||| (1#32 <<< n) ||| 0x20#32 } ∧ t.pins.pwrEnIo = true ∧
        t.pins.pwrEnCore = false ∧ t.power.trans = .waking ∧ t.power.seqAt = some s.localNs ∧ t.power.seqDown = false) ∧
      (s.power.trans = .dozeEntry → ∃ t, exec (.wakeInput n high ns) s = .next t ∧ t.power.trans = .none ∧
        t.power.present = s.power.present ∧ t.power.refuseReason = 9) ∧
      (s.power.trans = .deepEntry → ∃ t, exec (.wakeInput n high ns) s = .next t ∧ Same { u with power :=
        { s.power with wakeDue := some (s.power.wakeDue.getD 0#32 ||| (1#32 <<< n)) } } t))) ∧
  (∀ (s : State) (a : Nat),
    (s.wake.i2cAddr ≠ some a → ∃ t, exec (.i2cAddressMatch a) s = .next t ∧
      Same { s with wake := { s.wake with i2cOpen := false, i2cPointed := false } } t) ∧
    (s.wake.i2cAddr = some a → s.power.present = .run → s.power.trans = .none → ∃ t, exec (.i2cAddressMatch a) s = .next t ∧
      Same { s with wake := { s.wake with i2cOpen := true, i2cPointed := false } } t ∧ Out.i2cAck ∈ t.outbox) ∧
    (s.wake.i2cAddr = some a → s.power.present = .doze → s.power.trans = .none → bit s.wake.enable 4 = true →
      ∃ t, exec (.i2cAddressMatch a) s = .next t ∧ t.power.trans = .waking ∧ t.wake.cause.getLsbD 4 = true ∧
        t.wake.i2cOpen = false)) ∧
  (∀ s : State, s.wake.i2cOpen = true → s.power.present ≠ .doze → coreOn s = true →
    (∀ p : Byte, s.wake.i2cPointed = false → ∃ t, exec (.i2cPointerWrite p) s = .next t ∧
      Same { s with wake := { s.wake with i2cPointer := p.toNat, i2cPointed := true } } t ∧ Out.i2cAck ∈ t.outbox) ∧
    (∀ p : Byte, s.wake.i2cPointed = true → ∃ t, exec (.i2cPointerWrite p) s = .next t ∧ Same s t) ∧
    (s.wake.i2cPointer < 256 → ∃ t, exec .i2cTargetRead s = .next t ∧
      Same { s with wake := { s.wake with i2cPointer := if s.wake.i2cPointer = 255 then 0 else s.wake.i2cPointer + 1 } } t ∧
      ∃ b : Byte, Out.i2cByte b ∈ t.outbox ∧
        (s.wake.i2cPointer < 4 → b = b8 (0x24720B01 / 256 ^ s.wake.i2cPointer)) ∧
        (0x14 ≤ s.wake.i2cPointer → s.wake.i2cPointer < 0x18 →
          b = b8 (powerStateWord s / 256 ^ (s.wake.i2cPointer - 0x14))) ∧
        (0x18 ≤ s.wake.i2cPointer → s.wake.i2cPointer < 0x1C →
          b = b8 (s.wake.cause.toNat / 256 ^ (s.wake.i2cPointer - 0x18))) ∧
        (0x20 ≤ s.wake.i2cPointer → b = 0#8))) ∧
  (∀ s : State, ∃ t, exec .i2cSclTimeout s = .next t ∧ Same { s with wake := { s.wake with i2cOpen := false } } t) ∧
  (∀ s : State, s.power.trans = .waking → s.power.present = .doze → fwRunning s = true → s.clk.pllActive = true →
    (portsSettled s = false → ∃ t, exec .wakeBringupEnd s = .next t ∧ Same s t) ∧
    (portsSettled s = true → s.fw.busy = none → s.power.stored = none → ∃ t, exec .wakeBringupEnd s = .next t ∧
      t.power = { s.power with
        present := (if s.power.request = .idle then .idle else .run),
        trans := .none, auto := false, wakeForVerb := false, idleOkSince := none, dozeOkSince := none } ∧
      t.live.life.dozeWakes = min (s.live.life.dozeWakes + 1) (2 ^ 32 - 1) ∧ t.line = s.line ∧ t.wake = s.wake)) ∧
  (∀ s : State, s.power.present = .deep → s.power.trans = .waking → s.pins.pwrEnCore = true →
    ∃ t, exec .coreRailsInRange s = .next t ∧ t.power = { s.power with present := .run, trans := .none } ∧
      t.pins.wakeAsserted = true ∧ t.clk.refRunning = true ∧ t.rst.inEffect = none ∧ t.boot.stage ≠ .reset ∧
      t.boot.wokeFromDeep = true ∧ t.decl = s.decl ∧ t.line = s.line)

/-- R544, R743, R747 to R750, R754, R755, R763, R764, R770, R771: a grant that has expired is returned and its holder acts; the holder
refused for 1 s without a break and still asking becomes the guard; held operations ask again at their interval; a moving axis' grant
is renewed by 100 ms or, refused, its speed rises no further. A lamp's
ageing record reaches the store every 60 s of its light, the lifetime counters every 60 s. A firmware write above
a limit in force is counted and clamped. A corrected DRAM error is counted and reported once a second; a lost line is a gap.
The model's choices that bear on it: log 48, log 49, log 50, log 52. -/
def Obligations.GrantsStoreAndLimits : Prop :=
  (∀ s : State,
    ((∀ g ∈ s.grants.grants, s.localNs < g.start + g.dur) → ∃ t, exec .grantExpiry s = .next t ∧ Same s t) ∧
    (∀ g, s.grants.grants = [g] → g.start + g.dur ≤ s.localNs →
      (g.op = .axisAccel → ∃ t, exec .grantExpiry s = .next t ∧ t.grants.grants = [] ∧ t.grants.claims = s.grants.claims ∧
        (∀ k, k < 8 → driveHolder k = g.holder → (drv t k).noRise = true) ∧
        (∀ k, k < 8 → driveHolder k ≠ g.holder → drv t k = drv s k) ∧ t.lamps = s.lamps ∧ t.line = s.line) ∧
      (∀ n, g.op = .lampRise → g.holder = .string n → n < 16 → (str s n).st = .starting →
        ∃ t, exec .grantExpiry s = .next t ∧ t.grants.grants = [] ∧ str t n = { str s n with held := true } ∧
          (∀ m, m ≠ n → str t m = str s m) ∧ (.string n, .lampRise, s.localNs) ∈ t.grants.waiting) ∧
      (g.op = .digitizer → fwRunning s = true → ∃ t, exec .grantExpiry s = .next t ∧ t.grants.grants = [] ∧
        t.ports = s.ports ∧ t.store.logSeq = (s.store.logSeq + 1) % 2 ^ 32))) ∧
  (∀ (s : State) (b : Nat) (r : Refused), b < 8 → s.grants.refusedRuns = [r] → r.budget = b → ∃ t, exec .grantGuardTimer s = .next t ∧
    t.grants.grants = s.grants.grants ∧ t.grants.claims = s.grants.claims ∧ t.grants.overs = s.grants.overs ∧
    (s.localNs < r.last + 2000000000 → r.since + 1000000000 ≤ s.localNs → vget s.grants.guard b = none →
      vget t.grants.guard b = some r.holder ∧ t.grants.refusedRuns = [r]) ∧
    (s.localNs < r.last + 2000000000 → s.localNs < r.since + 1000000000 → vget s.grants.guard b = none →
      vget t.grants.guard b = none ∧ t.grants.refusedRuns = [r]) ∧
    (r.last + 2000000000 ≤ s.localNs → vget t.grants.guard b = none ∧ t.grants.refusedRuns = [])) ∧
  (∀ s : State, fwRunning s = true →
    ((∀ w ∈ s.grants.waiting, s.localNs < w.2.2 + (if w.2.1 = .lampRise then 1000000000 else 10000000)) →
      ∃ t, exec .grantRetry s = .next t ∧ Same s t) ∧
    (∀ (n at0 : Nat) (d : DString), s.grants.waiting = [(.string n, .lampRise, at0)] → at0 + 1000000000 ≤ s.localNs → n < 16 →
      dString? s n = some d → (str s n).st = .starting → (str s n).held = true →
      let mw := d.vMax * goalMa s n d / 1000
      (admits s (.string n) d.budget mw ((d.softMs + 100) * 1000000) s.localNs = true →
        ∃ t, exec .grantRetry s = .next t ∧ str t n = { str s n with held := false, updated := s.localNs } ∧
          t.grants.waiting = [] ∧ t.grants.grants = s.grants.grants ++ [⟨.string n, .lampRise, d.budget, mw, s.localNs,
            (d.softMs + 100) * 1000000⟩]) ∧
      (admits s (.string n) d.budget mw ((d.softMs + 100) * 1000000) s.localNs = false →
        ∃ t, exec .grantRetry s = .next t ∧ str t n = str s n ∧ t.grants.waiting = [(.string n, .lampRise, s.localNs)] ∧
          t.grants.grants = s.grants.grants.filter fun g => g.holder ≠ .string n))) ∧
  (∀ s : State, fwRunning s = true → ∀ g, s.grants.grants = [g] → g.op = .axisAccel → s.localNs < g.start + g.dur →
    let bare := { s with grants := { s.grants with grants := [] } }
    (admits bare g.holder g.budget g.mw (g.dur + 100000000) g.start = true → ∃ t, exec .grantRenewal s = .next t ∧
      t.grants.grants = [{ g with dur := g.dur + 100000000 }] ∧ t.motion = s.motion ∧ t.line = s.line) ∧
    (admits bare g.holder g.budget g.mw (g.dur + 100000000) g.start = false → ∃ t, exec .grantRenewal s = .next t ∧
      t.grants.grants = [] ∧ (∀ k, k < 8 → driveHolder k = g.holder → (drv t k).noRise = true) ∧
      (∀ k, k < 8 → driveHolder k ≠ g.holder → drv t k = drv s k) ∧ t.line = s.line)) ∧
  (∀ s : State, fwRunning s = true →
    (s.localNs < s.live.writtenAt + 60000000000 → ∃ t, exec .storeUpdateTimer s = .next t ∧
      Same { s with store := { s.store with ageing := t.store.ageing } } t) ∧
    (s.live.writtenAt + 60000000000 ≤ s.localNs → ∃ t, exec .storeUpdateTimer s = .next t ∧
      Same { s with
        store := { s.store with ageing := t.store.ageing, lifetime := s.live.life }
        live := { s.live with writtenAt := s.localNs } } t) ∧
    (∀ (k : Nat) (r : LampRecord), s.live.lamps = [(k, r)] → ∃ t, exec .storeUpdateTimer s = .next t ∧
      (assoc s.store.ageing k = none → t.store.ageing = if 60 ≤ r.lit then [(k, r)] else []) ∧
      (∀ o, assoc s.store.ageing k = some o → t.store.ageing = if o.lit + 60 ≤ r.lit then [(k, r)] else [(k, o)]))) ∧
  (∀ (s : State) (cls idx : Nat) (v : Int) (k : LimitKey), s.limit.ceilingLock = true → fwRunning s = true →
    (cls = 1 ∧ idx < 16 ∧ k = .strI idx) ∨ (cls = 2 ∧ idx < 16 ∧ k = .strV idx) ∨ (cls = 3 ∧ idx < 16 ∧ k = .strDuty idx) ∨
      (cls = 4 ∧ idx < 4 ∧ k = .axV idx) ∨ (cls = 5 ∧ idx < 4 ∧ k = .axA idx) ∨ (cls = 6 ∧ idx < 4 ∧ k = .axD idx) ∨
      (cls = 7 ∧ idx < 4 ∧ k = .axEmerg idx) ∨ (cls = 8 ∧ idx < 4 ∧ k = .axI idx) ∨ (cls = 9 ∧ idx < 8 ∧ k = .tempRise idx) →
    (v ≤ limitOf k s → ∃ t, exec (.limitWriteClamp cls idx v) s = .next t ∧ Same s t) ∧
    (limitOf k s < v → ∃ t, exec (.limitWriteClamp cls idx v) s = .next t ∧
      t.limit = { s.limit with breachCount := min (s.limit.breachCount + 1) 0xFFFFFFFF, lastBreach := w32 (cls + 256 * idx) } ∧
      t.store.logSeq = (s.store.logSeq + 1) % 2 ^ 32 ∧ t.lamps = s.lamps ∧ t.motion = s.motion ∧ t.therm = s.therm)) ∧
  (∀ (s : State) (area chan num : Nat), eccOn s = true → s.line.dram.isSome = true → 1 ≤ area → area ≤ 7 →
    (∃ t, exec (.dramEccError area chan num false) s = .next t ∧ Same { s with dram := { s.dram with
      fixed := min (s.dram.fixed + 1) 0xFFFFFFFF, lastFixed := (area, chan, num) } } t) ∧
    (area = 2 → ∃ t, exec (.dramEccError 2 chan num true) s = .next t ∧
      t.caps = (s.caps.map fun c => if c.cal = false ∧ c.index = num ∧ c.gap = 0 then { c with gap := 4 } else c) ∧
      t.line = s.line ∧ (fwRunning s = true → t.dram = { s.dram with fixed := 0 })) ∧
    (2 < area → ∃ t, exec (.dramEccError area chan num true) s = .next t ∧ t.caps = s.caps ∧ t.line = s.line ∧
      (fwRunning s = true → t.dram = { s.dram with fixed := 0 }))) ∧
  (∀ s : State, fwRunning s = true → 0 < s.dram.fixed →
    ((∀ o, s.dram.fixedAt = some o → o + 1000000000 ≤ s.localNs) → ∃ t, exec .eccReportTimer s = .next t ∧
      t.dram = { s.dram with fixed := 0, fixedAt := some s.localNs } ∧ t.line = s.line) ∧
    (∀ o, s.dram.fixedAt = some o → s.localNs < o + 1000000000 → ∃ t, exec .eccReportTimer s = .next t ∧ Same s t))

end
end

