-- ==== Sys2Proof/Laws/Settle.lean ====
section
/-! SUPPORT. What `settled`, and the operations on interrupts and FAULT_N under it, do and leave alone. -/

namespace Sys2Proof.Laws

open Sys2Proof.Machine Sys2Proof.Safety

theorem masks_refl (u : IntU) : Masks u u := ⟨rfl, rfl, rfl, rfl, rfl⟩

theorem masks_trans {u v w : IntU} (h : Masks u v) (k : Masks v w) : Masks u w :=
  ⟨k.1.trans h.1, k.2.1.trans h.2.1, k.2.2.1.trans h.2.2.1, k.2.2.2.1.trans h.2.2.2.1, k.2.2.2.2.trans h.2.2.2.2⟩

/-- sendMsix adds to the pending bits and to the output log, and does no more. -/
theorem sendMsix_frame (v : Nat) (s : State) :
    ∃ p o, sendMsix v s = { s with int := { s.int with pba := p }, outbox := s.outbox ++ o } := by
  unfold sendMsix emit
  split
  · exact ⟨s.int.pba, [_], rfl⟩
  · exact ⟨s.int.pba ||| (1#64 <<< v), [], by rw [List.append_nil]⟩

/-- setInt touches the source's bit, what is due and pending, and the output log only. -/
theorem setInt_parts (src : Nat) (s : State) :
    ∃ st d p o, setInt src s = { s with int := { s.int with status := st, due := d, pba := p }, outbox := s.outbox ++ o } ∧
      (∀ i, s.int.status.getLsbD i = true → st.getLsbD i = true) ∧ (src < 32 → st.getLsbD src = true) ∧
      (s.int.due &&& ~~~s.int.mask = 0#32 → d &&& ~~~s.int.mask = 0#32) := by
  unfold setInt
  split
  · rename_i h
    exact ⟨s.int.status, s.int.due, s.int.pba, [], by simp, fun _ h => h, fun _ => h, id⟩
  · dsimp only
    split
    · rename_i hm
      refine ⟨s.int.status ||| (1#32 <<< src), s.int.due ||| (1#32 <<< src), s.int.pba, [], by rw [List.append_nil],
        fun i h => by simp [h], fun h => by simp [h], fun h => ?_⟩
      apply BitVec.eq_of_getLsbD_eq
      intro i hi
      have key := congrArg (fun v => BitVec.getLsbD v i) h
      simp only [BitVec.getLsbD_and, BitVec.getLsbD_not, BitVec.getLsbD_or, hi, decide_true, Bool.true_and,
        BitVec.getLsbD_zero] at key ⊢
      rw [Bool.and_or_distrib_right, key, Bool.false_or]
      by_cases e : i = src
      · subst e
        simp [hm]
      · have : (1#32 <<< src).getLsbD i = false := by
          simp only [BitVec.getLsbD_shiftLeft, BitVec.getLsbD_one]
          simp only [Bool.and_eq_false_iff, decide_eq_false_iff_not, Bool.not_eq_false', decide_eq_true_eq]
          omega
        rw [this, Bool.false_and]
    · obtain ⟨p, o, h⟩ := sendMsix_frame (vectorOf { s.int with status := s.int.status ||| (1#32 <<< src) } src)
        { s with int := { s.int with status := s.int.status ||| (1#32 <<< src) } }
      exact ⟨s.int.status ||| (1#32 <<< src), s.int.due, p, o, h, fun i h => by simp [h], fun h => by simp [h], id⟩

/-- setInt touches the interrupt unit and the output log only. -/
theorem setInt_frame (src : Nat) (s : State) :
    setInt src s = { s with int := (setInt src s).int, outbox := (setInt src s).outbox } := by
  obtain ⟨st, d, p, o, h, -⟩ := setInt_parts src s
  rw [h]

/-- setInt changes nothing that the host has set. -/
theorem setInt_mask (src : Nat) (s : State) : Masks s.int (setInt src s).int := by
  obtain ⟨st, d, p, o, h, -⟩ := setInt_parts src s
  rw [h]
  exact masks_refl _

/-- A message that is due stays masked. -/
theorem setInt_due (src : Nat) (s : State) (h : s.int.due &&& ~~~s.int.mask = 0#32) :
    (setInt src s).int.due &&& ~~~(setInt src s).int.mask = 0#32 := by
  obtain ⟨st, d, p, o, e, -, -, hd⟩ := setInt_parts src s
  rw [e]
  exact hd h

/-! ### sendDue -/

/-- One source of sendDue. -/
def sendOne (t : State) (src : Nat) : State :=
  if t.int.due.getLsbD src && !t.int.mask.getLsbD src then
    sendMsix (vectorOf t.int src) { t with int := { t.int with due := t.int.due &&& ~~~(1#32 <<< src) } }
  else t

theorem sendDue_eq (s : State) : sendDue s = (List.range 32).foldl sendOne s := rfl

theorem sendOne_frame (t : State) (src : Nat) :
    ∃ p o, sendOne t src = { t with int := { t.int with due := (sendOne t src).int.due, pba := p }, outbox := t.outbox ++ o } ∧
      (sendOne t src).int.due = if t.int.due.getLsbD src && !t.int.mask.getLsbD src then t.int.due &&& ~~~(1#32 <<< src)
        else t.int.due := by
  unfold sendOne
  split
  · obtain ⟨p, o, h⟩ := sendMsix_frame (vectorOf t.int src)
      { t with int := { t.int with due := t.int.due &&& ~~~(1#32 <<< src) } }
    exact ⟨p, o, by rw [h], by rw [h]⟩
  · exact ⟨t.int.pba, [], by simp, rfl⟩

theorem sendFold_frame (l : List Nat) (t : State) :
    ∃ d p o, l.foldl sendOne t = { t with int := { t.int with due := d, pba := p }, outbox := t.outbox ++ o } := by
  induction l generalizing t with
  | nil => exact ⟨t.int.due, t.int.pba, [], by simp⟩
  | cons x xs ih =>
    obtain ⟨p, o, h, -⟩ := sendOne_frame t x
    obtain ⟨d', p', o', h'⟩ := ih (sendOne t x)
    exact ⟨d', p', o ++ o', by rw [List.foldl_cons, h', h]; simp⟩

/-- sendDue changes which messages are due and pending, and adds to the output log. -/
theorem sendDue_frame (s : State) :
    ∃ d p o, sendDue s = { s with int := { s.int with due := d, pba := p }, outbox := s.outbox ++ o } :=
  sendFold_frame _ s

/-- A bit that is not due stays so. -/
theorem sendOne_due (t : State) (src i : Nat) (h : t.int.due.getLsbD i = false) :
    (sendOne t src).int.due.getLsbD i = false := by
  obtain ⟨p, o, -, hd⟩ := sendOne_frame t src
  rw [hd]
  split
  · simp [h]
  · exact h

theorem sendFold_due (l : List Nat) (t : State) (i : Nat) (h : t.int.due.getLsbD i = false) :
    (l.foldl sendOne t).int.due.getLsbD i = false := by
  induction l generalizing t with
  | nil => exact h
  | cons x xs ih => exact ih _ (sendOne_due t x i h)

theorem sendFold_clears (l : List Nat) (t : State) (i : Nat) (hi : i ∈ l) (hl : i < 32)
    (hm : t.int.mask.getLsbD i = false) : (l.foldl sendOne t).int.due.getLsbD i = false := by
  induction l generalizing t with
  | nil => simp at hi
  | cons x xs ih =>
    rw [List.foldl_cons]
    obtain ⟨p, o, h, hd⟩ := sendOne_frame t x
    have hmask : (sendOne t x).int.mask = t.int.mask := by rw [h]
    by_cases hx : i = x
    · subst hx
      apply sendFold_due
      rw [hd]
      by_cases e : t.int.due.getLsbD i = true
      · rw [if_pos (by rw [e, hm]; rfl)]
        simp [hl]
      · simp only [Bool.not_eq_true] at e
        simp [e]
    · rcases List.mem_cons.mp hi with h | h
      · exact absurd h hx
      · exact ih (sendOne t x) h (by rw [hmask]; exact hm)

/-- R154: after sendDue, every message still due is masked. -/
theorem sendDue_masked (s : State) : (sendDue s).int.due &&& ~~~(sendDue s).int.mask = 0#32 := by
  have hmask : (sendDue s).int.mask = s.int.mask := by
    obtain ⟨d, p, o, h⟩ := sendDue_frame s
    rw [h]
  apply BitVec.eq_of_getLsbD_eq
  intro i hi
  rw [hmask]
  by_cases hm : s.int.mask.getLsbD i = true
  · simp [hm]
  · simp only [Bool.not_eq_true] at hm
    have := sendFold_clears (List.range 32) s i (List.mem_range.mpr hi) hi hm
    rw [sendDue_eq]
    simp [this]

/-- With nothing due and unmasked, sendDue does nothing. -/
theorem sendDue_quiet (s : State) (h : s.int.due &&& ~~~s.int.mask = 0#32) : sendDue s = s := by
  have key : ∀ i, i < 32 → (s.int.due.getLsbD i && !s.int.mask.getLsbD i) = false := by
    intro i hi
    have := congrArg (fun v => BitVec.getLsbD v i) h
    simpa [hi] using this
  have : ∀ l : List Nat, (∀ i ∈ l, i < 32) → l.foldl sendOne s = s := by
    intro l hl
    induction l with
    | nil => rfl
    | cons x xs ih =>
      have hx : sendOne s x = s := by
        unfold sendOne
        rw [if_neg]
        simp [key x (hl x (List.mem_cons_self ..))]
      rw [List.foldl_cons, hx]
      exact ih fun i hi => hl i (List.mem_cons_of_mem _ hi)
  exact this _ fun i hi => List.mem_range.mp hi

/-! ### sendPending -/

/-- One vector of sendPending. -/
def pendOne (t : State) (v : Nat) : State :=
  if t.int.pba.getLsbD v && msixOpen v t then
    emit (msixMessage t.int v) { t with int := { t.int with pba := t.int.pba &&& ~~~(1#64 <<< v) } }
  else t

theorem sendPending_eq (s : State) :
    sendPending s = if s.int.pba = 0#64 then s else (List.range 64).foldl pendOne s := rfl

theorem pendOne_frame (t : State) (v : Nat) :
    ∃ o, pendOne t v = { t with int := { t.int with pba := (pendOne t v).int.pba }, outbox := t.outbox ++ o } ∧
      (pendOne t v).int.pba = if t.int.pba.getLsbD v && msixOpen v t then t.int.pba &&& ~~~(1#64 <<< v) else t.int.pba := by
  unfold pendOne emit
  split
  · exact ⟨[_], rfl, rfl⟩
  · exact ⟨[], by simp, rfl⟩

/-- Whether a vector's messages may leave does not turn on what is pending or has left. -/
theorem pendOne_open (t : State) (v w : Nat) : msixOpen w (pendOne t v) = msixOpen w t := by
  obtain ⟨o, h, -⟩ := pendOne_frame t v
  rw [h]
  rfl

theorem pendFold_frame (l : List Nat) (t : State) :
    ∃ p o, l.foldl pendOne t = { t with int := { t.int with pba := p }, outbox := t.outbox ++ o } := by
  induction l generalizing t with
  | nil => exact ⟨t.int.pba, [], by simp⟩
  | cons x xs ih =>
    obtain ⟨o, h, -⟩ := pendOne_frame t x
    obtain ⟨p', o', h'⟩ := ih (pendOne t x)
    exact ⟨p', o ++ o', by rw [List.foldl_cons, h', h]; simp⟩

/-- sendPending changes what is pending, and adds to the output log. -/
theorem sendPending_frame (s : State) :
    ∃ p o, sendPending s = { s with int := { s.int with pba := p }, outbox := s.outbox ++ o } := by
  rw [sendPending_eq]
  split
  · exact ⟨s.int.pba, [], by simp⟩
  · exact pendFold_frame _ s

theorem pendFold_pba (l : List Nat) (t : State) (v : Nat) (h : t.int.pba.getLsbD v = false) :
    (l.foldl pendOne t).int.pba.getLsbD v = false := by
  induction l generalizing t with
  | nil => exact h
  | cons x xs ih =>
    refine ih _ ?_
    obtain ⟨o, -, hp⟩ := pendOne_frame t x
    rw [hp]
    split
    · simp [h]
    · exact h

theorem pendFold_clears (l : List Nat) (t : State) (v : Nat) (hv : v ∈ l) (hl : v < 64) (ho : msixOpen v t = true) :
    (l.foldl pendOne t).int.pba.getLsbD v = false := by
  induction l generalizing t with
  | nil => simp at hv
  | cons x xs ih =>
    rw [List.foldl_cons]
    by_cases hx : v = x
    · subst hx
      apply pendFold_pba
      obtain ⟨o, -, hp⟩ := pendOne_frame t v
      rw [hp, ho, Bool.and_true]
      split
      · simp [hl]
      · rename_i hb
        simpa using hb
    · rcases List.mem_cons.mp hv with h | h
      · exact absurd h hx
      · exact ih (pendOne t x) h (by rw [pendOne_open]; exact ho)

/-- R154: after sendPending, the vector of every message still pending is masked. -/
theorem sendPending_shut (s : State) (v : Nat) (hv : v < 64) (h : (sendPending s).int.pba.getLsbD v = true) :
    msixOpen v (sendPending s) = false := by
  obtain ⟨p, o, e⟩ := sendPending_frame s
  have hopen : msixOpen v (sendPending s) = msixOpen v s := by
    rw [e]
    rfl
  rw [hopen]
  by_cases ho : msixOpen v s = true
  · rw [sendPending_eq] at h
    split at h
    · rename_i h0
      simp [h0] at h
    · rw [pendFold_clears _ s v (List.mem_range.mpr hv) hv ho] at h
      cases h
  · simpa using ho

/-- With nothing pending that may leave, sendPending does nothing. -/
theorem sendPending_quiet (s : State) (h : ∀ v, v < 64 → s.int.pba.getLsbD v = true → msixOpen v s = false) :
    sendPending s = s := by
  rw [sendPending_eq]
  split
  · rfl
  · have : ∀ l : List Nat, (∀ v ∈ l, v < 64) → l.foldl pendOne s = s := by
      intro l hl
      induction l with
      | nil => rfl
      | cons x xs ih =>
        have hx : pendOne s x = s := by
          unfold pendOne
          rw [if_neg]
          intro hc
          rw [Bool.and_eq_true] at hc
          rw [h x (hl x (List.mem_cons_self ..)) hc.1] at hc
          exact absurd hc.2 (by decide)
        rw [List.foldl_cons, hx]
        exact ih fun i hi => hl i (List.mem_cons_of_mem _ hi)
    exact this _ fun i hi => List.mem_range.mp hi

/-! ### FAULT_N -/

/-- driveFault touches FAULT_N, the interrupt unit and the output log only. -/
theorem driveFault_frame (s : State) :
    driveFault s = { s with pins := { s.pins with faultLow := faultCause s }, int := (driveFault s).int,
                            outbox := (driveFault s).outbox } := by
  unfold driveFault
  dsimp only
  split
  · rw [setInt_frame]
  · rfl

/-- driveFault changes nothing that the host has set of the interrupts. -/
theorem driveFault_mask (s : State) : Masks s.int (driveFault s).int := by
  unfold driveFault
  dsimp only
  split
  · exact setInt_mask 6 { s with pins := { s.pins with faultLow := faultCause s } }
  · exact masks_refl _

/-- A message that is due stays masked. -/
theorem driveFault_due (s : State) (h : s.int.due &&& ~~~s.int.mask = 0#32) :
    (driveFault s).int.due &&& ~~~(driveFault s).int.mask = 0#32 := by
  unfold driveFault
  dsimp only
  split
  · exact setInt_due 6 { s with pins := { s.pins with faultLow := faultCause s } } h
  · exact h

/-- With FAULT_N as its causes have it, driveFault does nothing. -/
theorem driveFault_quiet (s : State) (h : s.pins.faultLow = faultCause s) : driveFault s = s := by
  have e : ({ s with pins := { s.pins with faultLow := faultCause s } } : State) = s := by rw [← h]
  unfold driveFault
  dsimp only
  rw [e, ← h, if_neg (by simp)]

/-! ### settled -/

/-- What follows a command touches FAULT_N, the interrupt unit and the output log only; what the host has set stays. -/
theorem settled_frame (t : State) :
    ∃ i o, settled t = .next { t with pins := { t.pins with faultLow := faultCause t }, int := i, outbox := o } ∧
      Masks t.int i := by
  obtain ⟨d, p, o, h⟩ := sendDue_frame t
  obtain ⟨p', o', h'⟩ := sendPending_frame (driveFault (sendDue t))
  refine ⟨(sendPending (driveFault (sendDue t))).int, (sendPending (driveFault (sendDue t))).outbox, ?_, ?_⟩
  · unfold settled
    rw [h', driveFault_frame (sendDue t), h]
    rfl
  · rw [h']
    have k := driveFault_mask (sendDue t)
    rw [h] at k ⊢
    exact k

/-- A state in which FAULT_N and the messages are settled stays as it is. -/
theorem settled_quiet (t : State) (h : Quiet t) : settled t = .next t := by
  unfold settled
  rw [sendDue_quiet t h.2.1, driveFault_quiet t h.1, sendPending_quiet t h.2.2]

end Sys2Proof.Laws
end

