-- ==== Sys2Proof/Laws/Reply.lean ====
section
/-! SUPPORT. What answering a verb leaves, said once for every channel. -/

namespace Sys2Proof.Laws

open Sys2Proof Sys2Proof.Machine Sys2Proof.Safety

/-- A command's outcome over `u` is `u`, but for what follows every command. -/
theorem settled_same (u : State) : ∃ t, settled u = .next t ∧ Same u t := by
  obtain ⟨i, o, h, hm⟩ := settled_frame u
  exact ⟨_, h, rfl, hm⟩

/-- setInt raises the source, keeps every source raised, and grows the output log. -/
theorem setInt_spec (src : Nat) (s : State) :
    (∀ i, s.int.status.getLsbD i = true → (setInt src s).int.status.getLsbD i = true) ∧
      (src < 32 → (setInt src s).int.status.getLsbD src = true) ∧ (∀ o, o ∈ s.outbox → o ∈ (setInt src s).outbox) := by
  obtain ⟨st, d, p, o, h, hmono, hset, -⟩ := setInt_parts src s
  rw [h]
  exact ⟨hmono, hset, fun x hx => List.mem_append_left _ hx⟩

theorem driveFault_spec (s : State) :
    (∀ i, s.int.status.getLsbD i = true → (driveFault s).int.status.getLsbD i = true) ∧
      (∀ o, o ∈ s.outbox → o ∈ (driveFault s).outbox) := by
  unfold driveFault
  dsimp only
  split
  · have h := setInt_spec 6 { s with pins := { s.pins with faultLow := faultCause s } }
    exact ⟨h.1, h.2.2⟩
  · exact ⟨fun _ h => h, fun _ h => h⟩

/-- A command's outcome: the frame, and the sources and outputs that stand. -/
theorem settled_spec (u : State) : ∃ t, settled u = .next t ∧ Same u t ∧
    (∀ i, u.int.status.getLsbD i = true → t.int.status.getLsbD i = true) ∧ (∀ o, o ∈ u.outbox → o ∈ t.outbox) := by
  obtain ⟨t, ht, hs⟩ := settled_same u
  obtain ⟨d, p, o, h⟩ := sendDue_frame u
  obtain ⟨p', o', h'⟩ := sendPending_frame (driveFault (sendDue u))
  have e : t = sendPending (driveFault (sendDue u)) := by
    unfold settled at ht
    injection ht with ht
    exact ht.symm
  have k := driveFault_spec (sendDue u)
  refine ⟨t, ht, hs, fun i hi => ?_, fun x hx => ?_⟩
  · rw [e, h']
    refine k.1 i ?_
    rw [h]
    exact hi
  · rw [e, h']
    refine List.mem_append_left _ (k.2 x ?_)
    rw [h]
    exact List.mem_append_left _ hx

/-- A source raised over `u`. -/
theorem settled_setInt (src : Nat) (hs : src < 32) (u : State) :
    ∃ t, settled (setInt src u) = .next t ∧ Same u t ∧ Raised src t := by
  obtain ⟨t, ht, ⟨h, hm⟩, hi, -⟩ := settled_spec (setInt src u)
  refine ⟨t, ht, ⟨?_, masks_trans (setInt_mask src u) hm⟩, hi _ ((setInt_spec src u).2.1 hs)⟩
  rw [setInt_frame] at h
  exact h

/-- FAULT_N driven, over `u`. -/
theorem settled_driveFault (u : State) : ∃ t, settled (driveFault u) = .next t ∧ Same u t := by
  obtain ⟨t, ht, ⟨h, hm⟩, -, -⟩ := settled_spec (driveFault u)
  refine ⟨t, ht, ?_, masks_trans (driveFault_mask u) hm⟩
  rw [driveFault_frame] at h
  exact h

/-- Something put out, over `u`. -/
theorem settled_emit (o : Out) (u : State) : ∃ t, settled (emit o u) = .next t ∧ Same u t ∧ o ∈ t.outbox := by
  obtain ⟨t, ht, ⟨h, hm⟩, -, ho⟩ := settled_spec (emit o u)
  exact ⟨t, ht, ⟨h, hm⟩, ho o (by simp [emit])⟩

/-- Only the Prism unit and the output log change. -/
def PrismOnly (s t : State) : Prop := t = { s with prism := t.prism, outbox := t.outbox }

theorem prismOnly_refl (s : State) : PrismOnly s s := rfl

theorem prismOnly_trans {s t u : State} (h : PrismOnly s t) (h' : PrismOnly t u) : PrismOnly s u := by
  unfold PrismOnly at *
  rw [h'.trans (by rw [h])]

theorem prismOnly_foldl {α : Type} (f : State → α → State) (hf : ∀ t a, PrismOnly t (f t a)) (l : List α) (s : State) :
    PrismOnly s (l.foldl f s) := by
  induction l generalizing s with
  | nil => exact rfl
  | cons x xs ih => exact prismOnly_trans (hf s x) (ih (f s x))

theorem pSend_only (p type dst : Nat) (body : List Byte) (src : Nat) (s : State) : PrismOnly s (pSend p type dst body src s) := by
  unfold pSend
  split <;> exact rfl

theorem pRoute_only (dst : Nat) (body : List Byte) (src : Nat) (s : State) : PrismOnly s (pRoute dst body src s) := by
  unfold pRoute pUp
  split
  · exact pSend_only ..
  · split
    · exact pSend_only ..
    · exact rfl

theorem pRelay_only (dst id : Nat) (reply : Bool) (packet : List Byte) (s : State) : PrismOnly s (pRelay dst id reply packet s) :=
  prismOnly_foldl _ (fun t b => pRoute_only dst b (nodeId s) t) _ _

/-- A reply on the ring: the frame. -/
theorem finishRing_frame (c : Cmd) (status detail : Nat) (payload : List Byte) (u : State) :
    ∃ i o, finishRing c status detail payload u =
      { u with
        int := i, outbox := o
        host := { u.host with rep := { u.host.rep with tail := u.host.rep.tail + 1 } }
        fw := { u.fw with lastTag := some c.req.tag,
                          histRing := (histEntry c status detail false payload :: u.fw.histRing).take 256 } } ∧
      Masks u.int i ∧ i.status.getLsbD 2 = true ∧
      Out.hostWrite (slotAddr u.host.rep u.host.rep.tail.toNat)
        (replyPacket c.req.tag c.verb c.req.obj status status detail false payload) ∈ o := by
  refine ⟨(finishRing c status detail payload u).int, (finishRing c status detail payload u).outbox, ?_, ?_, ?_, ?_⟩
  · unfold finishRing sendRing putRingReply
    dsimp only
    rw [setInt_frame]
    rfl
  · exact setInt_mask 2 _
  · exact (setInt_spec 2 _).2.1 (by decide)
  · exact (setInt_spec 2 _).2.2 _ (by simp [emit])

/-- A reply in URG_FW_REPLY: the frame. -/
theorem finishUrgent_frame (verb : Half) (r : Req) (status detail : Nat) (payload : List Byte) (u : State)
    (hc : r.chan = .urgent) :
    ∃ i o, finish { verb := verb, req := r } status detail payload u =
        { urgentReplied verb r status detail payload u with int := i, outbox := o } ∧
      Masks u.int i ∧ i.status.getLsbD 0 = true := by
  refine ⟨(finish { verb := verb, req := r } status detail payload u).int,
    (finish { verb := verb, req := r } status detail payload u).outbox, ?_, ?_, ?_⟩
  all_goals simp only [finish, hc, sendReply, putUrgentReply, Bool.false_or]
  · rw [setInt_frame]
    rfl
  · exact setInt_mask 0 _
  · exact (setInt_spec 0 _).2.1 (by decide)

/-- A command entered in the ring's history. -/
def entered (e : HistEntry) (u : State) : State := { u with fw := { u.fw with histRing := histPush e u.fw.histRing } }

/-- Every verb answered at once, on any channel: the outcome is the state `u` replied in, and nothing more. -/
theorem finish_replied (verb : Half) (r : Req) (status detail : Nat) (payload : List Byte) (u : State) :
    ∃ t, settled (finish { verb := verb, req := r } status detail payload u) = .next t ∧
      Replied verb r status detail payload u t := by
  obtain ⟨t, ht, ⟨hs, hm⟩, hi, ho⟩ := settled_spec (finish { verb := verb, req := r } status detail payload u)
  refine ⟨t, ht, ?_⟩
  unfold Replied
  cases hc : r.chan with
  | ring =>
    obtain ⟨i, o, h, h1, h3, h4⟩ := finishRing_frame { verb := verb, req := r } status detail payload u
    have e : finish { verb := verb, req := r } status detail payload u =
        finishRing { verb := verb, req := r } status detail payload u := by simp [finish, hc]
    rw [e, h] at hs hm hi ho
    exact ⟨⟨hs, masks_trans h1 hm⟩, hi _ h3, ho _ h4⟩
  | urgent =>
    obtain ⟨i, x, h, h1, h3⟩ := finishUrgent_frame verb r status detail payload u hc
    rw [h] at hs hm hi ho
    exact ⟨⟨hs, masks_trans h1 hm⟩, hi _ h3⟩
  | relay o =>
    have key : ∀ st d (p : List Byte) (w : State), let x := sendRelayed o { verb := verb, req := r } st st d false p w
        x = { w with prism := x.prism, int := x.int, outbox := x.outbox,
                     host := { w.host with rep := { w.host.rep with tail := x.host.rep.tail } },
                     fw := { w.fw with lastTag := x.fw.lastTag, relaying := x.fw.relaying, histRing := x.fw.histRing } } ∧
          Masks w.int x.int ∧
          (x.fw.histRing = w.fw.histRing ∨ ∃ e, x.fw.histRing = (e :: w.fw.histRing).take 256) := by
      intro st d p w
      unfold sendRelayed
      dsimp only
      split
      · unfold endRelaying
        split
        · obtain ⟨i, o', h, h1, h3, h4⟩ := finishRing_frame (by assumption) 0 0
            (replyPacket r.tag verb r.obj st st d (false || decide (4064 < p.length)) (List.take 4064 p)) _
          rw [h]
          exact ⟨rfl, h1, Or.inr ⟨_, rfl⟩⟩
        · exact ⟨rfl, masks_refl _, Or.inl rfl⟩
      · have h := pRelay_only o ((w.prism.relayCur.map Prod.snd).getD 0) true
          (replyPacket r.tag verb r.obj st st d (false || decide (4064 < p.length)) (List.take 4064 p))
          { w with prism := { w.prism with relayCur := none } }
        unfold PrismOnly at h
        rw [h]
        exact ⟨rfl, masks_refl _, Or.inl rfl⟩
    obtain ⟨h, h1, h3⟩ := key status detail payload (entered (histEntry { verb := verb, req := r } status detail false payload) u)
    have e : finish { verb := verb, req := r } status detail payload u =
        sendRelayed o { verb := verb, req := r } status status detail false payload
          (entered (histEntry { verb := verb, req := r } status detail false payload) u) := by
      simp [finish, hc, entered]
    rw [← e] at h h1 h3
    have hp : t.prism = (finish { verb := verb, req := r } status detail payload u).prism := by rw [hs]
    have hh : t.host = (finish { verb := verb, req := r } status detail payload u).host := by rw [hs]
    have hf : t.fw = (finish { verb := verb, req := r } status detail payload u).fw := by rw [hs]
    refine ⟨⟨?_, masks_trans h1 hm⟩, ?_⟩
    · rw [hp, hh, hf]
      refine hs.trans ?_
      generalize finish { verb := verb, req := r } status detail payload u = x at h ⊢
      rw [h]
      rfl
    · rw [hf]
      rcases h3 with h3 | ⟨x, h3⟩
      · rw [h3]
        simp [entered, histPush]
      · rw [h3]
        simp [entered, histPush]

end Sys2Proof.Laws
end

