-- ==== Sys2Proof/Laws/State.lean ====
section
/-! SUPPORT. What each update of one unit of State gives for every unit: the unit it names changed, every other as it was.
One lemma per update, a conjunct per unit, each true by rfl and a simp lemma. -/

namespace Sys2Proof.Laws

open Sys2Proof.Machine

@[simp] theorem modCal_units (f : CalU → CalU) (s : State) :
    (modCal f s).pending = s.pending ∧ (modCal f s).localNs = s.localNs ∧ (modCal f s).freeCtr = s.freeCtr ∧
    (modCal f s).outbox = s.outbox ∧ (modCal f s).time = s.time ∧ (modCal f s).pins = s.pins ∧ (modCal f s).rst = s.rst ∧
    (modCal f s).clk = s.clk ∧ (modCal f s).boot = s.boot ∧ (modCal f s).flash = s.flash ∧ (modCal f s).dbg = s.dbg ∧
    (modCal f s).limit = s.limit ∧ (modCal f s).dram = s.dram ∧ (modCal f s).power = s.power ∧ (modCal f s).wake = s.wake ∧
    (modCal f s).grants = s.grants ∧ (modCal f s).store = s.store ∧ (modCal f s).live = s.live ∧ (modCal f s).host = s.host ∧
    (modCal f s).urg = s.urg ∧ (modCal f s).rep = s.rep ∧ (modCal f s).int = s.int ∧ (modCal f s).fw = s.fw ∧
    (modCal f s).decl = s.decl ∧ (modCal f s).line = s.line ∧ (modCal f s).ports = s.ports ∧ (modCal f s).cal = f s.cal ∧
    (modCal f s).caps = s.caps ∧ (modCal f s).par = s.par ∧ (modCal f s).lamps = s.lamps ∧ (modCal f s).achr = s.achr ∧
    (modCal f s).deliv = s.deliv ∧ (modCal f s).loupe = s.loupe ∧ (modCal f s).lampLink = s.lampLink ∧
    (modCal f s).motion = s.motion ∧ (modCal f s).therm = s.therm ∧ (modCal f s).cam = s.cam ∧ (modCal f s).hk = s.hk ∧
    (modCal f s).prism = s.prism := by
  and_intros <;> rfl

@[simp] theorem modRx_units (n : Nat) (f : CamRx → CamRx) (s : State) :
    (modRx n f s).pending = s.pending ∧ (modRx n f s).localNs = s.localNs ∧ (modRx n f s).freeCtr = s.freeCtr ∧
    (modRx n f s).outbox = s.outbox ∧ (modRx n f s).time = s.time ∧ (modRx n f s).pins = s.pins ∧ (modRx n f s).rst = s.rst ∧
    (modRx n f s).clk = s.clk ∧ (modRx n f s).boot = s.boot ∧ (modRx n f s).flash = s.flash ∧ (modRx n f s).dbg = s.dbg ∧
    (modRx n f s).limit = s.limit ∧ (modRx n f s).dram = s.dram ∧ (modRx n f s).power = s.power ∧
    (modRx n f s).wake = s.wake ∧ (modRx n f s).grants = s.grants ∧ (modRx n f s).store = s.store ∧
    (modRx n f s).live = s.live ∧ (modRx n f s).host = s.host ∧ (modRx n f s).urg = s.urg ∧ (modRx n f s).rep = s.rep ∧
    (modRx n f s).int = s.int ∧ (modRx n f s).fw = s.fw ∧ (modRx n f s).decl = s.decl ∧ (modRx n f s).line = s.line ∧
    (modRx n f s).ports = s.ports ∧ (modRx n f s).cal = s.cal ∧ (modRx n f s).caps = s.caps ∧ (modRx n f s).par = s.par ∧
    (modRx n f s).lamps = s.lamps ∧ (modRx n f s).achr = s.achr ∧ (modRx n f s).deliv = s.deliv ∧
    (modRx n f s).loupe = s.loupe ∧ (modRx n f s).lampLink = s.lampLink ∧ (modRx n f s).motion = s.motion ∧
    (modRx n f s).therm = s.therm ∧ (modRx n f s).cam = { s.cam with rx := vmod s.cam.rx n f } ∧ (modRx n f s).hk = s.hk ∧
    (modRx n f s).prism = s.prism := by
  and_intros <;> rfl

@[simp] theorem modDeliv_units (f : DelivU → DelivU) (s : State) :
    (modDeliv f s).pending = s.pending ∧ (modDeliv f s).localNs = s.localNs ∧ (modDeliv f s).freeCtr = s.freeCtr ∧
    (modDeliv f s).outbox = s.outbox ∧ (modDeliv f s).time = s.time ∧ (modDeliv f s).pins = s.pins ∧
    (modDeliv f s).rst = s.rst ∧ (modDeliv f s).clk = s.clk ∧ (modDeliv f s).boot = s.boot ∧ (modDeliv f s).flash = s.flash ∧
    (modDeliv f s).dbg = s.dbg ∧ (modDeliv f s).limit = s.limit ∧ (modDeliv f s).dram = s.dram ∧
    (modDeliv f s).power = s.power ∧ (modDeliv f s).wake = s.wake ∧ (modDeliv f s).grants = s.grants ∧
    (modDeliv f s).store = s.store ∧ (modDeliv f s).live = s.live ∧ (modDeliv f s).host = s.host ∧
    (modDeliv f s).urg = s.urg ∧ (modDeliv f s).rep = s.rep ∧ (modDeliv f s).int = s.int ∧ (modDeliv f s).fw = s.fw ∧
    (modDeliv f s).decl = s.decl ∧ (modDeliv f s).line = s.line ∧ (modDeliv f s).ports = s.ports ∧
    (modDeliv f s).cal = s.cal ∧ (modDeliv f s).caps = s.caps ∧ (modDeliv f s).par = s.par ∧ (modDeliv f s).lamps = s.lamps ∧
    (modDeliv f s).achr = s.achr ∧ (modDeliv f s).deliv = f s.deliv ∧ (modDeliv f s).loupe = s.loupe ∧
    (modDeliv f s).lampLink = s.lampLink ∧ (modDeliv f s).motion = s.motion ∧ (modDeliv f s).therm = s.therm ∧
    (modDeliv f s).cam = s.cam ∧ (modDeliv f s).hk = s.hk ∧ (modDeliv f s).prism = s.prism := by
  and_intros <;> rfl

@[simp] theorem modAchr_units (f : AchrU → AchrU) (s : State) :
    (modAchr f s).pending = s.pending ∧ (modAchr f s).localNs = s.localNs ∧ (modAchr f s).freeCtr = s.freeCtr ∧
    (modAchr f s).outbox = s.outbox ∧ (modAchr f s).time = s.time ∧ (modAchr f s).pins = s.pins ∧ (modAchr f s).rst = s.rst ∧
    (modAchr f s).clk = s.clk ∧ (modAchr f s).boot = s.boot ∧ (modAchr f s).flash = s.flash ∧ (modAchr f s).dbg = s.dbg ∧
    (modAchr f s).limit = s.limit ∧ (modAchr f s).dram = s.dram ∧ (modAchr f s).power = s.power ∧
    (modAchr f s).wake = s.wake ∧ (modAchr f s).grants = s.grants ∧ (modAchr f s).store = s.store ∧
    (modAchr f s).live = s.live ∧ (modAchr f s).host = s.host ∧ (modAchr f s).urg = s.urg ∧ (modAchr f s).rep = s.rep ∧
    (modAchr f s).int = s.int ∧ (modAchr f s).fw = s.fw ∧ (modAchr f s).decl = s.decl ∧ (modAchr f s).line = s.line ∧
    (modAchr f s).ports = s.ports ∧ (modAchr f s).cal = s.cal ∧ (modAchr f s).caps = s.caps ∧ (modAchr f s).par = s.par ∧
    (modAchr f s).lamps = s.lamps ∧ (modAchr f s).achr = f s.achr ∧ (modAchr f s).deliv = s.deliv ∧
    (modAchr f s).loupe = s.loupe ∧ (modAchr f s).lampLink = s.lampLink ∧ (modAchr f s).motion = s.motion ∧
    (modAchr f s).therm = s.therm ∧ (modAchr f s).cam = s.cam ∧ (modAchr f s).hk = s.hk ∧ (modAchr f s).prism = s.prism := by
  and_intros <;> rfl

@[simp] theorem modGrants_units (f : GrantU → GrantU) (s : State) :
    (modGrants f s).pending = s.pending ∧ (modGrants f s).localNs = s.localNs ∧ (modGrants f s).freeCtr = s.freeCtr ∧
    (modGrants f s).outbox = s.outbox ∧ (modGrants f s).time = s.time ∧ (modGrants f s).pins = s.pins ∧
    (modGrants f s).rst = s.rst ∧ (modGrants f s).clk = s.clk ∧ (modGrants f s).boot = s.boot ∧
    (modGrants f s).flash = s.flash ∧ (modGrants f s).dbg = s.dbg ∧ (modGrants f s).limit = s.limit ∧
    (modGrants f s).dram = s.dram ∧ (modGrants f s).power = s.power ∧ (modGrants f s).wake = s.wake ∧
    (modGrants f s).grants = f s.grants ∧ (modGrants f s).store = s.store ∧ (modGrants f s).live = s.live ∧
    (modGrants f s).host = s.host ∧ (modGrants f s).urg = s.urg ∧ (modGrants f s).rep = s.rep ∧ (modGrants f s).int = s.int ∧
    (modGrants f s).fw = s.fw ∧ (modGrants f s).decl = s.decl ∧ (modGrants f s).line = s.line ∧
    (modGrants f s).ports = s.ports ∧ (modGrants f s).cal = s.cal ∧ (modGrants f s).caps = s.caps ∧
    (modGrants f s).par = s.par ∧ (modGrants f s).lamps = s.lamps ∧ (modGrants f s).achr = s.achr ∧
    (modGrants f s).deliv = s.deliv ∧ (modGrants f s).loupe = s.loupe ∧ (modGrants f s).lampLink = s.lampLink ∧
    (modGrants f s).motion = s.motion ∧ (modGrants f s).therm = s.therm ∧ (modGrants f s).cam = s.cam ∧
    (modGrants f s).hk = s.hk ∧ (modGrants f s).prism = s.prism := by
  and_intros <;> rfl

@[simp] theorem modDram_units (f : DramU → DramU) (s : State) :
    (modDram f s).pending = s.pending ∧ (modDram f s).localNs = s.localNs ∧ (modDram f s).freeCtr = s.freeCtr ∧
    (modDram f s).outbox = s.outbox ∧ (modDram f s).time = s.time ∧ (modDram f s).pins = s.pins ∧ (modDram f s).rst = s.rst ∧
    (modDram f s).clk = s.clk ∧ (modDram f s).boot = s.boot ∧ (modDram f s).flash = s.flash ∧ (modDram f s).dbg = s.dbg ∧
    (modDram f s).limit = s.limit ∧ (modDram f s).dram = f s.dram ∧ (modDram f s).power = s.power ∧
    (modDram f s).wake = s.wake ∧ (modDram f s).grants = s.grants ∧ (modDram f s).store = s.store ∧
    (modDram f s).live = s.live ∧ (modDram f s).host = s.host ∧ (modDram f s).urg = s.urg ∧ (modDram f s).rep = s.rep ∧
    (modDram f s).int = s.int ∧ (modDram f s).fw = s.fw ∧ (modDram f s).decl = s.decl ∧ (modDram f s).line = s.line ∧
    (modDram f s).ports = s.ports ∧ (modDram f s).cal = s.cal ∧ (modDram f s).caps = s.caps ∧ (modDram f s).par = s.par ∧
    (modDram f s).lamps = s.lamps ∧ (modDram f s).achr = s.achr ∧ (modDram f s).deliv = s.deliv ∧
    (modDram f s).loupe = s.loupe ∧ (modDram f s).lampLink = s.lampLink ∧ (modDram f s).motion = s.motion ∧
    (modDram f s).therm = s.therm ∧ (modDram f s).cam = s.cam ∧ (modDram f s).hk = s.hk ∧ (modDram f s).prism = s.prism := by
  and_intros <;> rfl

@[simp] theorem modStr_units (n : Nat) (f : LampStr → LampStr) (s : State) :
    (modStr n f s).pending = s.pending ∧ (modStr n f s).localNs = s.localNs ∧ (modStr n f s).freeCtr = s.freeCtr ∧
    (modStr n f s).outbox = s.outbox ∧ (modStr n f s).time = s.time ∧ (modStr n f s).pins = s.pins ∧
    (modStr n f s).rst = s.rst ∧ (modStr n f s).clk = s.clk ∧ (modStr n f s).boot = s.boot ∧ (modStr n f s).flash = s.flash ∧
    (modStr n f s).dbg = s.dbg ∧ (modStr n f s).limit = s.limit ∧ (modStr n f s).dram = s.dram ∧
    (modStr n f s).power = s.power ∧ (modStr n f s).wake = s.wake ∧ (modStr n f s).grants = s.grants ∧
    (modStr n f s).store = s.store ∧ (modStr n f s).live = s.live ∧ (modStr n f s).host = s.host ∧
    (modStr n f s).urg = s.urg ∧ (modStr n f s).rep = s.rep ∧ (modStr n f s).int = s.int ∧ (modStr n f s).fw = s.fw ∧
    (modStr n f s).decl = s.decl ∧ (modStr n f s).line = s.line ∧ (modStr n f s).ports = s.ports ∧
    (modStr n f s).cal = s.cal ∧ (modStr n f s).caps = s.caps ∧ (modStr n f s).par = s.par ∧
    (modStr n f s).lamps = vmod s.lamps n f ∧ (modStr n f s).achr = s.achr ∧ (modStr n f s).deliv = s.deliv ∧
    (modStr n f s).loupe = s.loupe ∧ (modStr n f s).lampLink = s.lampLink ∧ (modStr n f s).motion = s.motion ∧
    (modStr n f s).therm = s.therm ∧ (modStr n f s).cam = s.cam ∧ (modStr n f s).hk = s.hk ∧
    (modStr n f s).prism = s.prism := by
  and_intros <;> rfl

@[simp] theorem modRing_units (k : Nat) (f : DataRing → DataRing) (s : State) :
    (modRing k f s).pending = s.pending ∧ (modRing k f s).localNs = s.localNs ∧ (modRing k f s).freeCtr = s.freeCtr ∧
    (modRing k f s).outbox = s.outbox ∧ (modRing k f s).time = s.time ∧ (modRing k f s).pins = s.pins ∧
    (modRing k f s).rst = s.rst ∧ (modRing k f s).clk = s.clk ∧ (modRing k f s).boot = s.boot ∧
    (modRing k f s).flash = s.flash ∧ (modRing k f s).dbg = s.dbg ∧ (modRing k f s).limit = s.limit ∧
    (modRing k f s).dram = s.dram ∧ (modRing k f s).power = s.power ∧ (modRing k f s).wake = s.wake ∧
    (modRing k f s).grants = s.grants ∧ (modRing k f s).store = s.store ∧ (modRing k f s).live = s.live ∧
    (modRing k f s).host = { s.host with rings := vmod s.host.rings k f } ∧ (modRing k f s).urg = s.urg ∧
    (modRing k f s).rep = s.rep ∧ (modRing k f s).int = s.int ∧ (modRing k f s).fw = s.fw ∧ (modRing k f s).decl = s.decl ∧
    (modRing k f s).line = s.line ∧ (modRing k f s).ports = s.ports ∧ (modRing k f s).cal = s.cal ∧
    (modRing k f s).caps = s.caps ∧ (modRing k f s).par = s.par ∧ (modRing k f s).lamps = s.lamps ∧
    (modRing k f s).achr = s.achr ∧ (modRing k f s).deliv = s.deliv ∧ (modRing k f s).loupe = s.loupe ∧
    (modRing k f s).lampLink = s.lampLink ∧ (modRing k f s).motion = s.motion ∧ (modRing k f s).therm = s.therm ∧
    (modRing k f s).cam = s.cam ∧ (modRing k f s).hk = s.hk ∧ (modRing k f s).prism = s.prism := by
  and_intros <;> rfl

@[simp] theorem modPower_units (f : PowerU → PowerU) (s : State) :
    (modPower f s).pending = s.pending ∧ (modPower f s).localNs = s.localNs ∧ (modPower f s).freeCtr = s.freeCtr ∧
    (modPower f s).outbox = s.outbox ∧ (modPower f s).time = s.time ∧ (modPower f s).pins = s.pins ∧
    (modPower f s).rst = s.rst ∧ (modPower f s).clk = s.clk ∧ (modPower f s).boot = s.boot ∧ (modPower f s).flash = s.flash ∧
    (modPower f s).dbg = s.dbg ∧ (modPower f s).limit = s.limit ∧ (modPower f s).dram = s.dram ∧
    (modPower f s).power = f s.power ∧ (modPower f s).wake = s.wake ∧ (modPower f s).grants = s.grants ∧
    (modPower f s).store = s.store ∧ (modPower f s).live = s.live ∧ (modPower f s).host = s.host ∧
    (modPower f s).urg = s.urg ∧ (modPower f s).rep = s.rep ∧ (modPower f s).int = s.int ∧ (modPower f s).fw = s.fw ∧
    (modPower f s).decl = s.decl ∧ (modPower f s).line = s.line ∧ (modPower f s).ports = s.ports ∧
    (modPower f s).cal = s.cal ∧ (modPower f s).caps = s.caps ∧ (modPower f s).par = s.par ∧ (modPower f s).lamps = s.lamps ∧
    (modPower f s).achr = s.achr ∧ (modPower f s).deliv = s.deliv ∧ (modPower f s).loupe = s.loupe ∧
    (modPower f s).lampLink = s.lampLink ∧ (modPower f s).motion = s.motion ∧ (modPower f s).therm = s.therm ∧
    (modPower f s).cam = s.cam ∧ (modPower f s).hk = s.hk ∧ (modPower f s).prism = s.prism := by
  and_intros <;> rfl

@[simp] theorem modLine_units (f : LineU → LineU) (s : State) :
    (modLine f s).pending = s.pending ∧ (modLine f s).localNs = s.localNs ∧ (modLine f s).freeCtr = s.freeCtr ∧
    (modLine f s).outbox = s.outbox ∧ (modLine f s).time = s.time ∧ (modLine f s).pins = s.pins ∧ (modLine f s).rst = s.rst ∧
    (modLine f s).clk = s.clk ∧ (modLine f s).boot = s.boot ∧ (modLine f s).flash = s.flash ∧ (modLine f s).dbg = s.dbg ∧
    (modLine f s).limit = s.limit ∧ (modLine f s).dram = s.dram ∧ (modLine f s).power = s.power ∧
    (modLine f s).wake = s.wake ∧ (modLine f s).grants = s.grants ∧ (modLine f s).store = s.store ∧
    (modLine f s).live = s.live ∧ (modLine f s).host = s.host ∧ (modLine f s).urg = s.urg ∧ (modLine f s).rep = s.rep ∧
    (modLine f s).int = s.int ∧ (modLine f s).fw = s.fw ∧ (modLine f s).decl = s.decl ∧ (modLine f s).line = f s.line ∧
    (modLine f s).ports = s.ports ∧ (modLine f s).cal = s.cal ∧ (modLine f s).caps = s.caps ∧ (modLine f s).par = s.par ∧
    (modLine f s).lamps = s.lamps ∧ (modLine f s).achr = s.achr ∧ (modLine f s).deliv = s.deliv ∧
    (modLine f s).loupe = s.loupe ∧ (modLine f s).lampLink = s.lampLink ∧ (modLine f s).motion = s.motion ∧
    (modLine f s).therm = s.therm ∧ (modLine f s).cam = s.cam ∧ (modLine f s).hk = s.hk ∧ (modLine f s).prism = s.prism := by
  and_intros <;> rfl

@[simp] theorem modSeam_units (f : SeamU → SeamU) (s : State) :
    (modSeam f s).pending = s.pending ∧ (modSeam f s).localNs = s.localNs ∧ (modSeam f s).freeCtr = s.freeCtr ∧
    (modSeam f s).outbox = s.outbox ∧ (modSeam f s).time = s.time ∧ (modSeam f s).pins = s.pins ∧ (modSeam f s).rst = s.rst ∧
    (modSeam f s).clk = s.clk ∧ (modSeam f s).boot = s.boot ∧ (modSeam f s).flash = s.flash ∧ (modSeam f s).dbg = s.dbg ∧
    (modSeam f s).limit = s.limit ∧ (modSeam f s).dram = s.dram ∧ (modSeam f s).power = s.power ∧
    (modSeam f s).wake = s.wake ∧ (modSeam f s).grants = s.grants ∧ (modSeam f s).store = s.store ∧
    (modSeam f s).live = s.live ∧ (modSeam f s).host = s.host ∧ (modSeam f s).urg = s.urg ∧ (modSeam f s).rep = s.rep ∧
    (modSeam f s).int = s.int ∧ (modSeam f s).fw = s.fw ∧ (modSeam f s).decl = s.decl ∧ (modSeam f s).line = s.line ∧
    (modSeam f s).ports = s.ports ∧ (modSeam f s).cal = s.cal ∧ (modSeam f s).caps = s.caps ∧ (modSeam f s).par = s.par ∧
    (modSeam f s).lamps = s.lamps ∧ (modSeam f s).achr = s.achr ∧
    (modSeam f s).deliv = { s.deliv with seam := f s.deliv.seam } ∧ (modSeam f s).loupe = s.loupe ∧
    (modSeam f s).lampLink = s.lampLink ∧ (modSeam f s).motion = s.motion ∧ (modSeam f s).therm = s.therm ∧
    (modSeam f s).cam = s.cam ∧ (modSeam f s).hk = s.hk ∧ (modSeam f s).prism = s.prism := by
  and_intros <;> rfl

@[simp] theorem modCmp_units (f : CompareU → CompareU) (s : State) :
    (modCmp f s).pending = s.pending ∧ (modCmp f s).localNs = s.localNs ∧ (modCmp f s).freeCtr = s.freeCtr ∧
    (modCmp f s).outbox = s.outbox ∧ (modCmp f s).time = s.time ∧ (modCmp f s).pins = s.pins ∧ (modCmp f s).rst = s.rst ∧
    (modCmp f s).clk = s.clk ∧ (modCmp f s).boot = s.boot ∧ (modCmp f s).flash = s.flash ∧ (modCmp f s).dbg = s.dbg ∧
    (modCmp f s).limit = s.limit ∧ (modCmp f s).dram = s.dram ∧ (modCmp f s).power = s.power ∧ (modCmp f s).wake = s.wake ∧
    (modCmp f s).grants = s.grants ∧ (modCmp f s).store = s.store ∧ (modCmp f s).live = s.live ∧ (modCmp f s).host = s.host ∧
    (modCmp f s).urg = s.urg ∧ (modCmp f s).rep = s.rep ∧ (modCmp f s).int = s.int ∧ (modCmp f s).fw = s.fw ∧
    (modCmp f s).decl = s.decl ∧ (modCmp f s).line = s.line ∧ (modCmp f s).ports = s.ports ∧ (modCmp f s).cal = s.cal ∧
    (modCmp f s).caps = s.caps ∧ (modCmp f s).par = s.par ∧ (modCmp f s).lamps = s.lamps ∧ (modCmp f s).achr = s.achr ∧
    (modCmp f s).deliv = s.deliv ∧ (modCmp f s).loupe = s.loupe ∧ (modCmp f s).lampLink = s.lampLink ∧
    (modCmp f s).motion = { s.motion with cmp := f s.motion.cmp } ∧ (modCmp f s).therm = s.therm ∧ (modCmp f s).cam = s.cam ∧
    (modCmp f s).hk = s.hk ∧ (modCmp f s).prism = s.prism := by
  and_intros <;> rfl

@[simp] theorem modSeg_units (n : Nat) (f : PortU → PortU) (s : State) :
    (modSeg n f s).pending = s.pending ∧ (modSeg n f s).localNs = s.localNs ∧ (modSeg n f s).freeCtr = s.freeCtr ∧
    (modSeg n f s).outbox = s.outbox ∧ (modSeg n f s).time = s.time ∧ (modSeg n f s).pins = s.pins ∧
    (modSeg n f s).rst = s.rst ∧ (modSeg n f s).clk = s.clk ∧ (modSeg n f s).boot = s.boot ∧ (modSeg n f s).flash = s.flash ∧
    (modSeg n f s).dbg = s.dbg ∧ (modSeg n f s).limit = s.limit ∧ (modSeg n f s).dram = s.dram ∧
    (modSeg n f s).power = s.power ∧ (modSeg n f s).wake = s.wake ∧ (modSeg n f s).grants = s.grants ∧
    (modSeg n f s).store = s.store ∧ (modSeg n f s).live = s.live ∧ (modSeg n f s).host = s.host ∧
    (modSeg n f s).urg = s.urg ∧ (modSeg n f s).rep = s.rep ∧ (modSeg n f s).int = s.int ∧ (modSeg n f s).fw = s.fw ∧
    (modSeg n f s).decl = s.decl ∧ (modSeg n f s).line = s.line ∧ (modSeg n f s).ports = vmod s.ports n f ∧
    (modSeg n f s).cal = s.cal ∧ (modSeg n f s).caps = s.caps ∧ (modSeg n f s).par = s.par ∧ (modSeg n f s).lamps = s.lamps ∧
    (modSeg n f s).achr = s.achr ∧ (modSeg n f s).deliv = s.deliv ∧ (modSeg n f s).loupe = s.loupe ∧
    (modSeg n f s).lampLink = s.lampLink ∧ (modSeg n f s).motion = s.motion ∧ (modSeg n f s).therm = s.therm ∧
    (modSeg n f s).cam = s.cam ∧ (modSeg n f s).hk = s.hk ∧ (modSeg n f s).prism = s.prism := by
  and_intros <;> rfl

@[simp] theorem modHk_units (f : HkU → HkU) (s : State) :
    (modHk f s).pending = s.pending ∧ (modHk f s).localNs = s.localNs ∧ (modHk f s).freeCtr = s.freeCtr ∧
    (modHk f s).outbox = s.outbox ∧ (modHk f s).time = s.time ∧ (modHk f s).pins = s.pins ∧ (modHk f s).rst = s.rst ∧
    (modHk f s).clk = s.clk ∧ (modHk f s).boot = s.boot ∧ (modHk f s).flash = s.flash ∧ (modHk f s).dbg = s.dbg ∧
    (modHk f s).limit = s.limit ∧ (modHk f s).dram = s.dram ∧ (modHk f s).power = s.power ∧ (modHk f s).wake = s.wake ∧
    (modHk f s).grants = s.grants ∧ (modHk f s).store = s.store ∧ (modHk f s).live = s.live ∧ (modHk f s).host = s.host ∧
    (modHk f s).urg = s.urg ∧ (modHk f s).rep = s.rep ∧ (modHk f s).int = s.int ∧ (modHk f s).fw = s.fw ∧
    (modHk f s).decl = s.decl ∧ (modHk f s).line = s.line ∧ (modHk f s).ports = s.ports ∧ (modHk f s).cal = s.cal ∧
    (modHk f s).caps = s.caps ∧ (modHk f s).par = s.par ∧ (modHk f s).lamps = s.lamps ∧ (modHk f s).achr = s.achr ∧
    (modHk f s).deliv = s.deliv ∧ (modHk f s).loupe = s.loupe ∧ (modHk f s).lampLink = s.lampLink ∧
    (modHk f s).motion = s.motion ∧ (modHk f s).therm = s.therm ∧ (modHk f s).cam = s.cam ∧ (modHk f s).hk = f s.hk ∧
    (modHk f s).prism = s.prism := by
  and_intros <;> rfl

@[simp] theorem emit_units (o : Out) (s : State) :
    (emit o s).pending = s.pending ∧ (emit o s).localNs = s.localNs ∧ (emit o s).freeCtr = s.freeCtr ∧
    (emit o s).outbox = s.outbox ++ [o] ∧ (emit o s).time = s.time ∧ (emit o s).pins = s.pins ∧ (emit o s).rst = s.rst ∧
    (emit o s).clk = s.clk ∧ (emit o s).boot = s.boot ∧ (emit o s).flash = s.flash ∧ (emit o s).dbg = s.dbg ∧
    (emit o s).limit = s.limit ∧ (emit o s).dram = s.dram ∧ (emit o s).power = s.power ∧ (emit o s).wake = s.wake ∧
    (emit o s).grants = s.grants ∧ (emit o s).store = s.store ∧ (emit o s).live = s.live ∧ (emit o s).host = s.host ∧
    (emit o s).urg = s.urg ∧ (emit o s).rep = s.rep ∧ (emit o s).int = s.int ∧ (emit o s).fw = s.fw ∧
    (emit o s).decl = s.decl ∧ (emit o s).line = s.line ∧ (emit o s).ports = s.ports ∧ (emit o s).cal = s.cal ∧
    (emit o s).caps = s.caps ∧ (emit o s).par = s.par ∧ (emit o s).lamps = s.lamps ∧ (emit o s).achr = s.achr ∧
    (emit o s).deliv = s.deliv ∧ (emit o s).loupe = s.loupe ∧ (emit o s).lampLink = s.lampLink ∧
    (emit o s).motion = s.motion ∧ (emit o s).therm = s.therm ∧ (emit o s).cam = s.cam ∧ (emit o s).hk = s.hk ∧
    (emit o s).prism = s.prism := by
  and_intros <;> rfl

@[simp] theorem modPort_units (p : Nat) (f : PrismPort → PrismPort) (s : State) :
    (modPort p f s).pending = s.pending ∧ (modPort p f s).localNs = s.localNs ∧ (modPort p f s).freeCtr = s.freeCtr ∧
    (modPort p f s).outbox = s.outbox ∧ (modPort p f s).time = s.time ∧ (modPort p f s).pins = s.pins ∧
    (modPort p f s).rst = s.rst ∧ (modPort p f s).clk = s.clk ∧ (modPort p f s).boot = s.boot ∧
    (modPort p f s).flash = s.flash ∧ (modPort p f s).dbg = s.dbg ∧ (modPort p f s).limit = s.limit ∧
    (modPort p f s).dram = s.dram ∧ (modPort p f s).power = s.power ∧ (modPort p f s).wake = s.wake ∧
    (modPort p f s).grants = s.grants ∧ (modPort p f s).store = s.store ∧ (modPort p f s).live = s.live ∧
    (modPort p f s).host = s.host ∧ (modPort p f s).urg = s.urg ∧ (modPort p f s).rep = s.rep ∧ (modPort p f s).int = s.int ∧
    (modPort p f s).fw = s.fw ∧ (modPort p f s).decl = s.decl ∧ (modPort p f s).line = s.line ∧
    (modPort p f s).ports = s.ports ∧ (modPort p f s).cal = s.cal ∧ (modPort p f s).caps = s.caps ∧
    (modPort p f s).par = s.par ∧ (modPort p f s).lamps = s.lamps ∧ (modPort p f s).achr = s.achr ∧
    (modPort p f s).deliv = s.deliv ∧ (modPort p f s).loupe = s.loupe ∧ (modPort p f s).lampLink = s.lampLink ∧
    (modPort p f s).motion = s.motion ∧ (modPort p f s).therm = s.therm ∧ (modPort p f s).cam = s.cam ∧
    (modPort p f s).hk = s.hk := by
  and_intros <;> rfl

@[simp] theorem modAx_units (k : Nat) (f : Axis → Axis) (s : State) :
    (modAx k f s).pending = s.pending ∧ (modAx k f s).localNs = s.localNs ∧ (modAx k f s).freeCtr = s.freeCtr ∧
    (modAx k f s).outbox = s.outbox ∧ (modAx k f s).time = s.time ∧ (modAx k f s).pins = s.pins ∧ (modAx k f s).rst = s.rst ∧
    (modAx k f s).clk = s.clk ∧ (modAx k f s).boot = s.boot ∧ (modAx k f s).flash = s.flash ∧ (modAx k f s).dbg = s.dbg ∧
    (modAx k f s).limit = s.limit ∧ (modAx k f s).dram = s.dram ∧ (modAx k f s).power = s.power ∧
    (modAx k f s).wake = s.wake ∧ (modAx k f s).grants = s.grants ∧ (modAx k f s).store = s.store ∧
    (modAx k f s).live = s.live ∧ (modAx k f s).host = s.host ∧ (modAx k f s).urg = s.urg ∧ (modAx k f s).rep = s.rep ∧
    (modAx k f s).int = s.int ∧ (modAx k f s).fw = s.fw ∧ (modAx k f s).decl = s.decl ∧ (modAx k f s).line = s.line ∧
    (modAx k f s).ports = s.ports ∧ (modAx k f s).cal = s.cal ∧ (modAx k f s).caps = s.caps ∧ (modAx k f s).par = s.par ∧
    (modAx k f s).lamps = s.lamps ∧ (modAx k f s).achr = s.achr ∧ (modAx k f s).deliv = s.deliv ∧
    (modAx k f s).loupe = s.loupe ∧ (modAx k f s).lampLink = s.lampLink ∧ (modAx k f s).therm = s.therm ∧
    (modAx k f s).cam = s.cam ∧ (modAx k f s).hk = s.hk ∧ (modAx k f s).prism = s.prism := by
  and_intros <;> rfl

@[simp] theorem modDrv_units (k : Nat) (f : Drive → Drive) (s : State) :
    (modDrv k f s).pending = s.pending ∧ (modDrv k f s).localNs = s.localNs ∧ (modDrv k f s).freeCtr = s.freeCtr ∧
    (modDrv k f s).outbox = s.outbox ∧ (modDrv k f s).time = s.time ∧ (modDrv k f s).pins = s.pins ∧
    (modDrv k f s).rst = s.rst ∧ (modDrv k f s).clk = s.clk ∧ (modDrv k f s).boot = s.boot ∧ (modDrv k f s).flash = s.flash ∧
    (modDrv k f s).dbg = s.dbg ∧ (modDrv k f s).limit = s.limit ∧ (modDrv k f s).dram = s.dram ∧
    (modDrv k f s).power = s.power ∧ (modDrv k f s).wake = s.wake ∧ (modDrv k f s).grants = s.grants ∧
    (modDrv k f s).store = s.store ∧ (modDrv k f s).live = s.live ∧ (modDrv k f s).host = s.host ∧
    (modDrv k f s).urg = s.urg ∧ (modDrv k f s).rep = s.rep ∧ (modDrv k f s).int = s.int ∧ (modDrv k f s).fw = s.fw ∧
    (modDrv k f s).decl = s.decl ∧ (modDrv k f s).line = s.line ∧ (modDrv k f s).ports = s.ports ∧
    (modDrv k f s).cal = s.cal ∧ (modDrv k f s).caps = s.caps ∧ (modDrv k f s).par = s.par ∧ (modDrv k f s).lamps = s.lamps ∧
    (modDrv k f s).achr = s.achr ∧ (modDrv k f s).deliv = s.deliv ∧ (modDrv k f s).loupe = s.loupe ∧
    (modDrv k f s).lampLink = s.lampLink ∧ (modDrv k f s).therm = s.therm ∧ (modDrv k f s).cam = s.cam ∧
    (modDrv k f s).hk = s.hk ∧ (modDrv k f s).prism = s.prism := by
  and_intros <;> rfl

@[simp] theorem modEnc_units (k : Nat) (f : Encoder → Encoder) (s : State) :
    (modEnc k f s).pending = s.pending ∧ (modEnc k f s).localNs = s.localNs ∧ (modEnc k f s).freeCtr = s.freeCtr ∧
    (modEnc k f s).outbox = s.outbox ∧ (modEnc k f s).time = s.time ∧ (modEnc k f s).pins = s.pins ∧
    (modEnc k f s).rst = s.rst ∧ (modEnc k f s).clk = s.clk ∧ (modEnc k f s).boot = s.boot ∧ (modEnc k f s).flash = s.flash ∧
    (modEnc k f s).dbg = s.dbg ∧ (modEnc k f s).limit = s.limit ∧ (modEnc k f s).dram = s.dram ∧
    (modEnc k f s).power = s.power ∧ (modEnc k f s).wake = s.wake ∧ (modEnc k f s).grants = s.grants ∧
    (modEnc k f s).store = s.store ∧ (modEnc k f s).live = s.live ∧ (modEnc k f s).host = s.host ∧
    (modEnc k f s).urg = s.urg ∧ (modEnc k f s).rep = s.rep ∧ (modEnc k f s).int = s.int ∧ (modEnc k f s).fw = s.fw ∧
    (modEnc k f s).decl = s.decl ∧ (modEnc k f s).line = s.line ∧ (modEnc k f s).ports = s.ports ∧
    (modEnc k f s).cal = s.cal ∧ (modEnc k f s).caps = s.caps ∧ (modEnc k f s).par = s.par ∧ (modEnc k f s).lamps = s.lamps ∧
    (modEnc k f s).achr = s.achr ∧ (modEnc k f s).deliv = s.deliv ∧ (modEnc k f s).loupe = s.loupe ∧
    (modEnc k f s).lampLink = s.lampLink ∧ (modEnc k f s).therm = s.therm ∧ (modEnc k f s).cam = s.cam ∧
    (modEnc k f s).hk = s.hk ∧ (modEnc k f s).prism = s.prism := by
  and_intros <;> rfl

@[simp] theorem modSen_units (n : Nat) (f : Sensor → Sensor) (s : State) :
    (modSen n f s).pending = s.pending ∧ (modSen n f s).localNs = s.localNs ∧ (modSen n f s).freeCtr = s.freeCtr ∧
    (modSen n f s).outbox = s.outbox ∧ (modSen n f s).time = s.time ∧ (modSen n f s).pins = s.pins ∧
    (modSen n f s).rst = s.rst ∧ (modSen n f s).clk = s.clk ∧ (modSen n f s).boot = s.boot ∧ (modSen n f s).flash = s.flash ∧
    (modSen n f s).dbg = s.dbg ∧ (modSen n f s).limit = s.limit ∧ (modSen n f s).dram = s.dram ∧
    (modSen n f s).power = s.power ∧ (modSen n f s).wake = s.wake ∧ (modSen n f s).grants = s.grants ∧
    (modSen n f s).store = s.store ∧ (modSen n f s).live = s.live ∧ (modSen n f s).host = s.host ∧
    (modSen n f s).urg = s.urg ∧ (modSen n f s).rep = s.rep ∧ (modSen n f s).int = s.int ∧ (modSen n f s).fw = s.fw ∧
    (modSen n f s).decl = s.decl ∧ (modSen n f s).line = s.line ∧ (modSen n f s).ports = s.ports ∧
    (modSen n f s).cal = s.cal ∧ (modSen n f s).caps = s.caps ∧ (modSen n f s).par = s.par ∧ (modSen n f s).lamps = s.lamps ∧
    (modSen n f s).achr = s.achr ∧ (modSen n f s).deliv = s.deliv ∧ (modSen n f s).loupe = s.loupe ∧
    (modSen n f s).lampLink = s.lampLink ∧ (modSen n f s).motion = s.motion ∧ (modSen n f s).cam = s.cam ∧
    (modSen n f s).hk = s.hk ∧ (modSen n f s).prism = s.prism := by
  and_intros <;> rfl

@[simp] theorem modLane_units (n x : Nat) (f : Lane → Lane) (s : State) :
    (modLane n x f s).pending = s.pending ∧ (modLane n x f s).localNs = s.localNs ∧ (modLane n x f s).freeCtr = s.freeCtr ∧
    (modLane n x f s).outbox = s.outbox ∧ (modLane n x f s).time = s.time ∧ (modLane n x f s).pins = s.pins ∧
    (modLane n x f s).rst = s.rst ∧ (modLane n x f s).clk = s.clk ∧ (modLane n x f s).boot = s.boot ∧
    (modLane n x f s).flash = s.flash ∧ (modLane n x f s).dbg = s.dbg ∧ (modLane n x f s).limit = s.limit ∧
    (modLane n x f s).dram = s.dram ∧ (modLane n x f s).power = s.power ∧ (modLane n x f s).wake = s.wake ∧
    (modLane n x f s).grants = s.grants ∧ (modLane n x f s).store = s.store ∧ (modLane n x f s).live = s.live ∧
    (modLane n x f s).host = s.host ∧ (modLane n x f s).urg = s.urg ∧ (modLane n x f s).rep = s.rep ∧
    (modLane n x f s).int = s.int ∧ (modLane n x f s).fw = s.fw ∧ (modLane n x f s).decl = s.decl ∧
    (modLane n x f s).line = s.line ∧ (modLane n x f s).cal = s.cal ∧ (modLane n x f s).caps = s.caps ∧
    (modLane n x f s).par = s.par ∧ (modLane n x f s).lamps = s.lamps ∧ (modLane n x f s).achr = s.achr ∧
    (modLane n x f s).deliv = s.deliv ∧ (modLane n x f s).loupe = s.loupe ∧ (modLane n x f s).lampLink = s.lampLink ∧
    (modLane n x f s).motion = s.motion ∧ (modLane n x f s).therm = s.therm ∧ (modLane n x f s).cam = s.cam ∧
    (modLane n x f s).hk = s.hk ∧ (modLane n x f s).prism = s.prism := by
  and_intros <;> rfl

@[simp] theorem takeFree_units  (s : State) :
    ((takeFree s).2).pending = s.pending ∧ ((takeFree s).2).localNs = s.localNs ∧ ((takeFree s).2).freeCtr = s.freeCtr + 1 ∧
    ((takeFree s).2).outbox = s.outbox ∧ ((takeFree s).2).time = s.time ∧ ((takeFree s).2).pins = s.pins ∧
    ((takeFree s).2).rst = s.rst ∧ ((takeFree s).2).clk = s.clk ∧ ((takeFree s).2).boot = s.boot ∧
    ((takeFree s).2).flash = s.flash ∧ ((takeFree s).2).dbg = s.dbg ∧ ((takeFree s).2).limit = s.limit ∧
    ((takeFree s).2).dram = s.dram ∧ ((takeFree s).2).power = s.power ∧ ((takeFree s).2).wake = s.wake ∧
    ((takeFree s).2).grants = s.grants ∧ ((takeFree s).2).store = s.store ∧ ((takeFree s).2).live = s.live ∧
    ((takeFree s).2).host = s.host ∧ ((takeFree s).2).urg = s.urg ∧ ((takeFree s).2).rep = s.rep ∧
    ((takeFree s).2).int = s.int ∧ ((takeFree s).2).fw = s.fw ∧ ((takeFree s).2).decl = s.decl ∧
    ((takeFree s).2).line = s.line ∧ ((takeFree s).2).ports = s.ports ∧ ((takeFree s).2).cal = s.cal ∧
    ((takeFree s).2).caps = s.caps ∧ ((takeFree s).2).par = s.par ∧ ((takeFree s).2).lamps = s.lamps ∧
    ((takeFree s).2).achr = s.achr ∧ ((takeFree s).2).deliv = s.deliv ∧ ((takeFree s).2).loupe = s.loupe ∧
    ((takeFree s).2).lampLink = s.lampLink ∧ ((takeFree s).2).motion = s.motion ∧ ((takeFree s).2).therm = s.therm ∧
    ((takeFree s).2).cam = s.cam ∧ ((takeFree s).2).hk = s.hk ∧ ((takeFree s).2).prism = s.prism := by
  and_intros <;> rfl

end Sys2Proof.Laws
end

