-- ==== Sys2Proof/Tests/Slice0.lean ====
section
/-! SUPPORT. Small tests, each of one command on a small state: the hypotheses of a statement hold there, and the result is
what the rule cited gives. The expected values come from the spec's rules and tables, by hand. -/

namespace Sys2Proof.Tests

set_option Elab.async false

open Sys2Proof Sys2Proof.Machine Sys2Proof.Safety

/-- The state a command leaves; the reset state where it leaves none. -/
def after (c : Instr) (s : State) : State :=
  match exec c s with
  | .next t => t
  | _ => State.reset

/-- Out of reset and in Run, firmware running on CPU_CLK, the endpoint enabled, FAULT_N high. -/
def up : State :=
  { State.reset with
    rst := { inEffect := none, cause := 1#32 }
    pins := { perstHigh := true, pwrEnIo := true, pwrEnCore := true, faultLow := false }
    clk := { pllLocked := true, pllActive := true }
    boot := { stage := .running, endpointOn := true, wdogRunning := true, runningSince := some 0 }
    host := { linkSpeed := 4, linkWidth := 4, link := .l0 }
    power := { seqAt := none } }

/-- A settled state, as a Bool. -/
def quiet (s : State) : Bool := s.pins.faultLow == faultCause s && s.int.due &&& ~~~s.int.mask == 0#32

/-! ### Resets, clocks and boot -/

theorem test_up_is_settled : quiet up = true ∧ fwRunning up = true ∧ hostReach up = true ∧ dpClk up = true := by
  decide +kernel

theorem test_reset_is_settled : quiet State.reset = true := by decide +kernel

/-- R35: RESET_N low for 1 µs. -/
theorem test_resetNLow : up.rst.inEffect ≠ some .system ∧ (after (.resetNLow ⟨1000, true⟩) up).rst.cause = 2#32 ∧
    (after (.resetNLow ⟨1000, false⟩) up).pins.resetLow = true ∧ (after (.resetNLow ⟨999, true⟩) up).rst.cause = 1#32 := by decide +kernel

theorem test_perstNFall : wideReset up = false ∧ up.power.present ≠ .deep ∧ up.power.trans ≠ .deepEntry ∧
    up.pins.wakeAsserted = false ∧ up.pins.perstHigh = true ∧ up.pins.pwrEnCore = true ∧
    (after .perstNFall up).rst.cause = 5#32 := by decide +kernel

/-- R827: PERST_N falls in Deep standby: the link is held in reset, and nothing else. -/
theorem test_perstNFall_held : (after .perstNFall { up with power := { up.power with present := .deep } }).rst.cause = 1#32 ∧
    (after .perstNFall { up with power := { up.power with present := .deep } }).host.linkSpeed = 0 := by decide +kernel

theorem test_softResetCore : hostReach up = true ∧ (after (.softResetCore 0xD1E50011#32) up).rst.cause = 9#32 ∧
    (after (.softResetCore 0xD1E50011#32) up).rst.bootFromHost = true ∧
    (after (.softResetCore 0xD1E40011#32) up).rst.cause = 1#32 := by decide +kernel

theorem test_softResetControl : up.rst.inEffect = none ∧
    (after (.softResetControl 0xD1E50002#32) up).rst.cause = 0x41#32 ∧
    (after (.softResetControl 0xD1E50002#32) up).boot.stage = .reset := by decide +kernel

theorem test_thermalShutdown : (after .thermalShutdown up).rst.cause = 0x11#32 ∧
    (after .thermalShutdown up).rst.thermalHold = true := by decide +kernel

/-- Two unread commands. -/
def unread : State := { up with host := { up.host with cmd := { size := 8, tail := 5#16, head := 3#16, served := 5#16 } } }

/-- R38, R45, R69: the watchdog discards the unread commands. -/
theorem test_watchdogExpiry : unread.boot.wdogRunning = true ∧ unread.boot.wdogPaused = false ∧
    (after .watchdogExpiry unread).rst.cause = 0x81#32 ∧ (after .watchdogExpiry unread).boot.wdogCount = 1 ∧
    (after .watchdogExpiry unread).boot.discarded = 2 ∧ (after .watchdogExpiry unread).host.cmd.head = 5#16 ∧
    (after .watchdogExpiry unread).line.st = .booted ∧ (after .watchdogExpiry unread).wake = unread.wake ∧
    (after .watchdogExpiry unread).clk = { unread.clk with pllActive := false } ∧
    (after .watchdogExpiry unread).pins.faultLow = true := by decide +kernel

/-- A debugger with full-debug unlock. -/
def unlocked : State := { up with dbg := { openScope := some 1, nonce := some (List.replicate 16 7#8) } }

theorem test_debugResetRequest : unlocked.dbg.openScope = some 1 ∧ unlocked.rst.inEffect = none ∧
    (after .debugResetRequest unlocked).rst.cause = 0x101#32 ∧
    (after .debugResetRequest unlocked).dbg.openScope = some 1 := by decide +kernel

/-- R73, R74: no key slot is unrevoked, so the response fails. -/
def revoked : State := { unlocked with store := { unlocked.store with revoked := 15 } }
theorem test_debugChallengeResponse : revoked.dbg.failures < 3 ∧ revoked.dbg.nonce = some (List.replicate 16 7#8) ∧
    responseOk revoked (List.replicate 16 7#8) 1#8 [] [] = false ∧
    (after (.debugChallengeResponse 1#8 [] []) revoked).dbg.failures = 1 ∧
    (after (.debugChallengeResponse 1#8 [] []) revoked).dbg.nonce.isSome = true := by decide +kernel

theorem test_debugHalt : (after .debugHalt unlocked).dbg.halted = true ∧ (after .debugHalt unlocked).boot.wdogPaused = true ∧
    (after .debugHalt unlocked).line.frozen = true ∧ (after .debugHalt unlocked).pins.faultLow = true ∧
    (str (after .debugHalt unlocked) 15).safed = true ∧
    (after .debugHalt unlocked).boot = { unlocked.boot with wdogPaused := true } := by decide +kernel

theorem test_debugHaltRelease : (after .debugHalt unlocked).dbg.halted = true ∧
    (after .debugHaltRelease (after .debugHalt unlocked)).pins.faultLow = false := by decide +kernel

/-- R71: a TAP reset selects IDCODE. -/
theorem test_tapReset : (after .tapReset unlocked).dbg.tapData = 0x12472A3F ∧
    (after .tapReset unlocked).dbg.openScope = some 1 := by decide +kernel

/-- R34: the PLL lost lock, and the reference still runs. -/
theorem test_clockFault : wideReset up = false ∧ up.clk.clockFault = false ∧ up.clk.pllLocked = true ∧
    (after (.clockFault false) up).clk = { refRunning := true, clockFault := true, faultCount := 1 } ∧
    (after (.clockFault true) up).clk.refRunning = false ∧ (after (.clockFault true) up).line.frozen = true ∧
    (after (.clockFault true) up).pins.faultLow = true := by decide +kernel

/-- Firmware started, the PLL not yet locked. -/
def starting : State := { up with boot := { up.boot with stage := .starting }, clk := {} }

theorem test_rootPllLock : starting.boot.stage = .starting ∧ starting.power.trans ≠ .waking ∧
    (after .rootPllLock starting).clk = { pllLocked := true, pllActive := true } ∧
    (after .rootPllLock starting).power.avsDuty = 455 := by decide +kernel

theorem test_pllFail : (after .pllFail starting).boot.stage = .failed ∧ (after .pllFail starting).boot.reason = 9 ∧
    ((after .pllFail starting).store.log.getLast?.map fun e => (e.code, e.args)) = some (3, [9, 0, 0, 0]) := by decide +kernel

theorem test_fwRunning : (after .fwRunning { starting with clk := up.clk }).boot.stage = .running ∧
    (after .fwRunning { starting with clk := up.clk }).int.status.getLsbD 5 = true := by decide +kernel

/-- Powered, in reset, with policy HOST_ONLY. -/
def hostOnly : State :=
  { State.reset with pins := { pwrEnIo := true, pwrEnCore := true }, store := { State.reset.store with policy := 2 } }

theorem test_bootRomStart : hostOnly.rst.inEffect ≠ none ∧ hostOnly.power.present ≠ .deep ∧ hostOnly.boot.loopCount < 3 ∧
    (after .bootRomStart hostOnly).boot.stage = .waitHost ∧ (after .bootRomStart hostOnly).boot.endpointOn = true ∧
    (after .bootRomStart hostOnly).rst.inEffect = none := by decide +kernel

/-- R788: 1.0 ms after the sequence begins, then 2.0 ms. -/
theorem test_pwrEnSequenceTimer :
    quiet { State.reset with localNs := 1000000, power := { seqAt := some 0 } } = true ∧
    (after .pwrEnSequenceTimer { State.reset with localNs := 1000000, power := { seqAt := some 0 } }).pins.pwrEnIo = true ∧
    (after .pwrEnSequenceTimer { State.reset with localNs := 999999, power := { seqAt := some 0 } }).pins.pwrEnIo = false ∧
    (after .pwrEnSequenceTimer { State.reset with
      localNs := 3000000, pins := { pwrEnIo := true }, power := { seqAt := some 1000000 } }).pins.pwrEnCore = true ∧
    (after .pwrEnSequenceTimer { State.reset with
      localNs := 100000, pins := { pwrEnIo := true }, power := { seqAt := some 0, seqDown := true } }).pins.pwrEnIo = false := by
  decide +kernel

theorem test_supplyLoss : (after .supplyLoss up).rst.cause = 1#32 ∧ (after .supplyLoss up).boot.stage = .reset := by
  decide +kernel

theorem test_powerOn : (after .powerOn unlocked).dbg.openScope = none ∧ (after .powerOn unlocked).rst.cause = 1#32 := by
  decide +kernel

/-- A slot whose header fails: the first bytes are no magic. -/
def flashTrying : State := { up with boot := { up.boot with stage := .loading, flashTry := some 0 } }
theorem test_flashImageLoaded : flashTrying.boot.flashTry = some 0 ∧ flashTrying.limit.ceilingLock = false ∧
    (after .flashImageLoaded flashTrying).boot.flashFailed = [(0, 2)] := by decide +kernel

/-- A host image of 512 bytes with a wrong magic, in one descriptor. -/
def hostImage : UpDesc := { host := [], data := List.replicate 8 0#8 ++ [0#8, 2#8] ++ List.replicate 502 0#8, ok := true }
def awaiting : State := { up with
  boot := { up.boot with stage := .waitHost, wdogRunning := false }
  host := { up.host with rings := vset up.host.rings 0 { size := 8, ctrl := 3#32, tail := 1#16, posted := 1#16 } } }
theorem test_hostImageReceived : ringOn (ring awaiting 0) = true ∧ uAt hostImage.data 8 4 = 512 ∧ hostImage.data.length = 512 ∧
    hostReach awaiting = true ∧ (ring awaiting 0).posted = (ring awaiting 0).head + 1#16 ∧
    (after (.hostImageReceived [hostImage]) awaiting).boot.reason = 2 ∧
    (after (.hostImageReceived [hostImage]) awaiting).boot.stage = .waitHost := by decide +kernel

/-! ### The host link, the rings, reports and interrupts -/

/-- R90's own example. -/
theorem test_crc32 : crc32 [0x31#8, 0x32#8, 0x33#8, 0x34#8, 0x35#8, 0x36#8, 0x37#8, 0x38#8, 0x39#8] = 0xCBF43926#32 := by
  decide +kernel

/-- A command packet (R88), its CRC that of R90 over header and payload. -/
def pkt (tag verb obj mods cls : Nat) (payload : List Byte) : List Byte :=
  let h := leBytes 2 tag ++ leBytes 2 verb ++ leBytes 2 obj ++ leBytes 2 mods ++ leBytes 2 payload.length ++ [b8 cls, 0#8]
  h ++ wordBytes (crc32 (h ++ payload)) ++ payload

/-- A state in which the host serves rings of 8 slots, with 3 commands waiting. -/
def serving : State := { up with host := { up.host with
  cmd := { size := 8, tail := 3#16, served := 3#16 }, rep := { size := 8 }, linkSpeed := 4, linkWidth := 8 } }

theorem test_d3hotEntry : endpointUp serving = true ∧ serving.rst.d3hot = false ∧ (after .d3hotEntry serving).rst.d3hot = true ∧
    (after .d3hotEntry serving).line.frozen = true ∧ (after .d3hotEntry serving).pins.faultLow = true ∧
    (str (after .d3hotEntry serving) 0).safed = true ∧ (ax (after .d3hotEntry serving) 3).halted = true := by decide +kernel

def asleep : State := after .d3hotEntry serving

theorem test_barAccessInD3hot : quiet asleep = true ∧ endpointUp asleep = true ∧
    (after .barAccessInD3hot asleep).outbox.getLast? = some .unsupportedRequest ∧
    (after (.registerWrite ⟨.bar0, 0x040C⟩ 9#32) asleep).host.cmd.tail = 3#16 := by decide +kernel

theorem test_d0Return : (after .d0Return asleep).rst.d3hot = false ∧ (after .d0Return asleep).pins.faultLow = false ∧
    (after .d0Return asleep).line.frozen = true := by decide +kernel

theorem test_linkTrained : (after (.linkTrained 3 4) serving).host.linkSpeed = 3 ∧
    (after (.linkTrained 3 4) serving).host.linkWidth = 4 := by decide +kernel

theorem test_linkDown : serving.host.linkSpeed ≠ 0 ∧ serving.host.linkDown = false ∧
    (after .linkDown serving).pins.faultLow = true ∧ (after .linkDown serving).host.linkDown = true := by decide +kernel

theorem test_linkUp_reach : configReach serving = true ∧ configReach asleep = true := by decide +kernel

theorem test_linkReturnL0 : (after .linkDown serving).host.linkDown = true ∧
    (after .linkReturnL0 (after .linkDown serving)).pins.faultLow = false := by decide +kernel

theorem test_ringSizeWrite : setupOpen up = true ∧ (after (.ringSizeWrite false 64#32) up).host.cmd.size = 64 ∧
    (after (.ringSizeWrite true 8#32) up).host.rep.size = 8 ∧ (after (.ringSizeWrite true 7#32) up).host.cmdStatus = 1#32 ∧
    (after (.ringSizeWrite true 7#32) up).int.status = 0x100#32 := by decide +kernel

theorem test_replyRingHeadWrite : (after (.replyRingHeadWrite 0x12345#32) serving).host.rep.head = 0x2345#16 := by decide +kernel

theorem test_commandFetchError : commandReady serving = true ∧ (after .commandFetchError serving).host.cmdStatus = 4#32 := by
  decide +kernel

theorem test_cmdStatusClear : (after (.cmdStatusClear 4#32) (after .commandFetchError serving)).host.cmdStatus = 0#32 := by
  decide +kernel

/-- R124: a doorbell that shows more commands than slots sets OVERRUN; one that does not is served. -/
theorem test_nrmDoorbellCmd : cmdError serving = false ∧ (serving.host.cmd.tail - serving.host.cmd.head).toNat ≤ 8 ∧
    (after (.nrmDoorbellCmd 0x10000#32) { serving with host := { serving.host with cmd := { size := 8, tail := 8#16 } } }).host.cmd.served
      = 8#16 ∧
    (after (.nrmDoorbellCmd 0x10000#32) { serving with host := { serving.host with cmd := { size := 8, tail := 9#16 } } }).host.cmdStatus
      = 2#32 := by decide +kernel

def ping : List Byte := pkt 7 0x0101 0 0 0 [1#8, 2#8]

/-- R94, R121, R128: SYS.PING from the ring. -/
theorem test_commandTaken : packetCheck 4080 0 ping = none ∧ uAt ping 2 2 = 0x0101 ∧ commandReady serving = true ∧
    (after (.commandTaken ping [] true) serving).host.cmd.head = 1#16 ∧
    (after (.commandTaken ping [] true) serving).host.rep.tail = 1#16 ∧
    Out.hostWrite 0 (replyPacket 7#16 0x0101#16 0#16 0 0 0 false [1#8, 2#8]) ∈ (after (.commandTaken ping [] true) serving).outbox ∧
    (after (.commandTaken ping [] true) serving).int.status = 4#32 := by decide +kernel

/-- R94: a wrong CRC; R127, R129: the same tag again, with the same and with other content. -/
theorem test_commandTaken_refused :
    crc32 (bytesAt (ping.take 16 ++ [9#8, 2#8]) 0 12 ++ [9#8, 2#8]) ≠ w32 (uAt ping 12 4) ∧
    (after (.commandTaken (ping.take 16 ++ [9#8, 2#8]) [] true) serving).fw.histRing = [] ∧
    Out.hostWrite 0 (replyPacket 7#16 0x0101#16 0#16 5 5 1 false []) ∈
      (after (.commandTaken (ping.take 16 ++ [9#8, 2#8]) [] true) serving).outbox ∧
    Out.hostWrite 4096 (replyPacket 7#16 0x0101#16 0#16 1 0 0 false [1#8, 2#8]) ∈
      (after (.commandTaken ping [] true) (after (.commandTaken ping [] true) serving)).outbox ∧
    Out.hostWrite 4096 (replyPacket 7#16 0x0102#16 0#16 10 10 0 false []) ∈
      (after (.commandTaken (pkt 7 0x0102 0 0 0 []) [] true) (after (.commandTaken ping [] true) serving)).outbox := by
  decide +kernel

/-- Ring 3 enabled for LINE with two of three descriptors posted; ring 4 set up and not enabled; ring 5 an upload ring. -/
def someRings : Vector DataRing 16 :=
  vset (vset (vset serving.host.rings 3 { size := 8, ctrl := 0x02040101#32, tail := 3#16, posted := 2#16, waitSince := some 80000 })
    4 { size := 8 }) 5 { size := 16, ctrl := 3#32, tail := 1#16 }
def ringing : State := { serving with localNs := 100000, host := { serving.host with rings := someRings } }

theorem test_dataRingSizeWrite : ringOn (ring ringing 4) = false ∧ (ring (after (.dataRingSizeWrite 4 16384#32) ringing) 4).size = 16384 ∧
    (ring (after (.dataRingSizeWrite 3 16#32) ringing) 3).setupReject = true ∧
    (after (.dataRingSizeWrite 3 16#32) ringing).int.status = 0x80#32 := by decide +kernel

/-- R405: at most RING_SIZE outstanding. -/
theorem test_ringTailWrite : (ring (after (.ringTailWrite 3 8#32) ringing) 3).tail = 8#16 ∧
    outstandingAll ringing 3 8#16 ≤ 49152 ∧ (ring (after (.ringTailWrite 3 9#32) ringing) 3).tail = 3#16 ∧
    (ring (after (.ringTailWrite 3 9#32) ringing) 3).postReject = true := by decide +kernel

/-- R403: DIR 0 and a stream of its own. -/
theorem test_ringCtrlEnable : enableRefused 4 0x501#32 ringing = false ∧ ringStream (ring (after (.ringCtrlEnable 4 0x501#32) ringing) 4) = 5 ∧
    ringOn (ring (after (.ringCtrlEnable 4 0x501#32) ringing) 4) = true ∧
    (ring (after (.ringCtrlEnable 4 0x101#32) ringing) 4).setupReject = true := by decide +kernel

theorem test_ringCtrlDisable : (0x02040100#32 ^^^ (ring ringing 3).ctrl) &&& 0xF02#32 = 0#32 ∧ ringing.deliv.gapBuf = none ∧
    ringing.deliv.loupeBuf = none ∧ ringOn (ring (after (.ringCtrlDisable 3 0x02040100#32) ringing) 3) = false ∧
    (ring (after (.ringCtrlDisable 3 0x02040100#32) ringing) 3).tail = 3#16 := by decide +kernel

theorem test_descriptorFetchError : ringReady (ring ringing 3) = true ∧
    (ring (after (.descriptorFetchError 3) ringing) 3).fetchErr = true ∧
    (after (.descriptorFetchError 3) ringing).int.status = 0x80#32 := by decide +kernel

theorem test_ringStatusClear : (ring (after (.ringStatusClear 3 4#32) (after (.descriptorFetchError 3) ringing)) 3).fetchErr = false ∧
    (ring (after (.ringStatusClear 3 4#32) (after (.descriptorFetchError 3) ringing)) 3).stopped = true := by decide +kernel

/-- R137: IRQ_TIMEOUT 2 is 20 µs. -/
theorem test_irqTimeout : bits (ring ringing 3).ctrl.toNat 24 8 = 2 ∧ (after (.irqTimeout 3) ringing).int.status = 0x80000#32 ∧
    (after (.irqTimeout 3) { ringing with localNs := 99999 }).int.status = 0#32 := by decide +kernel

theorem test_nrmDoorbellRings : (ring (after (.nrmDoorbellRings 8#32) ringing) 3).posted = 3#16 ∧
    (ring (after (.nrmDoorbellRings 32#32) ringing) 5).posted = 1#16 ∧
    (ring (after (.nrmDoorbellRings 8#32) ringing) 5).posted = 0#16 := by decide +kernel

/-- A FIFO with one packet of two words, and three sources due behind the mask. -/
def reporting : State := { up with
  rep := { up.rep with fifo := [{ words := [0xA#32, 0xB#32], slot := 0 }] }
  int := { up.int with status := 7#32, due := 7#32, msixOn := true
                       table := Vector.replicate 64 { addr := 0x100, data := 5#32, masked := false } } }

theorem test_reportDataRead : quiet reporting = true ∧ Out.readData 0xA#32 ∈ (after .reportDataRead reporting).outbox ∧
    Out.readData 0xB#32 ∈ (after .reportDataRead (after .reportDataRead reporting)).outbox ∧
    (after .reportDataRead (after .reportDataRead reporting)).rep.fifo = [] ∧
    Out.readData 0#32 ∈ (after .reportDataRead up).outbox := by decide +kernel

/-- R154: unmasking sources 0 and 2 sends their two messages. -/
theorem test_intMaskWrite : (after (.intMaskWrite 0xFFFFFFFA#32) reporting).outbox = [.msix 0 0x100 5#32, .msix 0 0x100 5#32] ∧
    (after (.intMaskWrite 0xFFFFFFFA#32) reporting).int.due = 2#32 := by decide +kernel

/-- R154: a message held back by its vector's mask goes out as the mask is lifted. -/
def heldBack : State := { up with int := { up.int with msixOn := true, pba := 8#64 } }
theorem test_msixUnmask : msixOpen 3 heldBack = false ∧ heldBack.int.pba.getLsbD 3 = true ∧
    (after (.registerWrite ⟨.bar2, 60⟩ 0#32) heldBack).int.pba = 0#64 ∧
    (after (.registerWrite ⟨.bar2, 60⟩ 0#32) heldBack).outbox = [.msix 3 0 0#32] := by decide +kernel

theorem test_registerWrite : (after (.registerWrite ⟨.bar0, 0x040C⟩ 5#32) serving).host.cmd.tail = 5#16 ∧
    (after (.registerWrite ⟨.bar0, 0x2000⟩ 2#32) reporting).int.status = 5#32 ∧
    vget (after (.registerWrite ⟨.bar0, 0x200C⟩ 0xFF41#32) up).int.map 1 = 0x3F01#32 ∧
    (match exec (.registerWrite ⟨.bar0, 0x2001⟩ 0#32) up with | .fault f => f == .unalignedAccess 0x2001 | _ => false) = true := by
  decide +kernel

theorem test_haltMotion : (after (.haltMotion 3#16 0#16 0#16 0) up).urg.hwCount = 1 ∧
    (ax (after (.haltMotion 3#16 0#16 0#16 0) up) 0).halted = true ∧ (after (.haltMotion 3#16 0#16 0#16 0) up).int.status = 2#32 := by
  decide +kernel

theorem test_lampsSafe : (str (after (.lampsSafe 3#16 0#16 0#16 0) up) 15).safed = true ∧
    (str (after (.lampsSafe 3#16 0#16 1#16 0) up) 15).safed = false ∧
    (after (.lampsSafe 3#16 0#16 1#16 0) up).urg.hwReply.getD 6 0#8 = 5#8 := by decide +kernel

theorem test_captureFreeze : (after (.captureFreeze 3#16 0#16 0#16 0) up).line.frozen = true ∧
    (after (.captureFreeze 3#16 0#16 0#16 0) up).boot = up.boot := by decide +kernel

/-- R439: HALT.MOTION in a seam freezes the line too. -/
def frozenSeam : State := { up with line := { up.line with st := .seam } }
theorem test_haltMotion_seam : seamOn frozenSeam = true ∧ (after (.haltMotion 3#16 0#16 0#16 0) frozenSeam).line.st = .frozen ∧
    (after (.captureFreeze 3#16 0#16 0#16 0) frozenSeam).line.st = .frozen := by decide +kernel

theorem test_controlReset : (after (.controlReset 3#16 0#16 0xD1E5#16 0) serving).rst.cause = 0x21#32 ∧
    (after (.controlReset 3#16 0#16 0xD1E5#16 0) serving).host.cmd.head = 3#16 ∧
    (after (.controlReset 3#16 0#16 0#16 0) serving).rst.inEffect = none := by decide +kernel

/-- The urgent window holds SYS.PING with tag 9. -/
def urging : State := { up with urg := { up.urg with cmd := bytesAt (pkt 9 0x0101 0 0 1 [4#8]) 0 256 } }

theorem test_urgDoorbell : packetCheck 240 1 urging.urg.cmd = none ∧ (after (.urgDoorbell 9#32) urging).urg.slot = some urging.urg.cmd ∧
    (after (.urgDoorbell 8#32) urging).urg.slot = none ∧ (after (.urgDoorbell 8#32) urging).urg.hwReply.getD 10 0#8 = 5#8 ∧
    (after (.urgDoorbell 9#32) { urging with urg := { urging.urg with cmd := putBytes urging.urg.cmd 16 [5#8] } }).urg.hwReply.getD 10 0#8
      = 1#8 := by decide +kernel

theorem test_firmwareUrgentCommand : (after (.urgDoorbell 9#32) urging).fw.urgBusy = none ∧
    fwRunning (after (.urgDoorbell 9#32) urging) = true ∧
    (after (.firmwareUrgentCommand [] true) (after (.urgDoorbell 9#32) urging)).urg.slot = none ∧
    (after (.firmwareUrgentCommand [] true) (after (.urgDoorbell 9#32) urging)).urg.fwReply.take 17 =
      replyPacket 9#16 0x0101#16 0#16 0 0 0 false [4#8] ∧
    (after (.firmwareUrgentCommand [] true) (after (.urgDoorbell 9#32) urging)).int.status = 1#32 := by decide +kernel

/-! ### The verbs of SYS, FW, POWER and STORE -/

/-- A command of the ring. -/
def rq (obj mods : Nat) (payload : List Byte) : Req :=
  { tag := 5#16, obj := h16 obj, mods := h16 mods, payload := payload, chan := .ring, upload := [], partOk := true }

/-- The status, detail and payload (at most 48 bytes of it) at the head of the ring's history. -/
def lastReply (t : State) : Option (Nat × Nat × List Byte) := t.fw.histRing.head?.map fun e => (e.status, e.detail, e.payload)

theorem test_up_serves : chanFree .ring up = true ∧ chanFree .urgent up = true ∧ up.line.st = .booted ∧ inRun up = false ∧
    pJoined up = false := by decide +kernel

/-- R172; and on the urgent channel and as a relayed command (R101, R700). -/
theorem test_sysPing : lastReply (after (.sysPing (rq 0 0 [1#8])) up) = some (0, 0, [1#8]) ∧
    lastReply (after (.sysPing (rq 1 0 [1#8])) up) = some (4, 0, []) ∧
    (after (.sysPing { rq 0 0 [1#8] with chan := .urgent }) up).urg.fwReply.take 17 =
      replyPacket 5#16 0x0101#16 0#16 0 0 0 false [1#8] ∧
    lastReply (after (.sysPing { rq 0 0 [1#8] with chan := .relay 77 }) up) = some (0, 0, [1#8]) := by decide +kernel

theorem test_sysInfo_urgent : (after (.sysInfo { rq 0 0 [] with chan := .urgent }) up).urg.fwReply.take 16 =
    replyPacket 5#16 0x0102#16 0#16 3 3 2 false [] := by decide +kernel

theorem test_sysInfo : ((lastReply (after (.sysInfo (rq 0 0 [])) up)).map fun p => (p.1, p.2.1)) = some (0, 0) := by
  decide +kernel

theorem test_sysTime : (after (.sysTime (rq 0 1 (leBytes 8 1000))) up).time.sys = 1000 * 2 ^ 32 ∧
    (after (.sysTime (rq 0 0 (leBytes 8 1000))) up).time.left = 1000 * 2 ^ 32 ∧
    lastReply (after (.sysTime (rq 0 1 (leBytes 8 1000))) { up with line := { up.line with st := .armed } }) =
      some (11, 0x0102, []) := by decide +kernel

/-- A running image of rollback 9 that revokes the keys below slot 2. -/
def imaged : State := { up with boot := { up.boot with image := some { rollback := 9, keySlot := 2, flags := 4 } } }

theorem test_fwCommit : (after (.fwCommit (rq 0 0 [])) imaged).store.antiRollback = 9 ∧
    (after (.fwCommit (rq 0 0 [])) imaged).store.revoked = 3 ∧
    lastReply (after (.fwCommit (rq 0 0 [])) imaged) = some (0, 0, leBytes 4 9) := by decide +kernel

theorem test_fwStatus : ((lastReply (after (.fwStatus (rq 0 0 [])) up)).map fun p => (p.1, p.2.2.length)) = some (0, 32) := by
  decide +kernel

theorem test_fwPolicy : (after (.fwPolicy (rq 0 2 [])) up).store.policy = 2 ∧
    lastReply (after (.fwPolicy (rq 0 3 [])) up) = some (5, 0, []) ∧
    lastReply (after (.fwPolicy (rq 0 4 [])) up) = some (5, 4, []) := by decide +kernel

/-- An upload of 16 zero bytes through ring 5, with the reference of R165: ring, length, CRC. -/
def zeros : List Byte := List.replicate 16 0#8
def flashReq : Req :=
  { rq 0 0 ([5#8, 0#8, 0#8, 0#8] ++ leBytes 4 16 ++
      wordBytes (crc32 zeros)) with upload := [{ host := List.replicate 32 0#8, data := zeros, ok := true }] }
def uploading : State := after (.nrmDoorbellRings 32#32) { ringing with boot := { ringing.boot with source := 2 } }

/-- R173: the image has no header: REASON 2. -/
theorem test_fwFlash : (upload 0 { verb := 0x0201#16, req := flashReq } uploading).1 = .inr zeros ∧
    uploading.boot.source ≠ 0 ∧ layLen uploadFields = 12 ∧ layZero uploadFields flashReq.payload = true ∧
    lastReply (after (.fwFlash flashReq) uploading) = some (5, 0x0101, [2#8]) ∧
    (ring (after (.fwFlash flashReq) uploading) 5).head = 1#16 := by decide +kernel

theorem test_powerWake : (after (.powerWake (rq 0 0 [0x11#8, 1#8, 0x20#8])) up).wake.enable = 0x11 ∧
    (after (.powerWake (rq 0 0 [0x11#8, 1#8, 0x20#8])) up).wake.i2cAddr = some 0x20 ∧ up.wake.retention = none ∧
    lastReply (after (.powerWake (rq 0 0 [0x20#8, 1#8, 0x20#8])) up) = some (5, 0, []) := by decide +kernel

/-- One entry in the fault log, and the lifetime counters' first field. -/
def stored : State := { up with store := { up.store with
  log := [{ seq := 3, code := 2, flags := 0, seconds := 0, args := [0, 0, 0, 0] }], lifetime := { powerOn := 0x0102 } } }

theorem test_storeRead : layZero [.u 1, .u 4, .u 4] ([2#8, 0#8, 0#8, 0#8] ++ leBytes 4 0 ++ leBytes 4 3) = true ∧
    lastReply (after (.storeRead (rq 0 0 ([2#8, 0#8, 0#8, 0#8] ++ leBytes 4 0 ++ leBytes 4 3))) stored) =
      some (0, 0, [2#8, 1#8, 0#8]) := by decide +kernel

theorem test_storeLog : ((lastReply (after (.storeLog (rq 0 0 (leBytes 4 0 ++ leBytes 2 5))) stored)).map fun p =>
      (p.1, p.2.2.take 6)) = some (0, leBytes 4 3 ++ leBytes 2 2) ∧
    ((lastReply (after (.storeLog (rq 0 0 (leBytes 4 4 ++ leBytes 2 5))) stored)).map fun p => p.2.2) = some [] := by decide +kernel

/-! ### Declarations and the line verbs -/

/-- A small follower-mode board: one segment of 64 pixels, a string of one lamp, a thermal sensor, an axis, an encoder, a budget,
2 GiB of DRAM, a Prism node that is the root, a camera of 64 by 64. -/
def records : List RawRec :=
  [ { type := 1, inst := 0, body := [0#8, 0#8, 0xFF#8, 0#8, 8#8, 0#8] ++ leBytes 2 600 ++ leBytes 4 200000 },
    { type := 2, inst := 0, body := leBytes 4 1000 ++ leBytes 4 1000 ++ leBytes 4 0 ++ leBytes 4 64 ++ leBytes 2 600 ++ leBytes 6 0 },
    { type := 3, inst := 0, body := [0#8, 2#8] ++ leBytes 2 64 ++ leBytes 2 16 ++ leBytes 2 0 ++ leBytes 4 0 ++
        [0#8, 0xE4#8, 0#8, 0#8] ++ leBytes 4 0 },
    { type := 4, inst := 0, body := leBytes 8 0 },
    { type := 0x10, inst := 0, body := [1#8, 0xFF#8, 0#8, 0#8] ++ leBytes 2 1000 ++ leBytes 2 500 ++ leBytes 4 10000 ++
        leBytes 4 100000 ++ leBytes 2 10 ++ leBytes 2 0 ++ leBytes 2 0 ++ leBytes 2 0 },
    { type := 0x11, inst := 0, body := [0#8, 0#8, 0xFF#8, 0#8] ++ leBytes 4 0 ++ leBytes 4 63 },
    { type := 0x20, inst := 0, body := [1#8, 3#8, 0#8, 1#8, 2#8, 0xFF#8, 0#8, 0#8] ++ leBytes 2 100 ++ leBytes 2 10 ++
        leBytes 4 1000 ++ leBytes 2 0 ++ leBytes 2 800 ++ leBytes 2 0 ++ [1#8, 0#8] } ] ++
  [ { type := 0x30, inst := 0, body := [0xFF#8, 0xFF#8, 0#8, 0#8] ++ leBytes 4 0 ++ leBytes 4 100 ++ leBytes 4 100 ++
        leBytes 4 1000 ++ leBytes 4 2000 ++ leBytes 4 10000 ++ leBytes 4 10000 ++ leBytes 4 10000 ++ leBytes 4 10000 ++
        leBytes 4 20000 ++ leBytes 4 0 ++ leBytes 4 100000 ++ leBytes 4 100 ++ leBytes 2 500 ++ leBytes 2 100 ++ leBytes 2 600 ++
        leBytes 2 100 ++ leBytes 2 0 ++ leBytes 2 0 },
    { type := 0x31, inst := 0, body := leBytes 4 600 ++ [0#8, 0#8] ++ leBytes 2 100 },
    { type := 0x40, inst := 0, body := leBytes 4 50000 ++ leBytes 4 60000 ++ leBytes 2 100 ++ leBytes 2 0 },
    { type := 0x50, inst := 0, body := [2#8, 0#8] ++ leBytes 2 3200 ++ leBytes 4 0 },
    { type := 0x60, inst := 0, body := leBytes 2 7 ++ [0#8, 1#8] ++ leBytes 2 2 ++ leBytes 2 0 ++ leBytes 4 99 },
    { type := 0x70, inst := 0, body := [1#8, 8#8, 0x10#8, 1#8, 1#8, 0#8] ++ leBytes 2 1000 ++ leBytes 2 64 ++ leBytes 2 64 } ]

/-- R195: the declaration's bytes. -/
def declaration : List Byte :=
  let body := records.flatMap recBytes
  let h := leBytes 4 0x42444C52 ++ leBytes 2 1 ++ leBytes 2 32 ++ leBytes 4 (32 + body.length) ++ leBytes 2 records.length ++
    [0#8, 0#8] ++ leBytes 4 0xABCD ++ leBytes 8 0
  h ++ wordBytes (crc32 (h ++ body)) ++ body

/-- A limit block that holds room for it. -/
def roomy : LimitU :=
  { ceilingLock := true, entries := ((List.range 16).flatMap fun n =>
      [{ key := .strI n, ceiling := 2000, inForce := 2000 }, { key := .strV n, ceiling := 80000, inForce := 80000 },
       { key := .strDuty n, ceiling := 4096, inForce := 4096 }]) ++
    ((List.range 4).flatMap fun n => [{ key := .axV n, ceiling := 4000000, inForce := 4000000 },
      { key := .axA n, ceiling := 1000000, inForce := 1000000 }, { key := .axD n, ceiling := 1000000, inForce := 1000000 },
      { key := .axEmerg n, ceiling := 1000000, inForce := 1000000 }, { key := .axI n, ceiling := 1023, inForce := 1023 }]) ++
    ((List.range 8).flatMap fun n => [{ key := .budCont n, ceiling := 100000, inForce := 100000 },
      { key := .budPeak n, ceiling := 100000, inForce := 100000 }, { key := .budMs n, ceiling := 1000, inForce := 1000 },
      { key := .tempRise n, ceiling := 2000, inForce := 2000 }]) }

def board : Decl := toDecl 0 0xABCD records

set_option maxRecDepth 20000 in
theorem test_declaration_accepted : (match checkDeclaration roomy 0 declaration with | .ok d => d == board | .error _ => false) = true := by
  decide +kernel


/-- A board in BOOTED, with a limit block that holds it. -/
def roomed : State := { up with limit := roomy }

/-- The board without its Prism node. -/
def alone : Decl := toDecl 0 0xABCD (records.filter fun r => r.type != 0x60)

def boundRings : Vector DataRing 16 :=
  vset (vset up.host.rings 3 { ctrl := 0x101#32, size := 8 }) 4 { ctrl := 0x501#32, size := 8 }

/-- The board declared: READY, with its port up, DRAM trained, line data and the gap log bound, and a bank loaded. -/
def ready : State :=
  { roomed with
    decl := some alone
    line := { roomed.line with st := .ready, dram := some 0, dramMib := 2048 }
    ports := vset roomed.ports 0 { vget roomed.ports 0 with st := .up }
    cal := { roomed.cal with shape := [64], banks := Vector.replicate 2 { loaded := true } }
    host := { roomed.host with rings := boundRings } }

/-- A result that is `.ok a`. -/
def gives {ε α : Type} [BEq α] (x : Except ε α) (a : α) : Bool := match x with | .ok b => b == a | .error _ => false

/-- Status and detail of the last reply, and how many bytes of payload it kept. -/
def verdict (t : State) : Option (Nat × Nat × Nat) := (lastReply t).map fun p => (p.1, p.2.1, p.2.2.length)

set_option maxRecDepth 20000 in
/-- R210, R212, R213. -/
theorem test_declareBoard : gives (checkDeclaration roomed.limit (fwMinor roomed) declaration) board = true ∧
    (let t := after (.declareBoard (rq 0 0 declaration)) roomed
     t.decl = some board ∧ t.line.st = .declared ∧ t.line.epoch = 1#32 ∧ t.line.dram = none ∧ verdict t = some (0, 0, 16)) ∧
    (let t := after (.declareBoard (rq 0 2 declaration)) roomed
     t.decl = none ∧ verdict t = some (0, 0, 16)) := by decide +kernel

/-- R195, R210: a declaration of no bytes fails its form. -/
theorem test_declareBoard_fails : (match checkDeclaration roomed.limit (fwMinor roomed) [] with
      | .error e => decide ((lastReply (after (.declareBoard (rq 0 0 [])) roomed)) = some (e.status, e.detail, e.payload)) &&
          decide (e.status ≠ 0)
      | .ok _ => false) = true := by decide +kernel

/-- R172: the SEGMENT record of segment 0 (object class 1). -/
theorem test_declareQuery : coveringRecord alone 1 0 = some (3, 0) ∧ objKind (h16 0x400) = 1 ∧ (findRec alone.records 3 0).isSome ∧
    (lastReply (after (.declareQuery (rq 0x400 0 [])) ready)).map (fun p => (p.1, p.2.2)) =
      some (0, ((findRec alone.records 3 0).map recBytes).getD []) := by decide +kernel

def armReq : Req := rq 0 0 (leBytes 4 10 ++ leBytes 4 5 ++ [0#8])

theorem test_ready_arms : layLen [.u 4, .u 4, .u 1] = armReq.payload.length ∧ layZero [.u 4, .u 4, .u 1] armReq.payload = true ∧
    speedOk alone 0 = true ∧ firstFail (armChecks alone false ready ++ nodeChecks ready) = none ∧ dPrism? ready = none ∧
    armWaits ready = false ∧ ready.power.trans = .none ∧ ready.power.present = .run := by decide +kernel

/-- R157, R174. -/
theorem test_lineArm : (let t := after (.lineArm armReq) ready
    t.line.st = .armed ∧ t.line.firstLine = 10 ∧ t.line.lineCount = 5 ∧ verdict t = some (0, 0, 0)) := by decide +kernel

def armed : State := after (.lineArm armReq) ready

/-- R571: AT POSITION 1000 lies ahead, and is G_0 itself; NOW is the next count. -/
theorem test_lineStart : armed.line.fresh = false ∧ armed.line.resuming = false ∧ pendingReconf armed = none ∧
    (after (.lineStart (rq 0 0 (leBytes 16 0))) armed).motion.cmp.g0 = some 4294967296 ∧
    (after (.lineStart (rq 0 1 (leBytes 8 1000 ++ leBytes 8 0))) armed).motion.cmp.g0 = some 4294967296000 ∧
    (after (.lineStart (rq 0 0 (leBytes 16 0))) armed).line.admitting = true ∧
    (after (.lineStart (rq 0 2 (leBytes 8 0 ++ leBytes 8 8000))) armed).line.start = some (.time 8000) ∧
    verdict (after (.lineStart (rq 0 2 (leBytes 8 0 ++ leBytes 8 7999))) armed) = some (5, 0x0101, 0) := by decide +kernel

theorem test_lineStop : armed.prism.run = none ∧ armed.fw.busy = none ∧
    (let t := after (.lineStop (rq 0 0 (leBytes 4 0))) armed
     t.line.admitting = false ∧ t.line.drain = .stopEnd 0x0403#16 ∧ verdict t = some (0, 0, 0)) := by decide +kernel

/-- R169, R179: parameter 0x0300. -/
def cfgReq (v : Nat) : Req := rq 0 0 (leBytes 8 0 ++ leBytes 2 0x0300 ++ leBytes 2 0 ++ leBytes 4 v)

theorem test_lineConfig : cfgFits alone (cfgEntries (cfgReq 4).payload) ready = true ∧
    cfgWrites alone 6 (cfgEntries (cfgReq 4).payload) ready = [] ∧ lineFlow ready = false ∧
    cfgWindows alone (cfgEntries (cfgReq 4).payload) ready = none ∧ cfgFits alone (cfgEntries (cfgReq 17).payload) ready = false ∧
    (after (.lineConfig (cfgReq 4)) ready).line.epoch = 1#32 ∧ verdict (after (.lineConfig (cfgReq 4)) ready) = some (0, 0, 0) ∧
    verdict (after (.lineConfig (cfgReq 17)) ready) = some (5, 0, 0) := by decide +kernel

/-- The GEOMETRY record with OUT_DPI 300: R179. -/
def geometry300 : RawRec :=
  ⟨2, 0, leBytes 4 1000 ++ leBytes 4 1000 ++ leBytes 4 0 ++ leBytes 4 64 ++ leBytes 2 300 ++ leBytes 6 0⟩
def reconfReq : Req := rq 0 0 (leBytes 8 0 ++ recBytes geometry300)

set_option maxRecDepth 20000 in
theorem test_lineReconfigure : gives (readReplacement alone.records (recBytes geometry300)) [geometry300] = true ∧
    ready.line.resume = none ∧ ready.line.settling = false ∧
    (match checkReplacement alone false [geometry300] ready with | .ok _ => true | .error _ => false) = true ∧
    (let t := after (.lineReconfigure reconfReq) ready
     t.decl.map (fun d => d.geometry.outDpi) = some 300 ∧ t.line.epoch = 1#32 ∧ t.line.st = .ready ∧ verdict t = some (0, 0, 0)) ∧
    verdict (after (.lineReconfigure reconfReq) { ready with line := { ready.line with st := .capturing } }) =
      some (11, 0x0101, 0) := by decide +kernel

theorem test_lineMirror : (after (.lineMirror (rq 0x400 2 (leBytes 2 3))) ready).achr.mirror.sel =
      ({ point := 2, seg := some 0, decimate := 3 } : MirrorSel) ∧ covered ready 1 0 = true ∧
    (after (.lineMirror (rq 0 2 (leBytes 2 3))) ready).achr.mirror.sel.seg = none := by decide +kernel

theorem test_lineStatus : lastReply (after (.lineStatus (rq 0 0 [])) ready) =
    some (0, 0, [2#8, 0xFF#8, 0#8, 0#8] ++ leBytes 8 0xFFFFFFFFFFFFFFFF ++ leBytes 12 0) := by decide +kernel

/-- R176: the drained run ends, READY. -/
theorem test_lineStopComplete : (let s := after (.lineStop (rq 0 0 (leBytes 4 0))) armed
    s.line.drain = .stopEnd 0x0403#16 ∧ s.lampLink.stage = none ∧ stopped s = true ∧ s.line.st = .armed ∧ s.fw.deferred = [] ∧ s.fw.busy = none ∧
      s.fw.urgBusy = none ∧ s.prism.heldArm = none ∧ (after .lineStopComplete s).line.st = .ready ∧
      (after .lineStopComplete s).line.drain = .none) := by decide +kernel

/-- R178: a counted run. -/
def counted : State := { armed with line := { armed.line with st := .capturing, drain := .counted } }
theorem test_runCountEnd : inRun counted = true ∧ drained counted = true ∧
    (after .runCountEnd counted).line.st = .ready ∧ (after .runCountEnd counted).line.drain = .none := by decide +kernel

/-- A feed that has not stopped. -/
theorem test_lineStop_waits : stopped { armed with deliv := { armed.deliv with seam := { armed.deliv.seam with phase := .ramp } } } =
    false := by decide +kernel

def training : State := { ready with line := { ready.line with dram := none, dramRun := true } }
theorem test_dramTrainingEnd : (after (.dramTrainingEnd 0 2048) training).line.dram = some 0 ∧
    (after (.dramTrainingEnd 0 1024) training).line.dram = some 2 ∧
    (after (.dramTrainingEnd 3 2048) training).line.dramRun = false := by decide +kernel

/-! ### Line starts and calibration -/

/-- A run with its start point set at NOW and the feed encoder on the first grid point. -/
def atGrid : State :=
  let s := after (.lineStart (rq 0 0 (leBytes 16 0))) armed
  { s with clk := { s.clk with pllLocked := true }, motion := { s.motion with
             encs := vmod s.motion.encs 0 fun e => { e with count := 1 } } }

theorem test_lineTrigger_notDue : triggerDue armed = false ∧ (after (.lineTrigger []) armed).motion = armed.motion := by
  decide +kernel

theorem test_lineTrigger : triggerDue atGrid = true ∧ dpClk atGrid = true ∧ atGrid.line.st = .armed ∧
    atGrid.line.admitting = true ∧ atGrid.deliv.refusing = false ∧
    occupancy atGrid + (claimsFor alone atGrid atGrid.motion.cmp.index).length ≤ claimLimit alone atGrid ∧
    (∀ m ∈ claimsFor alone atGrid atGrid.motion.cmp.index, slotHeld alone atGrid m = false) ∧
    (∀ n, n < 24 → (sport atGrid n).lsFree = 0) := by decide +kernel

/-- R572: with no line admitted, the trigger only passes. -/
theorem test_lineTrigger_passes : (let s := { atGrid with line := { atGrid.line with admitting := false } }
    triggerDue s = true ∧ (after (.lineTrigger []) s).motion.cmp.index = 1 ∧ (after (.lineTrigger []) s).caps = []) := by
  decide +kernel

/-- R398: every slot is taken. -/
def full : State := { atGrid with deliv := { atGrid.deliv with par := { atGrid.deliv.par with lowPm := 1000 } }
                                  decl := some { alone with dram := { alone.dram with sizeGib := 0 } } }

/-- R397, R419: no slot, cause 1. -/
theorem test_lineTrigger_full : (match full.decl with
    | some d => decide (claimLimit d full < occupancy full + (claimsFor d full full.motion.cmp.index).length)
    | none => false) = true ∧
    (after (.lineTrigger []) full).caps.map (fun c => (c.index, c.gap)) = [(0, 1)] ∧
    (after (.lineTrigger []) full).deliv.refusing = true := by decide +kernel

/-- R234: the port is busy until 1 ms after the line's boundary, wherever slots lie. -/
def busy : State := { atGrid with ports := vmod atGrid.ports 0 fun p => { p with lsFree := 1000000 } }
theorem test_lineTrigger_busy : portUp (sport busy 0) = true ∧ busy.localNs = 0 ∧ (sport busy 0).lsFree = 1000000 ∧
    alone.segments.length = 1 ∧ triggerDue busy = true ∧ busy.line.admitting = true ∧ busy.deliv.refusing = false ∧
    (∀ m ∈ claimsFor alone busy busy.motion.cmp.index, slotHeld alone busy m = false) := by decide +kernel

theorem test_issueAt (s : State) (h : s.localNs = 0) : issueAt s < 1000000 := by
  simp only [issueAt, slotTime, issueSlot, h]
  omega

def taken : Capture := { (default : Capture) with index := 3, latchAt := 0, gap := 0, pos := none, cal := false }

theorem test_encoderPositionLatch : ((after .encoderPositionLatch { atGrid with caps := [taken] }).caps.map Capture.pos) =
    [some 1] := by decide +kernel

def calRun : CalRun := { (default : CalRun) with lines := 16, segs := [0], asked := [0], expSet := 1, accumulating := true,
                                                 step := .lines }
def calibrating : State := { ready with line := { ready.line with st := .calibrating }, cal := { ready.cal with run := some calRun } }

theorem test_calibrationLine_due : calRun.nextAt ≤ calibrating.localNs ∧ dpClk calibrating = true ∧
    calRun.counted < calRun.lines ∧ calRun.issued < 48 ∧ (∀ n, n < 24 → (sport calibrating n).lsFree = 0) := by decide +kernel

/-- R185: 16 dark lines with the long exposure, the lamps off. -/
theorem test_calDark : (let t := after (.calDark (rq 0 0 (leBytes 2 16 ++ [1#8]))) ready
    t.line.st = .calibrating ∧ t.fw.busy.isSome = true ∧ t.cal.run.map (fun r => (r.white, r.lines, r.segs)) = some (false, 16, [0])) ∧
    layLen [.u 2, .u 1] = 3 ∧ swapPending ready = false ∧ (str ready 0).st = .off ∧
    verdict (after (.calDark (rq 0 0 (leBytes 2 15 ++ [1#8]))) ready) = some (5, 0, 0) := by decide +kernel

/-- R749: with the budget taken there is no grant. -/
theorem test_calDark_noGrant : verdict (after (.calDark (rq 0 0 (leBytes 2 16 ++ [1#8])))
    { ready with limit := { ready.limit with entries := [] } }) = some (8, 0, 0) := by decide +kernel

def lit : State := { ready with lamps := vmod ready.lamps 0 fun x => { x with st := .on } }

theorem test_calWhite : (let t := after (.calWhite (rq 0 0 (leBytes 2 16 ++ leBytes 2 40000))) lit
    t.line.st = .calibrating ∧ t.cal.run.map (fun r => (r.white, r.target)) = some (true, 40000)) ∧
    (match alone.strings with | [p] => decide (p.1 = 0 ∧ iSetOf p.2 (str lit 0).level ≤ derateCeil p.2 (str lit 0)) | _ => false) =
      true ∧
    verdict (after (.calWhite (rq 0 0 (leBytes 2 16 ++ leBytes 2 40000))) ready) = some (11, 0x0101, 0) := by decide +kernel

/-- A short table of segment 0: 3 × 64 values of 2 bytes (R324). -/
def short0 : List Byte := List.replicate 384 1#8
def loadReq : Req :=
  { rq 0 1 ([1#8, 0#8, 0#8, 0#8, 5#8, 0#8, 0#8, 0#8] ++ leBytes 4 384 ++ wordBytes (crc32 short0)) with
      upload := [{ host := List.replicate 32 0#8, data := short0, ok := true }] }
def loading : State := { ready with host := uploading.host }

set_option maxRecDepth 20000 in
theorem test_calLoad : (upload 4 { verb := 0x0503#16, req := loadReq } loading).1 = .inr short0 ∧
    loadSize alone 1 0 = some 384 ∧ bankOpen loading = true ∧
    (let t := after (.calLoad loadReq) loading
     t.cal.written = true ∧ verdict t = some (0, 0, 0) ∧
       ((vget (vget t.cal.banks 1).segs 0).short.map List.head?) = some (some 0x0101)) := by decide +kernel

def rewritten : State := { ready with cal := { ready.cal with written := true } }

theorem test_calSwap : lineFlow rewritten = false ∧
    (let t := after (.calSwap (rq 0 0 (leBytes 4 0))) rewritten
     t.cal.active = 1 ∧ t.cal.written = false ∧ t.line.epoch = 1#32 ∧ t.fw.busy.isSome = true) ∧
    verdict (after (.calSwap (rq 0 1 (leBytes 4 9))) rewritten) = some (9, 0, 0) ∧
    verdict (after (.calSwap (rq 0 0 (leBytes 4 0))) ready) = some (11, 0x0101, 0) := by decide +kernel

theorem test_calLanes : lastReply (after (.calLanes (rq 0x400 0 [])) ready) =
      some (0, 0, [0#8, 0#8, 0#8, 3#8, 0#8, 0#8, 0#8, 3#8, 0#8, 0#8, 0#8, 3#8, 0#8, 0#8, 0#8, 3#8]) ∧
    (sport (after (.calLanes (rq 0x400 1 [])) ready) 0).recal = 4 ∧
    (sport (after (.calLanes (rq 0x400 2 [])) ready) 0).frozen = true ∧
    (sport (after (.calLanes (rq 0x400 3 [])) ready) 0).frozen = false := by decide +kernel

/-- R185, R363: SET -2 is answered with the shift in force, and stands for the next line boundary. -/
theorem test_calPlace : alone.geometry.nativeOnly = false ∧
    lastReply (after (.calPlace (rq 0x400 3 [0xFE#8])) ready) = some (0, 0, [0#8]) ∧
    (vget (after (.calPlace (rq 0x400 3 [0xFE#8])) ready).achr.place 0).pending = some (-2) ∧
    (vget (after (.calPlace (rq 0x400 1 [0#8])) ready).achr.place 0).frozen = true ∧
    verdict (after (.calPlace (rq 0x400 3 [33#8])) ready) = some (5, 0, 0) := by decide +kernel

/-- Accumulation has ended, with 16 lines of 64 pixels whose dark sums are all 48. -/
def computed (n : Nat) (white : Bool) (v : Int) : State :=
  { calibrating with cal := { calibrating.cal with
      run := some { calRun with step := .compute, accumulating := false, counted := n, white := white, target := 40000,
                                sums := [{ seg := 0, short := false, sums := List.replicate 192 v }] } } }

/-- R334: nine lines are too few. -/
theorem test_calibration_few : (let t := after .calibrationTablesWritten (computed 9 false 48)
    t.line.st = .ready ∧ t.cal.run = none ∧ t.cal.banks = calibrating.cal.banks) := by decide +kernel

set_option maxRecDepth 20000 in
/-- R337: 48 over 16 lines rounds to a dark entry of 3. -/
theorem test_calDark_tables : (let t := after .calibrationTablesWritten (computed 16 false 48)
    t.cal.run = none ∧ ((vget (vget t.cal.banks 1).segs 0).main.map List.head?) = some (some (0x04000000 + 3))) := by
  decide +kernel

set_option maxRecDepth 20000 in
/-- R339, R342: a white sum of 1 needs a gain beyond the range; 16 lines of 40000 need 1.0 (16384). -/
theorem test_calWhite_tables : ((computed 16 true 1).cal.run.map fun r => (gainFail (computed 16 true 1) alone r).isSome) = some true ∧
    ((computed 16 true 640000).cal.run.map fun r => gainFail (computed 16 true 640000) alone r) = some none ∧
    (after .calibrationTablesWritten (computed 16 true 1)).cal.run = none ∧
    (let t := after .calibrationTablesWritten (computed 16 true 640000)
     t.cal.run = none ∧ ((vget (vget t.cal.banks 1).segs 0).main.map List.head?) = some (some (16384 * 4096))) := by decide +kernel

def releasing : State := { ready with cal := { ready.cal with copy := .release } }
theorem test_bankRelease : (after .bankRelease releasing).cal.copy = .copying 0 ∧ releasing.caps = [] := by decide +kernel

def copying : State :=
  { ready with cal := { ready.cal with copy := .copying 0, banks := vset ready.cal.banks 0 { loaded := true, weights := some [7] } } }
theorem test_bankCopyEnd : (vget (after .bankCopyEnd copying).cal.banks 1).weights = some [7] ∧
    (after .bankCopyEnd copying).cal.copy = .idle ∧ copying.fw.busy = none ∧ copying.fw.deferred = [] ∧ copying.cal.run = none := by
  decide +kernel

/-! ### The Segment link -/

/-- The port trained: lanes 0 to 2 carry data, lane 3 is the spare. -/
def lanes0 : Vector Lane 4 := #v[{ role := .data, stripe := 0, aligned := true }, { role := .data, stripe := 1, aligned := true },
  { role := .data, stripe := 2, aligned := true }, { role := .spare }]
def linked : State := { ready with ports := vmod ready.ports 0 fun p => { p with lanes := lanes0 } }

/-- A packet of TYPE 3, and of TYPE 1 with nothing expected: stale. -/
def packet (type flags : Nat) (line : Nat) (pixels : List (Nat × Nat × Nat)) : List Byte :=
  let b := [b8 type, b8 flags] ++ leBytes 2 0 ++ leBytes 4 line ++ leBytes 2 0 ++ leBytes 2 pixels.length ++ leBytes 2 0 ++
    leBytes 2 0 ++ leBytes 8 0 ++ pixels.flatMap fun p => leBytes 2 p.1 ++ leBytes 2 p.2.1 ++ leBytes 2 p.2.2
  b ++ wordBytes (crc32 b) ++ [0#8, 0#8]

/-- R218: symbols as code groups, from a running disparity on. -/
def coded (pos : Bool) : List Sym → List CodeGroup
  | [] => []
  | y :: ys => codeOf pos y :: coded (rdAfter pos (codeOf pos y)) ys

/-- R245: a packet as the three stripes carry it. -/
def onLanes (b : List Byte) : List LaneRx :=
  (List.range 3).map fun k =>
    let bytes := (List.range (b.length / 3)).map fun i => symData (b.getD (3 * i + k) 0#8)
    { slot := 0, pos := false, groups := coded false (symSop :: bytes ++ [symEnd]) }

/-- DATA_PACKET_RECEIVED of what the lanes received. -/
def gotPacket (port : Nat) (rx : List LaneRx) : Instr :=
  .dataPacketReceived port (rx.map (·.slot)) (rx.map (·.pos)) (rx.map (·.groups))

/-- IEEE 802.3 clause 36: K28.5 and D21.5 at either running disparity, and D17.7 with its A7 form. -/
theorem test_code_groups : codeOf false symIdle = 0b0011111010#10 ∧ codeOf true symIdle = 0b1100000101#10 ∧
    codeOf false (symData 0xB5#8) = 0b1010101010#10 ∧ codeOf true (symData 0xB5#8) = 0b1010101010#10 ∧
    codeOf false (symData 0xF1#8) = 0b1000110111#10 ∧ symOf dataLaneSyms false 0b1100000101#10 = none := by decide +kernel

set_option maxRecDepth 20000 in
theorem test_dataPacket_stale : rootClks linked = true ∧ (joinPacket linked 0 false (onLanes (packet 3 0 0 []))).map Joined.whole = some true ∧
     (sport linked 0).st = .up ∧
    (sport (after (gotPacket 0 (onLanes (packet 3 0 0 []))) linked) 0).counts.stale = 1 ∧
    (sport (after (gotPacket 0 (onLanes (packet 1 0 0 []))) linked) 0).counts.stale = 1 := by decide +kernel

/-- A line of segment 0 with its long readout due. -/
def awaited : Capture :=
  { (default : Capture) with
    cal := false, index := 0, line := 10, expSet := 1, done := false, gap := 0,
    segs := [{ seg := 0, planes := none, partialMerge := false,
               readouts := [{ short := false, deadline := 5000, px := [], next := 0, any := false, bad := false, onCopy := false, closed := false,
                              overs := false, cls := none }] }] }
def expecting : State :=
  { linked with caps := [awaited], ports := vmod linked.ports 0 fun p => { p with rxSeq := some 0 } }

set_option maxRecDepth 20000 in
/-- R245, R257: eight pixels of line 10. -/
theorem test_dataPacket : (let b := packet 1 0 10 (List.replicate 8 (1, 2, 3))
    expectsCap 0 b awaited = true ∧ (joinPacket expecting 0 false (onLanes b)).map Joined.whole = some true ∧
     crc32 (b.take (b.length - 6)) = w32 (uAt b (b.length - 6) 4) ∧
    (let t := after (gotPacket 0 (onLanes b)) expecting
     (sport t 0).rxSeq = some 1 ∧ (t.caps.map fun c => c.segs.map fun y => y.readouts.map fun r => (r.px.length, r.bad)) =
       [[[(8, false)]]])) := by decide +kernel

/-- A write awaiting the reply to TAG 7. -/
def asked (tries : Nat) (use : RegUse) : State :=
  { linked with
    line := { linked.line with st := .capturing, admitting := true }, localNs := 200000
    ports := vmod linked.ports 0 fun p => { p with regOut := [⟨{ write := true, addr := 0x30, data := 1, use := use }, 7, tries, 0⟩] } }

def regReplyBytes : List Byte :=
  let b := [2#8, 0#8] ++ leBytes 22 0 ++ [7#8] ++ leBytes 11 0
  b ++ wordBytes (crc32 b) ++ leBytes 2 0

set_option maxRecDepth 20000 in
theorem test_registerReply : regReplyBytes.length = 42 ∧ lineFlow (asked 1 .clear) = true ∧
    crc32 (regReplyBytes.take 36) = w32 (uAt regReplyBytes 36 4) ∧ (sport (asked 1 .clear) 0).bring = .none ∧
    (asked 1 .clear).lampLink.stage = none ∧
    (sport (after (.registerReplyReceived 0 (onLanes regReplyBytes)) (asked 1 .clear)) 0).regOut = [] := by decide +kernel

theorem test_registerTimeout : ((sport (after (.registerSequenceTimeout 0) (asked 1 .clear)) 0).regOut.map RegOut.tries) = [2] ∧
    ((sport (after (.registerSequenceTimeout 0) (asked 1 .clear)) 0).tx.seqs.map List.length) = [12] ∧
    (sport (after (.registerSequenceTimeout 0) (asked 4 .bring)) 0).st = .failed := by decide +kernel

/-- R257: nothing received by the deadline. -/
theorem test_readoutDeadline : (let s := { expecting with localNs := 5000 }
    alone.system.scan = false ∧ s.line.settling = false ∧ s.fw.busy = none ∧
    ((after .readoutDeadline s).caps.map fun c => (c.gap, c.done)) = [(2, true)] ∧
    (sport (after .readoutDeadline s) 0).counts.missing = 1) := by decide +kernel

theorem test_integrityWindowEnd : (let s := { linked with line := { linked.line with winLines := 1024, overruns := 3 } }
    (after .integrityWindowEnd s).line.winLines = 0 ∧ (after .integrityWindowEnd s).line.overruns = 0) ∧
    linked.line.winLines < 1024 := by decide +kernel

/-- R263. -/
theorem test_phaseTrack : (sport linked 0).track = true ∧ (lane linked 0 1).role = .data ∧
    (lane (after (.phaseTrackWindow 0 1 100 35) linked) 0 1).tap = 63 ∧
    (lane (after (.phaseTrackWindow 0 1 35 100) linked) 0 1).tap = 1 ∧
    (lane (after (.phaseTrackWindow 0 1 99 35) linked) 0 1).tap = 0 := by decide +kernel

def locking : State := { linked with ports := vmod linked.ports 0 fun p => { p with lanes := vmod p.lanes 3 trainBegin } }

/-- R239: the sequence repeats after 127 bits, and one wrong bit is one error. -/
theorem test_prbs : prbsBits 1#7 254 = prbsBits 1#7 127 ++ prbsBits 1#7 127 ∧ prbsErrors 1#7 (prbsBits 1#7 40) = 0 ∧
    prbsErrors 1#7 ((prbsBits 1#7 40).set 9 (!(prbsBits 1#7 40).getD 9 false)) = 1 := by decide +kernel

theorem test_prbsLock : (lane locking 0 3).train = some (.lock 0) ∧ prbsLocks (prbsRx locking 0 3 (prbsBits 1#7 30)) = true ∧
    (lane (after (.prbsLock 0 ⟨3, (prbsBits 1#7 30)⟩) locking) 0 3).train = some (.sweep false 0 []) := by decide +kernel

def window : PrbsRx := { reg := 1#7, bits := prbsBits 1#7 20 }

/-- R265, R268: the checker has 2 windows to lock. -/
theorem test_trainingWindow : (trainWindow 2 0 (lane locking 0 3)).train = some (.lock 1) ∧
    (lane (after (.trainingWindow 0 3 window) locking) 0 3).train = some (.lock 1) ∧ (sport locking 0).bring = .none ∧
    (let s := after (.trainingWindow 0 3 window) locking
     (trainWindow 2 0 (lane s 0 3)).train = none ∧ (sport s 0).recal = 0 ∧ portUp (sport s 0) = true ∧
       (sport (after (.trainingWindow 0 3 window) s) 0).st = .degraded) := by decide +kernel

/-- R262: TAP goes to its goal one step a window. -/
theorem test_laneStep : (laneStep { ({} : Lane) with tap := 60, goal := { tap := 2, boost := 0, slicer := -3 }, boost := 1 }) =
    { ({} : Lane) with tap := 61, goal := { tap := 2, boost := 0, slicer := -3 }, boost := 0, slicer := -1 } := by decide +kernel

def rotating : State := { linked with localNs := 1000000000000 }

theorem test_rotateInterval : spareLane (sport rotating 0) = some 3 ∧ oldestData (sport rotating 0) = some 0 ∧
    rotating.cal.par.rotateMs ≠ 0 ∧ (sport rotating 0).rotEnded + rotating.cal.par.rotateMs * 1000000 ≤ rotating.localNs ∧
    (sport (after (.rotateInterval 0) rotating) 0).rot = .comparing 3 0 ∧
    (lane (after (.rotateInterval 0) rotating) 0 3).role = .copy := by decide +kernel

/-- The copy, once its SOP has come in the slot of the others. -/
def comparing : State := after (.sopAligned ⟨0, [some 7, some 8, some 9, some 8]⟩) (after (.rotateInterval 0) rotating)

/-- R268, R270: 64 packets that agree, or 17,280 code groups; one code group that differs. -/
theorem test_copyCompareEnd : (lane comparing 0 3).aligned = true ∧
    (lane (after (.copyCompareEnd 0 ⟨64, 100, 0, 0⟩) comparing) 0 3).role = .data ∧
    (lane (after (.copyCompareEnd 0 ⟨64, 100, 0, 0⟩) comparing) 0 0).role = .training ∧
    (lane (after (.copyCompareEnd 0 ⟨0, 17280, 0, 0⟩) comparing) 0 3).role = .data ∧
    (lane (after (.copyCompareEnd 0 ⟨0, 17279, 0, 0⟩) comparing) 0 3).role = .copy ∧
    (lane (after (.copyCompareEnd 0 ⟨64, 100, 1, 0⟩) comparing) 0 3).role = .training ∧
    (lane (after (.copyCompareEnd 0 ⟨64, 100, 1, 0⟩) comparing) 0 0).role = .data := by decide +kernel

/-- A lane with four code errors in its window, and a quiet one. -/
def broken : LaneWatch := { pos := false, groups := List.replicate 4 0#10, silent := 0, prbs := { reg := 1#7, bits := [] } }
def sound : LaneWatch := { broken with groups := [] }

/-- R267, R271: lane 1 is lost. -/
theorem test_laneLost : laneIsLost linked 0 1 broken = true ∧ laneIsLost linked 0 1 sound = false ∧
    laneIsLost linked 0 3 broken = false ∧ rolesHeld (sport linked 0) = true ∧
    (let t := after (.laneLost 0 [sound, broken, sound, sound]) linked
    (lane t 0 3).role = .data ∧ (lane t 0 3).stripe = 1 ∧ (lane t 0 1).role = .training ∧ (sport t 0).st = .up) ∧
    (sport (after (.laneLost 0 [broken, broken, broken, sound])
      { linked with ports := vmod linked.ports 0 fun p => { p with retried := true } }) 0).st = .failed := by
  decide +kernel

def bringing (b : Bring) : State := { linked with localNs := 10000000, ports := vmod linked.ports 0 fun p =>
                                        { p with st := .linking, bring := b } }

theorem test_bringup : (sport (after (.sopAligned ⟨0, []⟩) (bringing .align)) 0).bring = .identify ∧
    ((sport (after (.sopAligned ⟨0, []⟩) (bringing .align)) 0).regOut.map fun o => o.acc.addr) = [0, 4, 8] ∧
    (sport (after (.digitizerRunSettle 0) (bringing (.settle 0))) 0).st = .up := by decide +kernel

/-! ### Forming, delivery, the seam and Loupe -/

def missing (i : Nat) : Capture :=
  { (default : Capture) with cal := false, index := i, line := 10 + i, gap := 1, done := true, segs := [] }

/-- Output line 0 claimed, its captures missing. -/
def gapped : State :=
  { ready with
    clk := { ready.clk with pllLocked := true }
    line := { ready.line with st := .capturing, admitting := true, firstLine := 10 }
    motion := { ready.motion with cmp := { ready.motion.cmp with g0 := some 0, pitch := 1000 } }
    deliv := { ready.deliv with streams := [1], slots := [{ n := 0, num := 10, st := .claimed, line := none, owed := [], later := 0 }] }
    caps := (List.range 8).map missing }

/-- A capture of 64 pixels of code 256, at an encoder count. -/
def present (i : Nat) (at_ : Int) : Capture :=
  { missing i with gap := 0, expSet := 1, pos := some at_,
                   segs := [{ seg := 0, planes := some (List.replicate 3 (List.replicate 64 256)), partialMerge := false, readouts := [] }] }

def runGap : State := { gapped with caps := [present 0 0] ++ ((List.range 30).map fun i => missing (i + 1)) ++ [present 31 100000] }
def runLine : State := { gapped with caps := [present 0 0, present 1 100000] }

/-- R371, R418: too long a run of missing captures: the line is fixed as a gap. -/
theorem test_formLine_gap : ((formable alone (storeCaptures alone runGap)).map readsGap) = some true ∧ dpClk runGap = true ∧
    (let t := after .achromatFormLine runGap
     t.line.gaps = 1 ∧ t.achr.next = 1 ∧ t.deliv.slots = [] ∧ t.deliv.gapLog.map (fun g => (g.first, g.count, g.cause)) = [(10, 1, 1)]) := by
  decide +kernel

/-- R367, R369, R396: a line is formed, owed on its stream. -/
def formed : State := after .achromatFormLine runLine
theorem test_formLine : ((formable alone (storeCaptures alone runLine)).map readsGap) = some false ∧
    formed.deliv.slots.map (fun x => (x.n, x.st, x.owed, x.line.isSome)) = [(0, .filled, [1], true)] ∧ formed.achr.next = 1 ∧
        formed.line.gaps = 0 := by
  decide +kernel

theorem test_formLine_noClock : dpClk { runLine with power := { runLine.power with present := .idle } } = false := by decide +kernel

/-- R406: the host's half of a descriptor of this length, at 0x8000. -/
def descOf (len : Nat) : Desc := { host := leBytes 8 0x8000 ++ leBytes 4 len ++ leBytes 4 0 }

def reachable (s : State) (k stream : Nat) : State :=
  { s with
    host := { s.host with linkSpeed := 4, linkWidth := 8,
                          rings := vmod s.host.rings k fun r => { r with ctrl := w32 (1 + 256 * stream), size := 8, posted := 3#16 } } }

/-- R407, R410, R413: the line's header begins with its number. -/
theorem test_lineDelivery : (let s := reachable formed 3 1
    rootClks s = true ∧ hostReach s = true ∧ ringTurn s 3 = true ∧ (nextLine s 1).map (fun p => p.1.owed) = some [1] ∧
    (let t := after (.lineDelivery 3 (descOf 1000)) s
     t.line.lastDelivered = some 10 ∧ (ring t 3).head = 1#16 ∧ t.deliv.slots = [])) := by decide +kernel

def mirrored : MirrorRec :=
  { point := 1, seg := 0, exp := 0, flags := 0, line := 7, pixels := 0, position := 0, timeNs := 0, samples := [] }
def mirroring : State :=
  reachable { ready with achr := { ready.achr with mirror := { ready.achr.mirror with buf := [mirrored], dropped := 2 } } } 5 7
theorem test_mirrorDelivery : ringTurn mirroring 5 = true ∧
    (after (.lineDelivery 5 (descOf 32)) mirroring).achr.mirror.buf = [] ∧
    (ring (after (.lineDelivery 5 (descOf 32)) mirroring) 5).head = 1#16 := by decide +kernel

def gapRec : GapRec := { first := 10, count := 2, cause := 1, span := false, epoch := 0, timeNs := 0, position := 0 }
def gapping : State :=
  reachable { ready with line := { ready.line with st := .capturing }, deliv := { ready.deliv with gapLog := [gapRec] } } 4 5
theorem test_gapDelivery : inRun gapping = true ∧ ringTurn gapping 4 = true ∧ closedGaps gapping.deliv = [gapRec] ∧
    ((after (.lineDelivery 4 (descOf 64)) gapping).deliv.gapBuf.map fun b => (b.count, b.bytes.take 12)) =
      some (1, leBytes 4 10 ++ leBytes 4 2 ++ [1#8, 0#8, 0#8, 0#8]) := by decide +kernel

theorem test_gapRecordFlush : (let s := { gapping with localNs := 100000000, deliv := { gapping.deliv with gapOpen := some 0 } }
    s.deliv.par.flushMs * 1000000 ≤ s.localNs ∧ (after .gapRecordFlush s).deliv.gapOpen = none) := by decide +kernel

/-- R407, R410: a buffer with one record, its time over: DONE_BYTES and the data go to the host. -/
theorem test_gapBufFlush : (let s := { after (.lineDelivery 4 (descOf 64)) gapping with localNs := 200000000 }
    s.deliv.gapOpen = none ∧ (s.deliv.gapBuf.map fun b => (b.ring, b.count)) = some (4, 1) ∧
    (after .gapRecordFlush s).deliv.gapBuf = none ∧ (ring (after .gapRecordFlush s) 4).head = 1#16 ∧
    ((after .gapRecordFlush s).outbox.any fun o => match o with
      | .hostWrite a b => a == 0x8000 && b == gapBytes gapRec
      | _ => false) = true) := by decide +kernel

/-- R421: 800 lines in 50 ms are 16,000 lines a second, of which the estimate takes an eighth. -/
theorem test_paceWindowEnd : (let s := { ready with localNs := 50000000, deliv := { ready.deliv with posted := [800, 0, 0, 0], streams := [1] } }
    rootClks s = true ∧ (after .paceWindowEnd s).deliv.drain = 2000 ∧ (after .paceWindowEnd s).deliv.posted = [0, 0, 0, 0]) := by
  decide +kernel

def stalling : State :=
  { gapping with localNs := 100000000, host := { gapping.host with rings := vmod gapping.host.rings 4 fun r =>
                                                 { r with posted := 0#16, stallSince := some 0 } } }
theorem test_hostStall : ((List.range 16).find? fun j => stallDue stalling j) = some 4 ∧
    (ring (after .hostStallTimeout stalling) 4).stallReported = true := by decide +kernel

/-- The board in scan mode: the device owns the feed on axis 0. -/
def scanner : Decl :=
  { alone with
    system := { alone.system with scan := true, feedAxis := 0, feedEncoder := 0, joinLines := 8 }, speeds := [10000, 20000] }
def scanning : State :=
  { ready with decl := some scanner, line := { ready.line with st := .capturing, admitting := true, speed := 1 } }

theorem test_pace_high : (let s := { scanning with localNs := 50000000, deliv := { scanning.deliv with par :=
                                       { scanning.deliv.par with highPm := 0 } } }
    s.deliv.par.highPm * slotLimit scanner ≤ occupancy s * 1000 ∧ fwRunning s = true ∧ rootClks s = true ∧
      s.deliv.par.fixed = false ∧ s.line.drain = .none ∧ (after .paceWindowEnd s).line.speed = 0) := by decide +kernel

/-- A seam at a phase. -/
def inSeam (p : SeamPhase) : State :=
  { scanning with
    line := { scanning.line with st := .seam }, localNs := 1000000000
    achr := { scanning.achr with next := 9 }
    motion := { scanning.motion with cmp := { scanning.motion.cmp with g0 := some 0, pitch := 1000 }
                                     axes := vmod scanning.motion.axes 0 fun a => { a with st := .idle, en := true, pos := 50000 } }
    deliv := { scanning.deliv with seam := { scanning.deliv.seam with phase := p, nr := 9, j := 8, xBack := 40000 } } }

theorem test_seamStandstill : feedStill (inSeam .ramp) = true ∧ drained (inSeam .ramp) = true ∧
    (chooseJoin scanner { fixResume (inSeam .ramp) with line := { (fixResume (inSeam .ramp)).line with admitting := false } }).isSome =
      true ∧
    (let t := after .seamStandstill (inSeam .ramp)
     t.deliv.seam.phase = .dwellBack 1000000000 ∧ t.deliv.seam.nr = 9 ∧ t.line.admitting = false) := by decide +kernel

theorem test_seamStandstill_held : (let s := { inSeam .ramp with line := { (inSeam .ramp).line with drain := .stopSeam 0x0403#16 } }
    (after .seamStandstill s).line.resume = some 9 ∧ (after .seamStandstill s).deliv.seam.phase = .off) := by decide +kernel

theorem test_seamStandstill_moving : feedStill { inSeam .ramp with motion := { (inSeam .ramp).motion with
    drives := vmod (inSeam .ramp).motion.drives 0 fun d => { d with speed := 1 } } } = false := by decide +kernel

theorem test_seamDwellEnd : dwellOver (inSeam (.dwellFwd 0)) 0 = true ∧
    (after .seamDwellEnd (inSeam (.dwellFwd 0))).deliv.seam.phase = .wait ∧
    (askAccel 0 [0] (inSeam (.dwellBack 0))).1 = true ∧
    (after .seamDwellEnd (inSeam (.dwellBack 0))).deliv.seam.phase = .back ∧
    (after .seamDwellEnd (inSeam (.dwellBack 0))).deliv.seam.travel = 10000 := by decide +kernel

theorem test_seamBackupReached : (let s := { inSeam .back with deliv := { (inSeam .back).deliv with seam :=
                                               { (inSeam .back).deliv.seam with xBack := 50000 } } }
    axStill s 0 = true ∧ (drv s 0).queue = [] ∧ (after .seamBackupReached s).deliv.seam.phase = .dwellFwd 1000000000) := by
  decide +kernel

theorem test_seamHostWaitEnd : (askAccel 0 [0] (inSeam .wait)).1 = true ∧ pendingReconf (inSeam .wait) = none ∧
    occupancy (inSeam .wait) * 1000 ≤ (inSeam .wait).deliv.par.resumePm * slotLimit scanner ∧
    (let t := after .seamHostWaitEnd (inSeam .wait)
     t.deliv.seam.phase = .fwd ∧ t.line.speed = 0 ∧ t.line.admitting = true ∧ t.achr.next = 1) := by decide +kernel

/-- A grant of all of PEAK_MW. -/
def spent : Grant := { holder := .dram, op := .dramTraining, budget := 0, mw := 100000, start := 0, dur := 2000000000 }

theorem test_seamHostWait_noGrant : (let s := { inSeam .wait with grants := { (inSeam .wait).grants with grants := [spent] } }
    (after .seamHostWaitEnd s).deliv.seam.phase = .askFwd) := by decide +kernel

theorem test_seamJoinCheck : (inSeam .join).deliv.seam.nr ≤ (inSeam .join).achr.next ∧ fwRunning (inSeam .join) = true := by
  decide +kernel

/-- R459: 16 lines, COL_BIN 2, ZONES 4, from stripe 5. -/
def stripeReq : Req := rq 0 0 (leBytes 4 16 ++ leBytes 4 5 ++ [2#8, 4#8])
theorem test_loupeVerbs : layLen [.u 4, .u 4, .u 1, .u 1] = 10 ∧ ready.loupe.cur = none ∧
    (let l := (after (.loupeStripe stripeReq) ready).loupe
     l.lines = 16 ∧ l.nextNumber = 5 ∧ l.colBin = 2 ∧ l.zones = 4) ∧
    (after (.loupeBands (rq 0 0 (leBytes 4 1 ++ leBytes 4 99))) ready).loupe.freq = [99] ∧
    (after (.loupeAnomaly (rq 0 0 ([1#8, 2#8, 3#8, 7#8] ++ leBytes 2 50 ++ leBytes 2 10))) ready).loupe.anomaly =
      { on := true, frozen := false, baseLog2 := 2, window := 3, colours := 7, thresh := 50, maxList := 10 } ∧
    (after (.loupeAlarm (rq 0 0 (leBytes 4 1 ++ [2#8, 0#8, 0#8, 0#8] ++ leBytes 4 6))) ready).loupe.alarms =
      [{ kind := 2, colour := 0, index := 0, level := 6 }] := by decide +kernel

def stripe0 : Stripe :=
  { (default : Stripe) with number := 4, lines := 1, positions := [some true], zones := 16, colBin := 1, m := 64 }
def striped : State := { ready with loupe := { ready.loupe with cur := some stripe0 } }

theorem test_loupe_pending : (after (.loupeStripe stripeReq) striped).loupe.pendingSet = [.stripe 16 5 2 4] ∧
    stripeFull stripe0 = true ∧ stripeFull { stripe0 with lines := 2 } = false := by decide +kernel

theorem test_stripeFinalise : (let t := after .stripeFinalise striped
    t.loupe.cur = none ∧ t.loupe.finalised.map (fun p => (p.number, p.isPartial)) = [(4, false)]) := by decide +kernel

theorem test_loupeResults : (let s := { ready with loupe := { ready.loupe with finalised := [stripe0] } }
    s.loupe.finalised = [stripe0] ∧ fwRunning s = true) := by decide +kernel

/-! ### The lamps -/

/-- The lamp link up, with the limit block locked. -/
def lampUp : State :=
  { ready with lampLink := { ready.lampLink with st := .up, bring := .idle }, limit := { ready.limit with limitLock := true } }
def strIn (st : StrState) (target : Rat) : State :=
  { lampUp with lamps := vmod lampUp.lamps 0 fun x => { x with st := st, level := 10000, target := target } }
def theString : DString := (dString? lampUp 0).getD default
def setReq (level : Nat) : Req := rq 0x800 0 (leBytes 2 level)

/-- R513: a start; R515: the grant refused; R527: a string in FAULT. -/
theorem test_lampSet : (askRise 0 theString (min (iSetOf theString 8000) (ceilingMa lampUp 0 theString)) lampUp).1 = true ∧
    inRun lampUp = false ∧ (dString? lampUp 0).isSome = true ∧
    (let t := after (.lampSet (setReq 8000)) lampUp
     (str t 0).st = .starting ∧ (str t 0).level = 8000 ∧ (str t 0).target = 0 ∧ t.fw.busy.isSome = true) ∧
    verdict (after (.lampSet (setReq 8000)) { lampUp with grants := { lampUp.grants with grants := [spent] } }) =
      some (8, 0, 0) ∧
    verdict (after (.lampSet (setReq 8000)) (strIn .fault 0)) = some (11, 0x0101, 0) := by decide +kernel

/-- R488: 1000 mA at 10 mΩ is code 51; half the level needs no grant. -/
theorem test_lampSet_lower : (senseCode theString.senseUohm (min (iSetOf theString 5000) (ceilingMa (strIn .on 5120) 0 theString)) : Rat) <
      (str (strIn .on 5120) 0).target ∧
    (let t := after (.lampSet (setReq 5000)) (strIn .on 5120)
     (str t 0).st = .starting ∧ (str t 0).level = 5000 ∧ t.grants.grants = []) := by decide +kernel

theorem test_lampOff : (let t := after (.lampOff (rq 0x800 0 [])) (strIn .on 40)
    (str t 0).st = .off ∧ (str t 0).target = 0 ∧ (str t 0).gl = false ∧ verdict t = some (0, 0, 0)) := by decide +kernel

theorem test_lampDuty : theString.lamps = 1 ∧ 700 ≤ limitN (.strDuty 0) lampUp ∧
    (let t := after (.lampDuty (rq 0x800 0 (leBytes 2 700))) lampUp
     (vget (str t 0).lamps 0).duty = 700 ∧ t.fw.busy.isSome = true) ∧
    verdict (after (.lampDuty (rq 0x800 0 (leBytes 2 4096))) lampUp) = some (5, 0, 0) := by decide +kernel

def testReq (ma : Nat) : Req := rq 0x800 0 ([1#8, 0#8] ++ leBytes 2 ma)
theorem test_lampTest : 100 ≤ ceilingMa lampUp 0 theString ∧ (askRise 0 theString 100 lampUp).1 = true ∧
    (str (after (.lampTest (testReq 100)) lampUp) 0).test = some { points := [100], measured := [], since := none } ∧
    verdict (after (.lampTest (testReq 3000)) lampUp) = some (7, 0, 0) := by decide +kernel

theorem test_lampRecover : (str (after (.lampRecover (rq 0x800 0 [])) (strIn .on 40)) 0).st = .recovery ∧
    (askRise 0 theString (min (iSetOf theString 10000) (ceilingMa (strIn .recovery 1) 0 theString)) (strIn .recovery 1)).1 = true ∧
    (str (after (.lampRecover (rq 0x800 1 [])) (strIn .recovery 1)) 0).st = .starting := by decide +kernel

/-- R187: OFF, no flags, no current, the ceiling of 1000 mA. -/
theorem test_lampStatus : lastReply (after (.lampStatus (rq 0x800 0 [])) lampUp) =
    some (0, 0, [0#8, 0#8, 0#8, 0#8, 0#8, 0#8] ++ leBytes 2 1000) := by decide +kernel

/-- R482, R485: cut at the trip after the blanking, or at 432 cycles; the high side is on as the period begins. -/
theorem test_switchingPeriod : switching (str (strIn .on 40) 0) = true ∧ seqStart (strIn .on 40) 0 = 0 ∧
    seqStart (strIn .on 40) 3 = 375 ∧ (str (strIn .on 40) 0).periodNo = none ∧ rootClks (strIn .on 40) = true ∧
    (str (after (.switchingPeriod 0 true 100) (strIn .on 40)) 0).periodOff = 100 ∧
    (str (after (.switchingPeriod 0 true 47) (strIn .on 40)) 0).periodOff = 432 ∧
    (str (after (.switchingPeriod 0 false 0) (strIn .on 40)) 0).periodNo = some 0 := by decide +kernel

/-- R482: STRn_GH is high at 0.5 µs of a period of 432 cycles (0.9 µs) and low at 0.95 µs, when STRn_GL is high. -/
theorem test_gates : (let x := str (after (.switchingPeriod 0 false 0) (strIn .on 40)) 0
    (gatesAt x 500).1 = true ∧ (gatesAt x 500).2 = false ∧ (gatesAt x 950).1 = false ∧ (gatesAt x 950).2 = true) := by decide +kernel

theorem test_faults : (str (after (.overcurrentFault 0) (strIn .on 40)) 0).flags = 4 ∧
    (str (after (.outputShortFault 0) (strIn .on 40)) 0).flags = 16 ∧
    iSetOf theString (str (strIn .on 40) 0).level ≤ ceilingMa (strIn .on 40) 0 theString ∧
    (str (after (.regulationFault 0) (strIn .on 40)) 0).flags = 32 ∧
    (str (after (.overvoltageFault 0 []) (strIn .on 40)) 0).flags = 8 ∧
    (str (after (.overvoltageFault 0 []) (strIn .on 40)) 0).st = .fault ∧
    (str (after (.overvoltageFault 0 []) lampUp) 0).st = .off ∧ switching (str lampUp 0) = false := by decide +kernel

/-- R518, R520. -/
theorem test_lamp_found : (let t := after (.overvoltageFault 0 [0]) (strIn .on 40)
    (str t 0).st = .starting ∧ (str t 0).flags = 2 ∧ (vget (str t 0).lamps 0).retired = true) ∧
    (str (after (.overvoltageFault 0 [0, 1]) (strIn .on 40)) 0).st = .fault ∧
    (str (after (.lampShortFault 0 [0]) (strIn .on 40)) 0).st = .recovery ∧
    (str (after (.lampShortFault 0 [0]) (strIn .recovery 20)) 0).st = .fault := by decide +kernel

def testing (pts : List Nat) : State :=
  { lampUp with
    localNs := 30000000
    lamps := vmod lampUp.lamps 0 fun x => { x with test := some { points := pts, measured := [], since := some 0 } } }
theorem test_lampTestPoint : (str (after (.lampTestPoint 0 99 3000) (testing [100, 200])) 0).test =
      some { points := [100, 200], measured := [(99, 3000)], since := none } ∧
    (str (after (.lampTestPoint 0 99 3000) (testing [100])) 0).test = none := by decide +kernel

theorem test_idleMark : (let s := { lampUp with localNs := 1000000 }
    rootClks s = true ∧ s.lampLink.nextMark = none ∧ (after (.idleMark []) s).lampLink.lastMark = 1000000) := by decide +kernel

def flying (f : LFrame) (k : Nat) : State :=
  { lampUp with lampLink := { lampUp.lampLink with flight := some (f, 9, k), seq := 10, bring := .idle } }
/-- What the statements on frames ask besides: nothing on the wire, no verb, change or LINE.CONFIG that a line boundary would end. -/
theorem test_flying_plain : (let s := flying applyFrame 1
    rootClks s = true ∧ s.lampLink.tx = [] ∧ s.fw.busy = none ∧ s.fw.deferred = [] ∧ s.cal.swapping = false ∧
      s.achr.mirror.next = none ∧ s.lampLink.stage = none) := by decide +kernel

def enumFrame : LFrame := { addr := 0xFD, type := 6, body := [0#8] }

/-- R498: twice more, then LOST. -/
theorem test_frame_bad : returnGood applyFrame 9 [] = false ∧
    ((after (.lampFrameReturn []) (flying applyFrame 1)).lampLink.flight.map fun x => (x.2.1, x.2.2)) = some (10, 2) ∧
    (after (.lampFrameReturn []) (flying applyFrame 2)).lampLink.st = .lost ∧
    (after (.lampFrameReturn []) lampUp).lampLink.flight = none ∧ lampUp.lampLink.flight = none := by decide +kernel

theorem test_frame_apply : (let b := frameBytes applyFrame 9
    returnGood applyFrame 9 b = true ∧ (flying applyFrame 0).lampLink.queue = [] ∧
    (after (.lampFrameReturn b) (flying applyFrame 0)).lampLink.flight = none) := by decide +kernel

/-- R502: one device. -/
theorem test_frame_enum : (let b := frameBytes { enumFrame with body := [1#8] } 9
    bypassCount lampUp = 1 ∧ returnGood enumFrame 9 b = true ∧
    (after (.lampFrameReturn b) (flying enumFrame 0)).lampLink.bring = .reading ∧
    (after (.lampFrameReturn (frameBytes { enumFrame with body := [2#8] } 9)) (flying enumFrame 0)).lampLink.st = .lost) := by
  decide +kernel

theorem test_pollTimer : (let s := { lampUp with localNs := 1000000 }
    ((after .pollTimer s).lampLink.flight.map fun x => x.1.type) = some 3 ∧ (after .pollTimer s).lampLink.lastPoll = 1000000) := by
  decide +kernel

theorem test_enum_sent : (let s := { lampUp with localNs := 200000, lampLink := { lampUp.lampLink with bring := .waitEnum, st := .linking } }
    ((after .lampLinkEnumWait s).lampLink.flight.map fun x => x.1) = some enumFrame) ∧
    (let s := { lampUp with localNs := 1000000000, lampLink := { lampUp.lampLink with st := .lost } }
     ((after .lampLinkRetry s).lampLink.flight.map fun x => x.1) = some enumFrame) := by decide +kernel

/-! ### The serial lines -/

/-- R229, R490, R664: wherever the first slot begins, slots begin, 25/3, 250/3 and 25/6 ns apart. -/
theorem test_slots_begin : slotNo (slotTime 9 - 1 + 1) ≠ slotNo (slotTime 9 - 1) ∧
    lampSlot ((2250 - Config.slotPhase % 250 + 2) / 3 - 1 + 1) ≠ lampSlot ((2250 - Config.slotPhase % 250 + 2) / 3 - 1) ∧
    prismSlot ((225 - Config.slotPhase % 25 + 5) / 6 - 1 + 1) ≠ prismSlot ((225 - Config.slotPhase % 25 + 5) / 6 - 1) := by
  unfold slotNo slotTime lampSlot prismSlot
  omega

/-- A lane in use with a register sequence to send; a lamp link with a bit to send; a Prism port with a NAK to send, with a message
to send again, and with one that waits. -/
def laneOn : TxLane := { ({} : TxLane) with on := true, seqs := [[symReg]] }
def nakking : PrismTx := { ({} : PrismTx) with naks := nakSymbols 5 }
theorem test_lines_idle : up.pending = [] ∧ rootClks up = true ∧ up.power.stored = none ∧ laneOn.starts = [] ∧
    lampUp.lampLink.st ≠ .off ∧ lampUp.lampLink.markSlot = none ∧ nakking.naks.length = 3 ∧
    (∀ q, q < 3 → (pport up q).closing = false ∧ (pport up q).tx.raw = []) := by decide +kernel

/-- R491: MARK, and a frame of no bytes: 4 idle bits, SOF, EOF. -/
theorem test_lamp_symbols : lampSymbols [] = List.replicate 4 (false, true) ++
      [(true, true), (false, false), (false, false), (true, true)] ∧
    lampByte 1#8 = (false, true) :: List.replicate 7 (true, false) := by decide +kernel

/-! ### Motion -/

def still0 (st : AxState) (pos : Int) : State :=
  { ready with motion := { ready.motion with axes := vmod ready.motion.axes 0 fun x => { x with st := st, en := true, pos := pos } } }
def moveReq (p : Int) (v : Nat) : Req := rq 0x1400 0 (leInt 4 p ++ leBytes 4 v)
def aMove : Move := { ends := [50, 0, 0, 0], delta := [50, 0, 0, 0], vMax := 1000, noBlend := false }
/-- Axis 0 in the middle of a move. -/
def moving (n : Nat) (pos : Int) : State :=
  { still0 .moving pos with motion := { (still0 .moving pos).motion with
      axes := vmod (still0 .moving pos).motion.axes 0 fun x => { x with dir := true }
      drives := vmod ready.motion.drives 0 fun d => { d with queue := [aMove], begun := true, steps := n, speed := 100 * 4294967296 } } }

/-- R538, R543: the move begins, with a dwell; R189: not without its grant; R546: LIMIT_MAX is 100,000. -/
theorem test_axisMove : (dAxis? (still0 .idle 0) 0).map (fun d => (d.group, d.limMin, d.limMax)) = some (255, 0, 100000) ∧
    1000 ≤ limitN (.axV 0) (still0 .idle 0) ∧ inRun (still0 .idle 0) = false ∧ (askAccel 0 [0] (still0 .idle 0)).1 = true ∧
    (let t := after (.axisMove (moveReq 50 1000)) (still0 .idle 0)
     (drv t 0).queue = [aMove] ∧ (ax t 0).st = .dwell ∧ (ax t 0).dir = true ∧ verdict t = some (0, 0, 0)) ∧
    verdict (after (.axisMove (moveReq 50 1000)) { still0 .idle 0 with grants := { ready.grants with grants := [spent] } }) =
      some (8, 0, 0) ∧
    verdict (after (.axisMove (moveReq 100001 1000)) (still0 .idle 0)) = some (7, 0, 0) := by decide +kernel

/-- R546: the displacement is from the end of the last move in the queue. -/
theorem test_axisMove_queued : still (drv (moving 10 10) 0) = false ∧ (drv (moving 10 10) 0).queue.getLast? = some aMove ∧
    (drv (after (.axisMove (moveReq 20 1000)) (moving 10 10)) 0).queue =
      [aMove, { ends := [20, 0, 0, 0], delta := [-30, 0, 0, 0], vMax := 1000, noBlend := false }] := by decide +kernel

/-- The axis as the one member of group 0. -/
def grouped : State := { still0 .idle 0 with decl := some { alone with axes := alone.axes.map fun p => (p.1, { p.2 with group := 0 }) } }

theorem test_groupMove : groupMembers grouped 0 = [0] ∧ covered grouped 6 0 = true ∧ (askAccel 4 [0] grouped).1 = true ∧
    ((groupMembers grouped 0).filter fun b => sAt (leBytes 4 50) (4 * b) 4 != (ax grouped b).pos) = [0] ∧
    (drv (after (.axisGroupMove (rq 0x1800 0 (leBytes 4 50 ++ leBytes 12 0 ++ leBytes 4 1000))) grouped) 4).queue = [aMove] := by
  decide +kernel

theorem test_axisStop : (drv (after (.axisStop (rq 0x1400 0 [])) (still0 .halted 7)) 0).queue = [] ∧
    (ax (after (.axisStop (rq 0x1400 0 [])) (still0 .halted 7)) 0).st = .idle ∧
    (drv (moving 10 10) 0).fall = .none ∧
    (drv (after (.axisStop (rq 0x1400 1 [])) (moving 10 10)) 0).fall = .emergency ∧
    (ax (after (.axisStop (rq 0x1400 1 [])) (moving 10 10)) 0).st = .stopping := by decide +kernel

/-- The axis with encoder 0, at one count and a half per step. -/
def withEnc : State :=
  { still0 .idle 0 with decl := some { alone with axes := alone.axes.map fun p => (p.1, { p.2 with encoder := 0, countsPerStep := 98304 }) } }

/-- R557: 1.5 counts per step, rounded half up. -/
theorem test_axisSetPos : axStill withEnc 0 = true ∧ withinLimits withEnc 0 9 = true ∧ axisEnc withEnc 0 = 0 ∧
    (let t := after (.axisSetPos (rq 0x1400 1 (leInt 4 9))) withEnc
     (ax t 0).pos = 9 ∧ (encd t 0).count = 14 ∧ (ax t 0).pRef = 9) ∧
    (encd (after (.axisSetPos (rq 0x1400 0 (leInt 4 9))) withEnc) 0).count = 0 := by decide +kernel

theorem test_axisEnable : (ax (after (.axisEnable (rq 0x1400 1 [])) ready) 0).st = .idle ∧
    (ax (after (.axisEnable (rq 0x1400 1 [])) ready) 0).irefTo = 100 ∧ axStill (still0 .idle 0) 0 = true ∧
    (ax (after (.axisEnable (rq 0x1400 0 [])) (still0 .idle 0)) 0).st = .disabled ∧ axStill (moving 10 10) 0 = false ∧
    verdict (after (.axisEnable (rq 0x1400 0 [])) (moving 10 10)) = some (11, 0x0103, 0) := by decide +kernel

/-- R188: MOVING, one move, position 10, no encoder, 100 steps/s. -/
theorem test_axisStatus : lastReply (after (.axisStatus (rq 0x1400 0 [])) (moving 10 10)) =
    some (0, 0, [2#8, 1#8, 0#8, 0#8] ++ leBytes 4 10 ++ leBytes 4 0 ++ leBytes 4 100) := by decide +kernel

/-- R532, R534, R535: A leads B going up; a change of both is an error and no count. -/
theorem test_encoderEdge : ready.power.present = .run ∧ (dEncoder? ready 0).map (fun d => (d.invert, d.useIndex)) = some (false, false) ∧
    (encd (after (.encoderEdge 0 true false) ready) 0).count = 1 ∧ (encd (after (.encoderEdge 0 false true) ready) 0).count = -1 ∧
    (encd (after (.encoderEdge 0 false false) ready) 0).count = 0 := by decide +kernel

def erred (n : Nat) (r : Option Nat) : State :=
  { ready with motion := { ready.motion with encs := vmod ready.motion.encs 0 fun y => { y with errors := n, errReported := r } } }
theorem test_encoderErrors : (encd (erred 4 (some 0)) 0).a = false ∧
    (encd (after (.encoderEdge 0 true true) (erred 4 (some 0))) 0).errors = 5 ∧
    (encd (after (.encoderEdge 0 true true) (erred 4 (some 0))) 0).count = 0 ∧
    (encd (after (.encoderErrorReport 0) (erred 4 none)) 0).errors = 0 := by decide +kernel

def indexed : State :=
  { ready with
    decl := some { alone with encoders := alone.encoders.map fun p => (p.1, { p.2 with useIndex := true }) }
    motion := { ready.motion with encs := vmod ready.motion.encs 0 fun y => { y with count := 77 } } }
theorem test_indexLatch : (encd (after (.indexLatch 0) indexed) 0).latched = 77 ∧ (encd (after (.indexLatch 0) ready) 0).latched = 0 := by
  decide +kernel

/-- The root clocks run, and a move awaits its first step, or a phase has wrapped. -/
def rooted (s : State) (f : Drive → Drive) : State :=
  { s with clk := { s.clk with pllLocked := true }, motion := { s.motion with drives := vmod s.motion.drives 0 f } }

/-- R539: the lesser of V_START 100 and the move's 1000 steps/s. -/
theorem test_rampUpdate : (let s := rooted (moving 0 0) fun d => { d with speed := 0, dwell := .first }
    rootClks s = true ∧ feedAxis? s = none ∧ (drv (after .rampUpdate s) 0).speed = 100 * 4294967296 ∧
    (drv (after .rampUpdate s) 0).dwell = .none) ∧ rootClks { up with power := { up.power with present := .deep } } = false := by
  decide +kernel

/-- R540: A1 is 10,000 steps/s²: 42,949,673 in one update; the phase gains 48 ticks of the new speed. -/
theorem test_rampUpdate_rise : (let s := rooted (moving 0 0) id
    (drv (after .rampUpdate s) 0).speed = 100 * 4294967296 + 42949673 ∧
    (drv (after .rampUpdate s) 0).phase = 48 * (100 * 4294967296 + 42949673)) := by decide +kernel

theorem test_stepPulse : (let s := rooted (moving 10 10) fun d => { d with phase := phaseWrap + 5 }
    rootClks s = true ∧ limitBlocks s 0 = none ∧ moveLen aMove = 50 ∧ driveAxes s 0 = [0] ∧
    (ax (after (.stepPulse 0) s) 0).pos = 11 ∧ (drv (after (.stepPulse 0) s) 0).phase = 5) := by decide +kernel

/-- R553: LIMIT_MAX reached. -/
theorem test_stepPulse_limit : (let s := rooted (moving 10 100000) fun d => { d with phase := phaseWrap }
    limitBlocks s 0 = some 0 ∧ (ax (after (.stepPulse 0) s) 0).st = .fault ∧ (ax (after (.stepPulse 0) s) 0).pos = 100000 ∧
    (drv (after (.stepPulse 0) s) 0).queue = []) := by decide +kernel

theorem test_stall : (let s := { moving 10 10 with motion := { (moving 10 10).motion with
      axes := vmod (moving 10 10).motion.axes 0 fun x => { x with devCount := 8 } } }
    (ax (after (.stall 0) s) 0).st = .fault ∧ (ax (after (.stall 0) s) 0).iref = 100 ∧ (drv (after (.stall 0) s) 0).queue = []) := by
  decide +kernel

theorem test_dwells : (drv (after (.directionDwellEnd 0) (rooted (moving 0 0) fun d => { d with dwell := .direction 0 })) 0).dwell = .first ∧
    (drv (after (.irefRaiseDwellEnd 0) (rooted (moving 0 0) fun d => { d with dwell := .iref 0 })) 0).dwell = .first ∧
    (drv (after (.irefRaiseDwellEnd 0) (rooted (moving 0 0) fun d => { d with dwell := .iref 1 })) 0).dwell = .iref 1 := by
  decide +kernel

/-- R543: HOLD_DELAY_MS is 100, I_HOLD 100. -/
theorem test_holdDelayEnd : (let s := { still0 .idle 0 with localNs := 100000000, motion := { (still0 .idle 0).motion with
      axes := vmod (still0 .idle 0).motion.axes 0 fun x => { x with iref := 500 }
      drives := vmod ready.motion.drives 0 fun d => { d with standSince := some 0 } } }
    holdDelay s 0 = 100000000 ∧ axStill s 0 = true ∧ (ax (after (.holdDelayEnd 0) s) 0).irefTo = 100) := by decide +kernel

/-! ### The thermal front end and housekeeping -/

/-- The root clocks run; sensor 0 (1,000 mΩ at 0 °C, 100 µA, 10 S/s, RISE 50 °C, DWELL 1) as `f` makes it. -/
def warm (f : Sensor → Sensor) : State :=
  { ready with
    clk := { ready.clk with pllLocked := true }
    therm := { ready.therm with slot := some 0, sensors := vmod ready.therm.sensors 0 f } }
/-- The sensor at 1,000 S/s, whose window of 1,024 bits began at local time 0 and is fed them by 85,334 ns. -/
def fast (now : Nat) (f : Sensor → Sensor) : State :=
  { warm f with localNs := now, decl := some { alone with thermals := alone.thermals.map fun p => (p.1, { p.2 with rateSps := 1000 }) } }
def sampled (x : Int) (l : TLevel) : State :=
  after (.tfeWindowEnd ⟨x, []⟩) (fast 85334 fun y => { y with lastX := some x, level := l })

/-- R190, R595. -/
theorem test_tempRead : lastReply (after (.tempRead (rq 0x2000 0 [])) (warm fun y => { y with reading := some 400, level := .raised })) =
    some (0, 0, leBytes 2 400 ++ [1#8, 0#8] ++ leBytes 2 0) ∧ covered ready 8 0 = true := by decide +kernel

theorem test_tempThreshold : limitOf (.tempRise 0) ready = 2000 ∧
    (sen (after (.tempThreshold (rq 0x2000 0 (leBytes 2 900 ++ [0#8, 0#8, 3#8]))) ready) 0).pendingThr = some (900, 868, 3) ∧
    thrOf (after (.tempThreshold (rq 0x2000 0 (leBytes 2 900 ++ [0#8, 0#8, 3#8]))) ready) 0 = (800, 768, 1) ∧
    verdict (after (.tempThreshold (rq 0x2000 0 (leBytes 2 2001 ++ [0#8, 0#8, 3#8]))) ready) = some (7, 0, 0) := by decide +kernel

/-- R580, R585: t_d is 26 µs; the next sample is due 0.1 s on. -/
theorem test_slotStart : (let s := { warm id with therm := ready.therm }
    rootClks s = true ∧ s.therm.slot = none ∧ (sen s 0).due = 0 ∧
    (List.range 8).all (fun m => m == 0 || (dThermal? s m).isNone) = true ∧ (after .tfeSlotStart s).therm.slot = some 0 ∧
    (after .tfeSlotStart s).therm.window = 167 + 52000 + 8000 ∧ (sen (after .tfeSlotStart s) 0).due = 100000000) ∧
    (after .tfeSlotStart { warm (fun y => { y with due := 1 }) with therm :=
      { ready.therm with sensors := vmod ready.therm.sensors 0 fun y => { y with due := 1 } } }).therm.slot = none := by decide +kernel

/-- R582 to R584, R591: one sample gives no reading; 671 each way is 0.9999 Ω, -0.03 °C; 805 is above 50 °C and 860 above 66 °C. -/
theorem test_windowEnd : windowBits 1000 = 1024 ∧ (sen (after (.tfeWindowEnd ⟨671, []⟩) (fast 85334 id)) 0).lastX = some 671 ∧
    (sen (after (.tfeWindowEnd ⟨671, []⟩) (fast 85334 id)) 0).reading = none ∧
    (sen (after (.tfeWindowEnd ⟨671, []⟩) (fast 85333 id)) 0).lastX = none ∧
    (sen (sampled 671 .clear) 0).reading = some (-1) ∧ (sen (sampled 671 .clear) 0).orient = true := by decide +kernel

theorem test_windowEnd_levels : (sen (sampled 805 .clear) 0).level = .raised ∧ (sen (sampled 805 .clear) 0).crossings = [85334] ∧
    (sen (sampled 671 .clear) 0).level = .clear ∧ (sen (sampled 860 .clear) 0).level = .overs ∧
    (sen (sampled 671 .raised) 0).level = .clear ∧ (sen (sampled 805 .overs) 0).level = .raised := by decide +kernel

theorem test_windowEnd_faulted : (sen (sampled 8220836 .raised) 0).reading = some (-32768) ∧
    (sen (sampled 8220836 .raised) 0).level = .raised ∧ (sen (sampled 8220836 .raised) 0).cFault = 1 := by decide +kernel

/-- R588: BLANK high from 100 ns to 250 ns drops bits 1 to 3 of 83 ns; a point event at 1,000 ns drops bits 12 and 13. -/
theorem test_dropped : (List.range 15).filter (dropped 0 [(100, 250)] [1000]) = [1, 2, 3, 12, 13] := by decide +kernel

/-- R581, R589: N_w is 75,264 bits at 10 S/s; at 1,000 S/s four windows are 341,333.3 ns, and BLANK high throughout feeds no bit. -/
theorem test_windowAbandon : windowBits 10 = 75264 ∧
    (sen (after (.tfeWindowAbandon [(0, 400000)]) (fast 341334 id)) 0).abandoned = 1 ∧
    (after (.tfeWindowAbandon [(0, 400000)]) (fast 341334 id)).therm.chop = 0 ∧
    (sen (after (.tfeWindowAbandon [(0, 400000)]) (fast 341333 id)) 0).abandoned = 0 ∧
    (sen (after (.tfeWindowAbandon []) (fast 341334 id)) 0).abandoned = 0 := by decide +kernel

theorem test_sensorStale : (sen (after (.sensorStale 0) { warm id with localNs := 400000000 }) 0).stale = true ∧
    (sen (after (.sensorStale 0) { warm id with localNs := 399999999 }) 0).stale = false := by decide +kernel

/-- R593, R594: the sensor's string stops. -/
theorem test_sensorFault : (let s := { strIn .on 40 with
      decl := some { alone with strings := alone.strings.map fun p => (p.1, { p.2 with sensor := 0 }) }
      therm := { ready.therm with sensors := vmod ready.therm.sensors 0 fun y => { y with cFault := 1 } } }
    (dString? s 0).map (fun d => d.sensor) = some 0 ∧ switching (str s 0) = true ∧
    (sen (after (.sensorFault 0) s) 0).level = .overs ∧ (sen (after (.sensorFault 0) s) 0).fault = true ∧
    (str (after (.sensorFault 0) s) 0).st = .fault) := by decide +kernel

/-- R598: 0 °C is 100 + 160 µs, or 1,500 Hz; R599: low when stale. -/
theorem test_safetyOutput : (let s (m : Nat) (st : Bool) : State := { warm (fun y => { y with reading := some 0, stale := st }) with
      decl := some { alone with safety := [(0, m)] } }
    vget (after (.safetyOutputPeriod 0) (s 1 false)).therm.outs 0 = { period := 1000, high := 260 } ∧
    vget (after (.safetyOutputPeriod 0) (s 2 false)).therm.outs 0 = { period := 16000, high := 8000 } ∧
    vget (after (.safetyOutputPeriod 0) (s 1 true)).therm.outs 0 = { period := 0, high := 0 }) := by decide +kernel

/-- One entry: HK_AIN3, 4 cycles, two conversions, either converter. -/
def hkReq (cyc : Nat) : Req := rq 0 0 ([1#8, 0#8, 3#8, 0#8] ++ leBytes 2 cyc ++ [0#8, 1#8, 0#8, 0#8])
def anEntry : HkEntry := { channel := 3, subsel := 0, cycles := 4, gain := 0, avgLog2 := 1, conv := 0 }
theorem test_hkSequence : ready.hk.seq = [] ∧ ready.hk.pos = 0 ∧
    (after (.hkSequence (hkReq 4)) (warm id)).hk.seq = [anEntry] ∧ (after (.hkSequence (hkReq 4)) (warm id)).hk.results = [0] ∧
    verdict (after (.hkSequence (hkReq 4)) (warm id)) = some (0, 0, 0) ∧
    verdict (after (.hkSequence (hkReq 3)) (warm id)) = some (5, 0, 0) := by decide +kernel

def sequenced (n : Nat) : State :=
  { warm id with
    localNs := 500
    hk := { ready.hk with
      seq := [anEntry], results := [7], pos := 1
      runs := vset ready.hk.runs 0 (some { idx := 0, count := n, sum := 100, since := some 0 }) } }

/-- R603: (100 + 101) × 16 / 2. -/
theorem test_hkConversionEnd : (after (.hkConversionEnd 0 101) (sequenced 1)).hk.results = [1608] ∧
    vget (after (.hkConversionEnd 0 101) (sequenced 0)).hk.runs 0 = some { idx := 0, count := 1, sum := 201, since := some 500 } ∧
    lastReply (after (.hkRead (rq 0 0 [])) (sequenced 0)) = some (0, 0, leBytes 2 7) ∧
    (after (.hkSequence (hkReq 4)) (sequenced 0)).hk.next = some [anEntry] := by decide +kernel

/-- R606, R608: channel 25 twice outside its window of 100 to 200, channels 26 and 27 within theirs. -/
def supervised (n : Nat) : State :=
  { warm id with
    localNs := 4000
    limit := { ceilingLock := true, entries :=
      [{ key := .supLow 25, ceiling := 100, inForce := 100 }, { key := .supHigh 25, ceiling := 200, inForce := 200 }] }
    hk := { ready.hk with sup := vset ready.hk.sup 1 { out := n, inside := 0, latest := 0 } } }
def urgently (n : Nat) : State :=
  { supervised n with hk := { (supervised n).hk with urgent := vset ready.hk.urgent 1 (some 25) } }
theorem test_supervisor : rootClks (supervised 1) = true ∧ limitOf (.supLow 25) (supervised 1) = 100 ∧ supResult 1 201 = 201 ∧
    rootClks { supervised 1 with clk := {} } = false ∧
    bit (supStep false 1 201 (supervised 1)).hk.breached 1 = true ∧ (supStep false 1 201 (supervised 1)).pins.faultLow = true ∧
    bit (supStep false 1 201 (supervised 0)).hk.breached 1 = false ∧ (vget (supStep false 1 150 (supervised 1)).hk.sup 1).out = 0 := by
  decide +kernel

theorem test_urgentConversion : (let t := after (.urgentConversionEnd 1 150) (urgently 1)
    vget t.hk.urgent 1 = none ∧ (vget t.hk.sup 1).latest = 150 ∧ (vget t.hk.sup 1).inside = 1) ∧
    bit (after (.urgentConversionEnd 1 99) (urgently 1)).hk.breached 1 = true := by decide +kernel

/-! ### The area cameras -/

/-- The root clocks run; receiver 0 (64 by 64, 8 bits) as `g` makes it. -/
def camera (g : CamRx → CamRx) : State :=
  { ready with clk := { ready.clk with pllLocked := true }, cam := { ready.cam with rx := vmod ready.cam.rx 0 g } }
def armedCam (g : CamRx → CamRx) : State := camera fun r => g { r with armed := true }
def thresh (v : Nat) : List Byte := leBytes 2 7 ++ leBytes 2 4 ++ leBytes 4 v

/-- R630, R631. -/
theorem test_camConfig : ctxRunning (camera id) 1 = false ∧ covered (camera id) 10 1 = true ∧
    (let t := after (.camConfig (rq 0x2801 0 (thresh 9))) (camera id)
     (camCtx t 1).thresh = 9 ∧ (camCtx t 1).seq = 1 ∧ (camCtx t 0).seq = 0 ∧ verdict t = some (0, 0, 0)) ∧
    verdict (after (.camConfig (rq 0x2801 0 (thresh 1048576))) (camera id)) = some (5, 0, 0) ∧
    verdict (after (.camConfig (rq 0x2800 0 (thresh 9))) (armedCam id)) = some (11, 0, 0) := by decide +kernel

/-- R632: MATRIX (section 8) with two coefficients of 1.0 swapped; an OFFSET out of range. -/
def matrixBody (o : Nat) : List Byte :=
  leBytes 2 0 ++ leBytes 2 4096 ++ leBytes 2 0 ++ leBytes 2 4096 ++ leBytes 6 0 ++ leBytes 2 0 ++ leBytes 2 4096 ++ leBytes 2 0 ++
    leBytes 4 o ++ leBytes 8 0
theorem test_camConfig_matrix : sectionLen 8 = some (matrixBody 5).length ∧ (putSection {} 8 (matrixBody 5)).isSome = true ∧
    putSection {} 8 (matrixBody 1048576) = none ∧
    (camCtx (after (.camConfig (rq 0x2801 0 (leBytes 2 8 ++ leBytes 2 32 ++ matrixBody 5))) (camera id)) 1).matrix =
      [0, 4096, 0, 4096, 0, 0, 0, 0, 4096] := by decide +kernel

/-- R165: the same section, uploaded. -/
def camUpload : Req :=
  { rq 0x2801 1 ([5#8, 0#8, 0#8, 0#8] ++ leBytes 4 8 ++
      wordBytes (crc32 (thresh 9))) with upload := [{ host := List.replicate 32 0#8, data := thresh 9, ok := true }] }
def uploadCam : State :=
  { camera id with host := { (camera id).host with rings := vmod (camera id).host.rings 5 fun _ => ring uploading 5 } }
theorem test_camConfig_upload : layLen uploadFields = camUpload.payload.length ∧ layZero uploadFields camUpload.payload = true ∧
    (upload 0 { verb := 0x0A01#16, req := camUpload } uploadCam).1 = .inr (thresh 9) ∧
    (camCtx (after (.camConfig camUpload) uploadCam) 1).thresh = 9 := by decide +kernel

def startReq (n k : Nat) : Req := rq (0x2400 + n) 0 ([b8 k, 0#8] ++ leBytes 2 0)
/-- A second camera, so that one may hold the other's context. -/
def twoCameras : State :=
  { armedCam id with decl := some { alone with cameras := alone.cameras ++ [(1, ((dCamera? ready 0).getD default))] } }
theorem test_camStart : ready.power.trans = .none ∧ ready.power.present = .run ∧ camW (camera id) 0 = 64 ∧ layLen [.u 1, .u 2] = 4 ∧
    (let t := after (.camStart (startReq 0 2)) (camera id)
     (camRx t 0).armed = true ∧ (camRx t 0).ctx = 2 ∧ (camRx t 0).stripe = none) ∧
    (camRx (after (.camStart (startReq 0 2)) (armedCam fun r => { r with number := 6 })) 0).switch = some (2, none, 7) ∧
    verdict (after (.camStart (startReq 1 0)) twoCameras) = some (2, 0, 0) ∧
    (camRx (after (.camStart (rq 0x2400 1 ([2#8, 0#8] ++ leBytes 2 64))) (camera id)) 0).stripe = some 64 := by decide +kernel

/-- A frame of one exposure with so many rows. -/
def frameOf (rows : Nat) : CamFrame :=
  { (default : CamFrame) with number := 6, exps := [{ begun := true, ended := false, rows := List.replicate rows (List.replicate 64 256) }] }
def within6 (rows : Nat) : State := armedCam fun r => { r with number := 6, cur := some (frameOf rows) }

theorem test_camStop : (camRx (camera id) 0).armed = false ∧ verdict (after (.camStop (rq 0x2400 0 [])) (camera id)) = some (0, 0, 0) ∧
    (armedCam id).fw.busy = none ∧ (armedCam id).fw.urgBusy = none ∧
    (camRx (after (.camStop (rq 0x2400 0 [])) (armedCam id)) 0).armed = false ∧
    (camRx (after (.camStop (rq 0x2400 0 [])) (within6 0)) 0).stopping = true := by decide +kernel

/-- R648: L is 1: FRAME is at least 2 before any frame, and 9 after frame 6. -/
def sensorReq (f : Nat) : Req := rq 0x2400 0 (leBytes 4 f ++ [1#8, 0#8, 0#8, 0#8] ++ leBytes 4 77)
theorem test_camSensor : layLen [.u 4, .u 1, .u 4] = (sensorReq 2).payload.length ∧ latency (armedCam id) 0 true = 1 ∧
    (armedCam id).fw.deferred = [] ∧
    (camRx (after (.camSensor (sensorReq 2)) (armedCam id)) 0).settings =
      [{ gain := true, frame := 2, value := 77, started := false, ended := false }] ∧
    verdict (after (.camSensor (sensorReq 2)) (armedCam id)) = some (9, 0, 0) ∧
    verdict (after (.camSensor (sensorReq 8)) (armedCam fun r => { r with lastFrame := some 6 })) = some (5, 0, 0) := by decide +kernel

theorem test_frameStart : rxRuns (armedCam id) 0 = true ∧ vcExposure (camCtx (armedCam id) 0) 0 = some 0 ∧
    (camRx (after (.frameStart 0 0 0) (camera id)) 0).cur = none ∧ (camRx (after (.frameStart 0 0 2) (camera id)) 0).counts.eccBad = 1 ∧
    ((camRx (after (.frameStart 0 0 0) (armedCam id)) 0).cur.map fun f => (f.number, f.dropped)) = some (1, false) ∧
    ((camRx (after (.frameStart 0 0 0) (armedCam fun r => { r with inputs := [frameOf 1, frameOf 1] })) 0).outQ.map
      fun o => (o.number, o.cause)) = [(1, 1)] := by decide +kernel

/-- A context of two exposures. -/
def two (s : State) : State := { s with cam := { s.cam with ctx := vmod s.cam.ctx 0 fun c => { c with exposures := 2 } } }
def frame2 : CamFrame := { frameOf 0 with exps := [{ begun := true, ended := false, rows := [] }, { begun := false, ended := false, rows := [] }] }
theorem test_frameStart_second : (let s := two (armedCam fun r => { r with cur := some frame2 })
    vcExposure (camCtx s 0) 1 = some 1 ∧
    ((camRx (after (.frameStart 0 1 0) s) 0).cur.map fun f => f.exps.map CamExp.begun) = some [true, true] ∧
    ((camRx (after (.frameEnd 0 0 0) s) 0).cur.map fun f => f.exps.map CamExp.ended) = some [true, false]) := by decide +kernel

def aRow : List Nat := List.replicate 64 3
/-- R614: 8-bit samples stand in bits 15 to 8; R618: row 2 with a bad CRC is row 0. -/
theorem test_cameraRow : rawType 8 = 0x2A ∧ (frameOf 0).dropped = false ∧
    ((camRx (after (.cameraRow 0 0 0x2A 64 aRow true 0) (within6 0)) 0).cur.bind fun f => f.exps.head?.map CamExp.rows) =
      some [List.replicate 64 768] ∧
    ((camRx (after (.cameraRow 0 0 0x2A 64 aRow false 0) (within6 2)) 0).cur.map fun f => (f.flags, f.exps.map CamExp.rows)) =
      some (16, [List.replicate 3 (List.replicate 64 256)]) ∧
    (camRx (after (.cameraRow 0 0 0x2A 64 aRow false 0) (within6 2)) 0).counts.rowCrc = 1 ∧
    (camRx (after (.cameraRow 0 0 0x2A 64 aRow true 0) (armedCam id)) 0).counts.stray = 1 := by decide +kernel

set_option maxRecDepth 20000 in
theorem test_frameEnd : camH (within6 64) 0 = 64 ∧ (camRx (after (.frameEnd 0 0 0) (within6 64)) 0).cur = none ∧
    ((camRx (after (.frameEnd 0 0 0) (within6 64)) 0).inputs.map fun f => f.number) = [6] ∧
    (after (.frameEnd 0 0 0) (within6 64)).cam.unit = some 0 := by decide +kernel

theorem test_frameTimeout : (camCtx (within6 0) 0).timeoutMs = 1000 ∧ (camRx (after (.frameTimeout 0) (within6 0)) 0).cur.isSome = true ∧
    (let t := after (.frameTimeout 0) { within6 0 with localNs := 1000000000 }
     (camRx t 0).cur = none ∧ (camRx t 0).outQ.map (fun o => (o.number, o.cause)) = [(6, 3)]) := by decide +kernel

theorem test_fifoOverflow : ((camRx (after (.inputFifoOverflow 0) (within6 2)) 0).cur.map CamFrame.dropped) = some true ∧
    (camRx (after (.inputFifoOverflow 0) (within6 2)) 0).outQ.map (fun o => (o.number, o.cause)) = [(6, 2)] := by decide +kernel

theorem test_csi : (camRx (after (.csiDeskew 0) (camera id)) 0).deskews = 1 ∧
    (camRx (after (.csiUlps 0 true) (camera id)) 0).ulps = true := by decide +kernel

def piped (stripe : Option Nat) : State :=
  let s := armedCam fun r => { r with inputs := [{ frameOf 1 with stripe := stripe }] }
  { s with cam := { s.cam with unit := some 0 } }
theorem test_pipelineUnitEnd : unitsOf (frameOf 1) 64 = 1 ∧ unitsOf { frameOf 1 with stripe := some 32 } 64 = 2 ∧
    (camRx (after .pipelineUnitEnd (piped none)) 0).outQ.map (fun o => (o.number, o.cause)) = [(6, 0)] ∧
    (camRx (after .pipelineUnitEnd (piped none)) 0).inputs.length = 0 ∧
    (camRx (after .pipelineUnitEnd (piped (some 32))) 0).inputs.map CamFrame.units = [1] := by decide +kernel

/-- A drop chunk waits on CAMERA0 (stream 8). -/
def dropChunk : CamOut := { (default : CamOut) with number := 6, cause := 3, format := 255 }
def chunky : State := reachable (armedCam fun r => { r with outQ := [dropChunk] }) 3 8
theorem test_chunkDelivery : (deliverable chunky 0).map CamOut.number = some 6 ∧ ringOf chunky 8 = some 3 ∧
    ringReady (ring chunky 3) = true ∧ hostReach chunky = true ∧ nextChunk dropChunk 63 = none ∧
    (nextChunk dropChunk 64).map (fun x => (x.1.length, x.2.2)) = some (64, true) ∧
    (camRx (after (.cameraChunkDelivery 0 (descOf 64)) chunky) 0).outQ = [] ∧
    (ring (after (.cameraChunkDelivery 0 (descOf 64)) chunky) 3).head = 1#16 ∧
    (camRx (after (.cameraChunkDelivery 0 (descOf 63)) chunky) 0).outQ.length = 1 := by decide +kernel

def writing (n : Nat) : State :=
  let s := armedCam fun r => { r with settings := [{ gain := true, frame := 9, value := 77, started := true, ended := false }] }
  { s with cam := { s.cam with bus := [{ rx := 0, gain := true, frame := 9, value := 77, tries := n }] } }
theorem test_sensorWriteEnd : (camRx (after (.sensorWriteEnd true) (writing 1)) 0).settings.map CamSetting.ended = [true] ∧
    (after (.sensorWriteEnd true) (writing 1)).cam.bus = [] ∧
    (after (.sensorWriteEnd false) (writing 2)).cam.bus.map CamWrite.tries = [3] ∧
    (camRx (after (.sensorWriteEnd false) (writing 3)) 0).settings = [] ∧
    (camRx (after (.sensorWriteEnd false) (writing 3)) 0).gainFail = some 9 := by decide +kernel

/-! ### The Prism link -/

/-- Node 7 of the board, its one port as given: a root, or a node whose incident port it is. -/
def node7 (st : PJoin) (root : Bool) (x : PrismPort) : State :=
  { ready with
    clk := { ready.clk with pllLocked := true }
    decl := some board
    prism := { ready.prism with
      cfg := some { nodeId := 7, root := root, ports := 1, expect := 2, systemId := 99 }
      root := root, incident := if root then none else some 0, join := st, expect := 2, ports := vset ready.prism.ports 0 x } }

def live (st : PrismSt) : PrismPort := { enabled := true, st := st, helloSent := true }
/-- A root with a child, node 3; and a node under a root. -/
def child3 : PAgg := { nodes := 1, leastNode := 3, readiness := 1, andFlags := 7, orFlags := 0, minMinor := 0, maxDepth := 1 }
def live' : PrismPort := live .joined
def root7 : State := node7 .joined true { live .joined with ids := [3], childId := some 3, child := some child3 }
def leaf7 : State := node7 .joined false { live .joined with delays := [0] }

/-- R664, R666: a message with the first SEQ, from `src` to `dst`, and its 34 code groups. -/
def wireBytes (type src dst : Nat) (body : List Byte) : List Byte :=
  pBytes 0 0 0 false { type := type, src := src, dst := dst, body := pBody body }
def rxOf (b : List Byte) : PrismRx := { pos := false, groups := coded false (somToEom b) }
def wire (type src dst : Nat) (body : List Byte) : PrismRx := rxOf (wireBytes type src dst body)
/-- K28.5 four times in the code group of negative running disparity; and nothing received. -/
def garbage : PrismRx := { pos := true, groups := List.replicate 4 (codeOf false symIdle) }
def silence : PrismRx := { pos := false, groups := [] }

/-- Types and destinations of the messages a port owes. -/
def owes (t : State) : List (Nat × Nat) :=
  ((pport t 0).unacked.map fun x => (x.2.1.type, x.2.1.dst)) ++ (pport t 0).queue.map fun m => (m.type, m.dst)

theorem test_comes : prismMessage (wire 1 3 0xFFFE []) = some (wireBytes 1 3 0xFFFE []) ∧ (wireBytes 1 3 0xFFFE []).length = 32 ∧
    crc32 ((wireBytes 1 3 0xFFFE []).take 28) = w32 (uAt (wireBytes 1 3 0xFFFE []) 28 4) ∧ uAt (wireBytes 1 3 0xFFFE []) 0 1 = 1 ∧
    uAt (wireBytes 1 3 0xFFFE []) 2 2 = (pport leaf7 0).rxSeq ∧ rootClks leaf7 = true ∧ portLive (pport leaf7 0) = true ∧
    pDownPorts leaf7 = [] ∧ pDownPorts root7 = [0] ∧ nodeId root7 = 7 := by decide +kernel

def device (mods : Nat) (b : List Byte) : Req := rq 0 mods b
theorem test_prismJoin : (let t := after (.prismJoin (device 0 [])) (node7 .off true {})
      t.prism.join = .joined ∧ (pport t 0).enabled = true ∧ t.prism.joinAt = some 0 ∧ t.fw.busy.isSome = true) ∧
    nodesPresent root7 = 2 ∧ nodesPresent (node7 .off true {}) = 1 ∧ verdict (after (.prismJoin (device 0 [])) root7) = some (0, 0, 0) ∧
    (after (.prismJoin (device 0 [])) (node7 .off false {})).prism.join = .linking ∧
    verdict (after (.prismJoin (device 0 [])) leaf7) = some (0, 0, 0) ∧ dPrism? ready = none ∧
    verdict (after (.prismJoin (device 0 [])) ready) = some (11, 0, 0) := by decide +kernel

theorem test_prismLeave : pport (after (.prismLeave (device 0 [])) root7) 0 = {} ∧
    (after (.prismLeave (device 0 [])) root7).prism.join = .off ∧ (after (.prismLeave (device 0 [])) root7).prism.minors = [] := by
  decide +kernel

/-- R696, R698: TIME_MARK at 8 µs; not a nanosecond sooner. -/
def rootCap : State := { root7 with line := { root7.line with st := .capturing } }
theorem test_prismSchedule : sysNs rootCap = 0 ∧ rootCap.fw.deferred = [] ∧
    owes (after (.prismSchedule (device 1 (leBytes 8 8000 ++ leBytes 4 5))) rootCap) = [(10, 0xFFFF)] ∧
    verdict (after (.prismSchedule (device 1 (leBytes 8 8000 ++ leBytes 4 5))) rootCap) = some (9, 0, 0) ∧
    verdict (after (.prismSchedule (device 1 (leBytes 8 7999 ++ leBytes 4 5))) rootCap) = some (5, 0, 0) := by decide +kernel

/-- A SYS.PING of two bytes, tag 9, as a packet. -/
def pingPacket : List Byte :=
  let h := leBytes 2 9 ++ leBytes 2 0x0101 ++ leBytes 4 0 ++ leBytes 2 2 ++ [0#8, 0#8]
  h ++ wordBytes (crc32 (h ++ [0xAB#8, 0xCD#8])) ++ [0xAB#8, 0xCD#8]
theorem test_prismRelay : packetLen pingPacket = 18 ∧ pingPacket.length = 18 ∧ packetCheck 4080 0 pingPacket = none ∧
    pPortOf root7 3 = some 0 ∧ pPortOf root7 4 = none ∧
    owes (after (.prismRelay (device 0 (leBytes 2 3 ++ pingPacket))) root7) = [(16, 3), (16, 3)] ∧
    ((after (.prismRelay (device 0 (leBytes 2 7 ++ pingPacket))) root7).prism.relayQ.map PRelay.bytes) = [pingPacket] ∧
    verdict (after (.prismRelay (device 0 (leBytes 2 4 ++ pingPacket))) root7) = some (11, 0x0105, 0) ∧
    verdict (after (.prismRelay (device 0 (leBytes 2 3 ++ pingPacket))) (node7 .off true {})) = some (11, 0, 0) := by decide +kernel

theorem test_prismSwap : swapPort root7 0 = true ∧ swapDepthOk root7 0 = true ∧ covered root7 12 0 = true ∧
    owes (after (.prismSwap (rq 0x3000 0 [])) root7) = [(17, 0xFFFE)] ∧
    (pport (after (.prismSwap (rq 0x3000 0 [])) root7) 0).swap = .asked ∧ swapPort (node7 .joined true (live .linked)) 0 = false ∧
    verdict (after (.prismSwap (rq 0x3000 0 [])) (node7 .joined true (live .linked))) = some (11, 0, 0) := by decide +kernel

/-- R692: node 7, depth 0, a joined root, two nodes. -/
theorem test_prismStatus : (lastReply (after (.prismStatus (device 0 [])) root7)).map (fun p => (p.1, p.2.2.take 8, p.2.2.length)) =
    some (0, [7#8, 0#8, 0#8, 8#8, 2#8, 0#8, 0#8, 0#8], 24) := by decide +kernel

theorem test_nop : (pport (after (.nop 0 (wire 1 3 0xFFFE [])) leaf7) 0).rxSeq = 1 ∧
    (pport (after (.nop 0 (rxOf ((wireBytes 1 3 0xFFFE []).set 30 0#8))) leaf7) 0).rxSeq = 0 ∧
    (pport (after (.nop 0 (wire 1 3 0xFFFE [])) (node7 .joined false { live .joined with rxSeq := 65535 })) 0).rxSeq = 65535 := by
  decide +kernel

/-- One message sent `k` times and not acknowledged. -/
def unacked (k : Nat) : State :=
  node7 .joined false { live .joined with txSeq := 1, unacked := [(0, { type := 1, src := 7, dst := 0xFFFE, body := pBody [] }, k, 0)] }
/-- R664: a NAK sequence of SEQ 0. -/
def aNak : PrismRx := { pos := false, groups := coded false (nakSymbols 0) }
theorem test_nak : nakSeq aNak = some 0 ∧ (pport (after (.nak 0 aNak) (unacked 15)) 0).tx.again = [0] ∧
    (pport (after (.nak 0 aNak) (unacked 16)) 0).st = .down ∧
    (pport (after (.retransmitTimeout 0) { unacked 1 with localNs := 1000 }) 0).tx.again = [0] ∧
    (pport (after (.retransmitTimeout 0) { unacked 1 with localNs := 999 }) 0).tx.again = [] := by
  decide +kernel

/-- R664: SOM goes once two IDLEs have; the message sent again bears its old number and is counted. -/
def idled (x : PrismPort) : State := node7 .joined false { x with tx := { x.tx with idles := 2 } }
theorem test_pSlot : (pport (pSlot 9 (idled live') 0) 0).tx.cur = [] ∧
    (pport (pSlot 9 (idled { live' with queue := [{ type := 1, src := 7, dst := 0xFFFE, body := pBody [] }] }) 0) 0).tx.cur.length = 33 ∧
    ((pport (pSlot 9 (idled { live' with unacked := (pport (unacked 3) 0).unacked, tx := { again := [0] } }) 0) 0).unacked.map
      fun x => x.2.2.1) = [4] ∧
    (pSlot 9 (idled live') 0).outbox.getLast? = some (.prismGroup 0 (codeOf false symIdle)) := by decide +kernel

theorem test_timers : (pport leaf7 0).queue = [] ∧ owes (after (.nopTimer 0) { leaf7 with localNs := 10000 }) = [(1, 0xFFFE)] ∧
    owes (after (.delayReqTimer 0) { leaf7 with localNs := 1000000 }) = [(5, 0xFFFE)] ∧
    (pport (after (.delayReqTimer 0) { leaf7 with localNs := 1000000 }) 0).delayAt = 1000000 := by decide +kernel

theorem test_helloTimer : (let t := after (.helloTimer 0) { node7 .off true { enabled := true } with localNs := 70 }
    ((pport t 0).tx.raw.map PMsg.type) = [2] ∧ (pport t 0).helloAt = 70 ∧ (pport t 0).helloSent = false ∧
    (pport (pStart 0 0 t) 0).helloSent = true ∧ (pport t 0).st = .down) := by decide +kernel

/-- R672: the right system and the other role link; the wrong system is foreign. -/
def helloOf (sys : Nat) : PrismRx := wire 2 3 0xFFFE (leBytes 4 sys ++ [0#8, 0#8, 0#8, 255#8])
def hearing (sent : Bool) : State := node7 .off true { enabled := true, helloSent := sent }
theorem test_hello : pRefracted (hearing true) 0 = true ∧ (pport (after (.hello 0 (helloOf 99)) (hearing true)) 0).st = .linked ∧
    (pport (after (.hello 0 (helloOf 98)) (hearing true)) 0).st = .foreign ∧
    (pport (after (.hello 0 (helloOf 99)) (hearing false)) 0).st = .down ∧
    (pport (after (.hello 0 (helloOf 99)) (hearing false)) 0).hello.isSome = true := by decide +kernel

/-- R670: four code errors in 1,024 code groups, or no message applied for 100 µs. -/
theorem test_portDown : codeErrors prismSyms garbage.pos garbage.groups = 4 ∧ (pport leaf7 0).appliedAt = 0 ∧
    (after (.portDown 0 garbage) leaf7).prism.join = .linking ∧ (after (.portDown 0 garbage) leaf7).prism.orphan = true ∧
    (pport (after (.portDown 0 silence) { root7 with localNs := 100000 }) 0).ids = [] ∧
    (pport (after (.portDown 0 silence) { root7 with localNs := 99999 }) 0).ids = [3] := by decide +kernel

/-- R674, R675: node 4, major 0, minor 2, depth 1. -/
def joinOf (major : Nat) : PrismRx := wire 3 4 0xFFFD (leBytes 2 4 ++ [b8 major, 2#8, 1#8])
def rootLinked : State := node7 .joined true (live .linked)
theorem test_joinReq : fwMajor rootLinked = 0 ∧ pPortOf rootLinked 4 = none ∧
    (let t := after (.joinReq 0 (joinOf 0)) rootLinked
     (pport t 0).st = .joined ∧ (pport t 0).ids = [4] ∧ t.prism.minors = [(4, 2)] ∧ (owes t).head? = some (4, 4)) ∧
    (pport (after (.joinReq 0 (joinOf 1)) rootLinked) 0).ids = [] := by decide +kernel

/-- A node with a port above and a port below. -/
def middle : State :=
  { leaf7 with prism := { leaf7.prism with ports := vset (vset leaf7.prism.ports 0 (live .joined)) 1 (live .linked) } }
theorem test_joinReq_forwarded : (let t := after (.joinReq 1 (joinOf 0)) middle
    t.prism.joining = [(4, 1)] ∧ owes t = [(3, 0xFFFD)]) := by decide +kernel

def asking : State := node7 .asked false (live .linked)
theorem test_joinAns : (after (.joinAns 0 (wire 4 3 7 (leBytes 2 7 ++ [0#8, 2#8]))) asking).prism.join = .answered false false ∧
    (after (.joinAns 0 (wire 4 3 7 (leBytes 2 7 ++ [0#8, 2#8]))) asking).prism.depth = 2 ∧
    (after (.joinAns 0 (wire 4 3 7 (leBytes 2 7 ++ [3#8, 2#8]))) asking).prism.join = .off := by decide +kernel

theorem test_leave : (let t := after (.leave 0 (wire 0x13 3 0xFFFD (leBytes 2 3))) root7
    (pport t 0).ids = [] ∧ (pport t 0).st = .linked) := by decide +kernel

theorem test_joinTimeout : (let s := { node7 .linking false {} with localNs := 60000000000 }
    (after .joinTimeout { s with prism := { s.prism with joinAt := some 0 } }).prism.join = .off) := by decide +kernel

/-- R664, R679: the message of 34 code groups began 141 2/3 ns before system time 0, which is T4 = -2,267 in 1/16 ns; T1 is 100. -/
theorem test_delays : owes (after (.delayReq 0 (wire 5 3 0xFFFE [])) leaf7) = [(6, 0xFFFE)] ∧
    (pport (after (.delayResp 0 (wire 6 3 0xFFFE [])) (node7 .joined false { live .joined with t1 := some 100 })) 0).delays = [-2367] := by
  decide +kernel

theorem test_timeTimer : (let s := { root7 with time := { root7.time with sys := 1000000 * 2 ^ 32 } }
    owes (after .timeTimer s) = [(7, 0xFFFE)] ∧ (after .timeTimer s).prism.timeAt = 1000000 ∧
    (let u := { s with prism := { s.prism with ports := vmod s.prism.ports 0 fun x => { x with swap := .agreed } } }
     (after .timeTimer u).prism.root = false ∧ (after .timeTimer u).prism.depth = 1)) := by decide +kernel

/-- R680 to R682: the parent's TIME of 0 began 141 2/3 ns before system time 500 ns: θ is 5,733/16 ns, and is slewed; at 5,000 ns the
time is stepped back by it. -/
def timeMsg : PrismRx := wire 7 3 0xFFFE (leBytes 12 0 ++ [0#8])
theorem test_time : (let s (ns : Nat) : State := { leaf7 with time := { leaf7.time with sys := ns * 2 ^ 32 } }
    uAt (pMsg timeMsg) 10 8 = 0 ∧ (after (.time 0 timeMsg) (s 500)).prism.offset = 358 ∧ (after (.time 0 timeMsg) (s 500)).prism.depth = 1 ∧
    sysNs (after (.time 0 timeMsg) (s 500)) = 500 ∧ (after (.time 0 timeMsg) (s 500)).time.slew = -5733 / 256000000 ∧
    sysNs (after (.time 0 timeMsg) (s 5000)) = 141 ∧ (after (.time 0 timeMsg) (s 5000)).prism.offset = 0) := by decide +kernel

theorem test_state : owes (after .stateTimer leaf7) = [(8, 0xFFFE)] ∧ leaf7.prism.sentAgg = none ∧
    ((pport (after (.state 0 (wire 8 3 0xFFFE (leBytes 2 5 ++ leBytes 2 3 ++ [1#8]))) root7) 0).child.map fun a =>
      (a.nodes, a.leastNode, a.readiness)) = some (5, 3, 1) := by decide +kernel

def agreeMsg : PrismRx := wire 9 1 0xFFFF (leBytes 8 5 ++ leBytes 2 2 ++ [0#8, 0#8])
theorem test_agree : ((after (.agree 0 agreeMsg) leaf7).prism.agree.map fun a => (a.digest, a.expect)) = some (5, 2) ∧
    pDst (pMsg agreeMsg) = 0xFFFF ∧ (after (.agree 0 agreeMsg) (node7 (.answered true false) false (live .joined))).prism.join = .joined := by
  decide +kernel

theorem test_swaps : owes (after (.swapReq 0 (wire 0x11 3 0xFFFE (leBytes 2 3))) root7) = [(18, 0xFFFE)] ∧
    (pport (after (.swapReq 0 (wire 0x11 3 0xFFFE (leBytes 2 3))) root7) 0).swap = .agreed ∧
    (pport (after (.swapReq 0 (wire 0x11 3 0xFFFE (leBytes 2 3))) rootCap) 0).swap = .none ∧
    (let s := node7 .joined true { live .joined with swap := .asked }
     (pport (after (.swapAns 0 (wire 0x12 3 0xFFFE (leBytes 2 7 ++ [0#8]))) s) 0).swap = .agreed ∧
     (pport (after (.swapAns 0 (wire 0x12 3 0xFFFE (leBytes 2 7 ++ [2#8]))) s) 0).swap = .none) := by decide +kernel

/-- R693: FIRST 10, COUNT 5, RUN 4, speed 0. The digest agrees with the root's. -/
def armMsg : PrismRx := wire 0x0B 1 0xFFFF (leBytes 4 10 ++ leBytes 4 5 ++ leBytes 2 4 ++ [0#8, 0#8])
def agreed7 : State :=
  { leaf7 with prism := { leaf7.prism with agree := some { digest := systemDigest leaf7, expect := 2, minor := 0, major := 0 } } }
theorem test_arm : firstFail (need (speedOk board 0) stState 0 :: armChecks board false agreed7 ++ nodeChecks agreed7) = none ∧
    (let t := after (.arm 0 armMsg) agreed7
     t.line.st = .armed ∧ t.line.firstLine = 10 ∧ t.prism.run = some 4 ∧ owes t = [(12, 0xFFFE)]) ∧
    (let t := after (.arm 0 armMsg) { leaf7 with line := { leaf7.line with st := .declared } }
     t.line.st = .declared ∧ owes t = [(12, 0xFFFE)]) := by decide +kernel

/-- The root of a system arm in progress. -/
def arming : State :=
  { root7 with
    line := { root7.line with st := .armed }
    prism := { root7.prism with
      run := some 4, armAt := some 0, ownAns := some { armed := 1, failNode := 0xFFFF, detail := 0 }
      prev := some { line := root7.line, streams := [] } } }
def ansMsg (n : Nat) : PrismRx := wire 0x0C 3 0xFFFE (leBytes 2 4 ++ leBytes 2 n ++ leBytes 2 3 ++ leBytes 2 0x0101)
theorem test_armAns : (aggregate arming).nodes = 2 ∧ (after (.armAns 0 (ansMsg 1)) arming).line.st = .armed ∧
    (after (.armAns 0 (ansMsg 1)) arming).prism.armAt = none ∧
    (after (.armAns 0 (ansMsg 0)) arming).prism.run = none ∧ owes (after (.armAns 0 (ansMsg 0)) arming) = [(13, 0xFFFF)] := by
  decide +kernel

theorem test_armTimeout : (let t := after .armTimeout { arming with localNs := 100000000 }
    t.prism.run = none ∧ t.line.st = .ready ∧ owes t = [(13, 0xFFFF)]) := by decide +kernel

/-- A node armed in run 4. -/
def inRun4 : State :=
  { leaf7 with
    line := { leaf7.line with st := .armed, system := true }
    prism := { leaf7.prism with run := some 4, prev := some { line := leaf7.line, streams := [] } } }
theorem test_runMessages : anyPortFailed inRun4 = false ∧
    (after (.unarm 0 (wire 0x0D 1 0xFFFF (leBytes 2 4))) inRun4).line.st = .ready ∧
    (after (.stop 0 (wire 0x0E 1 0xFFFF (leBytes 4 9 ++ leBytes 2 4 ++ [0#8, 1#8]))) inRun4).line.treeStops = [(.endRun, 9)] ∧
    (after (.stop 0 (wire 0x0E 1 0xFFFF (leBytes 4 9 ++ leBytes 2 4 ++ [0#8, 0#8]))) inRun4).line.drain = .stopEnd 0x0403#16 ∧
    (after (.freeze 0 (wire 0x0F 1 0xFFFF (leBytes 8 0 ++ leBytes 2 4))) inRun4).line.st = .frozen := by decide +kernel

def eventMsg (ns kind : Nat) : PrismRx := wire 0x0A 1 0xFFFF (leBytes 8 ns ++ leBytes 4 5 ++ leBytes 2 4 ++ [b8 kind])
theorem test_event : ((after (.event 0 (eventMsg 500 2)) inRun4).prism.events.map PEvent.timeNs) = [500] ∧
    (after (.event 0 (eventMsg 499 2)) inRun4).prism.events = [] ∧ inRun4.line.resuming = false ∧
    (after (.event 0 (eventMsg 500 0)) inRun4).line.start = some (.time 500) := by decide +kernel

theorem test_scheduledEvent :
    (after .scheduledEvent { inRun4 with prism :=
        { inRun4.prism with events := [{ timeNs := 0, line := 5, runId := 4, kind := 1 }] } }).line.treeStops =
      [(.endRun, 5)] ∧
    (after .scheduledEvent { inRun4 with line := { inRun4.line with start := some (.time 0) } }).motion.cmp.g0.isSome = true ∧
    inRun4.motion.cmp.g0 = none ∧ inRun4.line.start = none ∧
    (after .scheduledEvent { inRun4 with fw := { inRun4.fw with deferred :=
      [{ tag := 5#16, verb := 0x0C03#16, obj := 0#16, act := .schedule true 0 5, acted := none }] } }).fw.deferred = [] := by
  decide +kernel

/-- R699: a fragment for another node, the first of two for this one, and the last. -/
def fragMsg (dst frag : Nat) (data : List Byte) : PrismRx := wire 0x10 3 dst (leBytes 2 1 ++ leBytes 2 frag ++ data)
theorem test_relay : owes (after (.relay 0 (fragMsg 8 0 [])) leaf7) = [(16, 8)] ∧ pPortOf leaf7 8 = none ∧
    owes (after (.relay 0 (fragMsg 3 0 [])) root7) = [(16, 3)] ∧
    (let s := after (.relay 0 (fragMsg 7 0 (pingPacket.take 14))) leaf7
     (s.prism.relayIn.map PRelay.bytes) = [pingPacket.take 14] ∧
     (let u := { s with prism := { s.prism with ports := vmod s.prism.ports 0 fun x => { x with rxSeq := 0 } } }
      ((after (.relay 0 (fragMsg 7 0x8001 (pingPacket.drop 14))) u).prism.relayQ.map PRelay.bytes) = [pingPacket])) := by decide +kernel

theorem test_relayExecute : (let s := { root7 with prism := { root7.prism with
      relayQ := [{ src := 3, id := 1, reply := false, bytes := pingPacket }] } }
    s.fw.histRing = [] ∧ s.urg.slot = none ∧
    (let t := after (.relayExecute [] true) s
     t.prism.relayQ = [] ∧ lastReply t = some (0, 0, [0xAB#8, 0xCD#8]) ∧ owes t = [(16, 3), (16, 3)])) := by decide +kernel

/-! ### Power states, wakes, grants and limits -/

/-- `ready` in the power state `f` makes. -/
def powered (f : PowerU → PowerU) : State := { ready with power := f ready.power }

/-- R725: READY with no string on and no axis enabled permits Idle and Doze; Deep standby once a wake source is enabled. -/
def wakeable (p : PowerU → PowerU) : State := { powered p with wake := { ready.wake with enable := 0x11, polarity := 1, i2cAddr := some 0x42 } }

theorem test_powerRequests : hostReach ready = true ∧ ready.power.trans = .none ∧ ready.power.present = .run ∧
    powerRefusal .idle ready = 0 ∧ powerRefusal .doze ready = 0 ∧ powerRefusal .deep ready = 7 ∧
    (after (.powerRequestIdle 0x101#32) ready).power.present = .idle ∧
    (after (.powerRequestIdle 0x101#32) ready).power.autoIdle = true ∧
    (after (.powerRequestDoze 2#32) ready).power.trans = .dozeEntry ∧ (sport (after (.powerRequestDoze 2#32) ready) 0).st = .off ∧
    (after (.powerRequestDeepStandby 3#32) ready).power.refuseReason = 7 ∧
    (after (.powerRequestDeepStandby 3#32) ready).power.request = .run := by decide +kernel

theorem test_powerRequestDeep : hostReach (wakeable id) = true ∧ powerRefusal .deep (wakeable id) = 0 ∧
    (after (.powerRequestDeepStandby 3#32) (wakeable id)).power.trans = .deepEntry ∧
    (after (.powerRequestDeepStandby 3#32) (wakeable id)).wake.retention.isSome = true := by decide +kernel

/-- R725: codes 1 and 2. -/
theorem test_powerRefused : inRun armed = true ∧ powerRefusal .idle armed = 2 ∧
    (after (.powerRequestIdle 1#32) armed).power.refuseReason = 2 ∧ (after (.powerRequestIdle 1#32) armed).power.present = .run ∧
    hostReach { ready with boot := { ready.boot with stage := .failed } } = true ∧
    (after (.powerRequestDoze 2#32) { ready with boot := { ready.boot with stage := .failed } }).power.refuseReason = 1 := by
  decide +kernel

theorem test_powerRequestRun : hostReach (powered fun p => { p with trans := .dozeEntry }) = true ∧
    (after (.powerRequestRun 0#32) (powered fun p => { p with trans := .dozeEntry })).power.stored = some .run ∧
    (after (.powerRequestRun 0#32) (powered fun p => { p with request := .idle, present := .idle })).power.present = .run ∧
    (let t := after (.powerRequestRun 0#32) (powered fun p => { p with request := .doze, present := .doze })
     t.power.trans = .waking ∧ t.wake.cause = 0x180#32) := by decide +kernel

theorem test_dozeDramIdle : fwRunning (powered fun p => { p with trans := .dozeEntry }) = true ∧ ready.power.stored = none ∧
    (let t := after .dozeDramIdle (powered fun p => { p with trans := .dozeEntry })
     t.power.present = .doze ∧ t.power.trans = .none ∧ t.clk.pllLocked = false ∧ t.wake.retention.isSome = true) := by decide +kernel

theorem test_deepStandbyHandshake : (let s := powered fun p => { p with trans := .deepEntry }
    s.rst.d3hot = false ∧ (after .deepStandbyHandshake s).power.present = .run ∧
    (let t := after .deepStandbyHandshake { s with rst := { s.rst with d3hot := true } }
     t.power.present = .deep ∧ t.pins.pwrEnCore = false ∧ t.decl = none ∧ t.line.st = .booted)) := by decide +kernel

def autoState (at0 : Nat) : State := { powered (fun p => { p with autoIdle := true, idleOkSince := some 5 }) with localNs := at0 }
theorem test_autoIdleTimer : powerRefusal .idle (autoState 1000000005) = 0 ∧ (autoState 0).power.request = .run ∧
    (after .autoIdleTimer (autoState 1000000005)).power.present = .idle ∧
    (after .autoIdleTimer (autoState 1000000005)).power.auto = true ∧
    (after .autoIdleTimer (autoState 1000000004)).power.present = .run := by decide +kernel

def autoDozing (at0 : Nat) : State :=
  { powered (fun p => { p with autoDoze := true, auto := true, present := .idle, dozeOkSince := some 5 }) with localNs := at0 }
theorem test_autoDozeTimer : powerRefusal .doze (autoDozing 60000000005) = 0 ∧ dPrism? (autoDozing 0) = none ∧
    (after .autoDozeTimer (autoDozing 60000000005)).power.trans = .dozeEntry ∧
    (after .autoDozeTimer (autoDozing 60000000004)).power.trans = .none := by decide +kernel

/-- R719: the least of 16 slacks. -/
def slacks (x : Int) : List Int := x :: List.replicate 15 40
def looped (x : Int) (bias k : Nat) : PowerU :=
  (after (.adaptiveLoopTick (slacks x))
    { (powered fun p => { p with biasStep := bias, avsDuty := k }) with localNs := 50000 }).power
theorem test_adaptiveLoop : (powered id).clk.pllActive = true ∧ (slacks 5).length = 16 ∧
    (looped 5 14 455).biasStep = 15 ∧ (looped 5 14 455).avsDuty = 455 ∧ (looped 5 15 455).avsDuty = 471 ∧
    (looped 5 15 1010).avsDuty = 1023 ∧ (looped 5 15 1023).avsLimited = true ∧
    (looped 6 3 455) = { ready.power with biasStep := 3, avsDuty := 455, avsAt := 50000 } ∧
    (looped 13 3 455).avsDuty = 439 ∧ (looped 13 3 0).biasStep = 2 ∧ (looped 12 3 455).avsDuty = 455 := by decide +kernel

/-- R732: WAKE_IN0 is enabled, active high. -/
theorem test_wakeInput :
    (let t := after (.wakeInput 0 true 4000) (wakeable fun p => { p with present := .doze, request := .doze })
     t.power.trans = .waking ∧ t.wake.cause = 0x101#32 ∧ t.pins.wakeIn = 1 ∧ t.int.status.getLsbD 9 = true) ∧
    (let t := after (.wakeInput 0 true 999) (wakeable fun p => { p with present := .doze })
     t.power.trans = .none ∧ t.wake.cause = 0#32 ∧ t.pins.wakeIn = 1) ∧
    (let t := after (.wakeInput 0 true 4000) (wakeable fun p => { p with present := .deep })
     t.wake.cause = 0x21#32 ∧ t.pins.pwrEnIo = true ∧ t.pins.pwrEnCore = false ∧ t.power.trans = .waking) := by decide +kernel

theorem test_wakeInput_entry : (let t := after (.wakeInput 0 true 4000) (wakeable fun p => { p with trans := .dozeEntry })
     t.power.trans = .none ∧ t.power.refuseReason = 9 ∧ t.power.present = .run) ∧
    (after (.wakeInput 0 true 4000) (wakeable fun p => { p with trans := .deepEntry })).power.wakeDue = some 1#32 ∧
    (after (.wakeInput 0 true 4000) (wakeable id)).power.trans = .none := by decide +kernel

theorem test_i2cAddressMatch : (after (.i2cAddressMatch 0x42) (wakeable id)).wake.i2cOpen = true ∧
    (after (.i2cAddressMatch 0x43) (wakeable id)).wake.i2cOpen = false ∧
    (let t := after (.i2cAddressMatch 0x42) (wakeable fun p => { p with present := .doze })
     t.power.trans = .waking ∧ t.wake.cause = 0x110#32 ∧ t.wake.i2cOpen = false) := by decide +kernel

def i2cOpened (p : Nat) : State := { ready with wake := { ready.wake with i2cOpen := true, i2cPointer := p, cause := 0x101#32 } }
theorem test_i2cWindow : coreOn (i2cOpened 0) = true ∧ (after (.i2cPointerWrite 0x18#8) (i2cOpened 0)).wake.i2cPointer = 0x18 ∧
    (after .i2cTargetRead (i2cOpened 1)).outbox = [.i2cByte 0x0B#8] ∧ (after .i2cTargetRead (i2cOpened 3)).outbox = [.i2cByte 0x24#8] ∧
    (after .i2cTargetRead (i2cOpened 0x19)).outbox = [.i2cByte 1#8] ∧ (after .i2cTargetRead (i2cOpened 0x14)).outbox = [.i2cByte 0#8] ∧
    (after .i2cTargetRead (i2cOpened 255)).wake.i2cPointer = 0 ∧ (after .i2cTargetRead (i2cOpened 0x20)).outbox = [.i2cByte 0#8] ∧
    (after .i2cSclTimeout (i2cOpened 0)).wake.i2cOpen = false := by decide +kernel

theorem test_wakeBringupEnd : (let s := powered fun p => { p with present := .doze, trans := .waking }
    portsSettled s = true ∧ s.fw.busy = none ∧ s.power.stored = none ∧ s.clk.pllActive = true ∧
    (after .wakeBringupEnd s).power.present = .run ∧ (after .wakeBringupEnd s).power.trans = .none ∧
    (after .wakeBringupEnd s).live.life.dozeWakes = 1 ∧
    (after .wakeBringupEnd { s with ports := vset s.ports 0 {} }).power.present = .doze) := by decide +kernel

theorem test_coreRails : (let s := after .deepStandbyHandshake { powered (fun p => { p with trans := .deepEntry }) with rst :=
    { ready.rst with d3hot := true } }
    let w := { s with power := { s.power with trans := .waking }, pins := { s.pins with pwrEnCore := true } }
    let t := after .coreRailsInRange w
    t.power.present = .run ∧ t.rst.inEffect = none ∧ t.pins.wakeAsserted = true ∧ t.boot.stage ≠ .reset ∧
    t.live.life.deepWakes = 1) := by decide +kernel

/-- `ready` at a local time with these grants. -/
def granted (at0 : Nat) (l : List Grant) : State :=
  { ready with localNs := at0, grants := { ready.grants with grants := l } }
def ramp : Grant := { holder := .axis 0, op := .axisAccel, budget := 0, mw := 100, start := 0, dur := 1000 }

theorem test_grantExpiry : (after .grantExpiry (granted 999 [ramp])).grants.grants = [ramp] ∧
    (after .grantExpiry (granted 1000 [ramp])).grants.grants = [] ∧ driveHolder 0 = ramp.holder ∧
    (drv (after .grantExpiry (granted 1000 [ramp])) 0).noRise = true ∧
    (drv (after .grantExpiry (granted 1000 [ramp])) 1).noRise = false ∧
    (after .grantExpiry (granted 1000 [{ ramp with holder := .port 0, op := .digitizer }])).store.logSeq = ready.store.logSeq + 1 := by
  decide +kernel

/-- A string in STARTING with its target held, which asked last at 0. -/
def heldString (at0 : Nat) (l : List Grant) : State :=
  { strIn .starting 0 with
    localNs := at0
    lamps := vmod (strIn .starting 0).lamps 0 fun x => { x with held := true }
    grants := { lampUp.grants with grants := l, waiting := [(.string 0, .lampRise, 0)] } }

theorem test_grantExpiry_string :
    (str (after .grantExpiry { strIn .starting 0 with grants :=
        { lampUp.grants with grants := [{ ramp with holder := .string 0, op := .lampRise, dur := 0 }] } }) 0).held = true ∧
    (str (strIn .starting 0) 0).st = .starting := by decide +kernel

theorem test_grantRetry : fwRunning (heldString 1000000000 []) = true ∧
    goalMa (heldString 1000000000 []) 0 theString = 1000 ∧ theString.vMax = 10000 ∧ theString.softMs = 10 ∧
    (str (after .grantRetry (heldString 999999999 [])) 0).held = true ∧
    (str (after .grantRetry (heldString 1000000000 [])) 0).held = false ∧
    (after .grantRetry (heldString 1000000000 [])).grants.grants =
      [⟨.string 0, .lampRise, 0, 10000, 1000000000, 110000000⟩] ∧
    (let s := heldString 1000000000 [{ spent with start := 1000000000 }]
     admits s (.string 0) 0 10000 110000000 1000000000 = false ∧
     (str (after .grantRetry s) 0).held = true ∧ (after .grantRetry s).grants.waiting = [(.string 0, .lampRise, 1000000000)]) := by
  decide +kernel

/-- R747: a holder refused from 0 on, that asked last at `l`. -/
def refusedFrom (l at0 : Nat) : State :=
  { ready with localNs := at0, grants := { ready.grants with refusedRuns := [{ holder := .axis 0, budget := 0, since := 0, last := l }] } }
theorem test_grantGuard : vget (after .grantGuardTimer (refusedFrom 990000000 1000000000)).grants.guard 0 = some (.axis 0) ∧
    vget (after .grantGuardTimer (refusedFrom 990000000 999999999)).grants.guard 0 = none ∧
    vget (after .grantGuardTimer (refusedFrom 0 2000000000)).grants.guard 0 = none ∧ vget ready.grants.guard 0 = none := by
  decide +kernel

theorem test_grantRenewal : (after .grantRenewal (granted 0 [ramp])).grants.grants = [{ ramp with dur := 100001000 }] ∧
    (let s := granted 0 [{ ramp with mw := 200000 }]
     (after .grantRenewal s).grants.grants = [] ∧ (drv (after .grantRenewal s) 0).noRise = true) := by decide +kernel

theorem test_storeUpdate : (let s := { ready with localNs := 60000000000, live := { ready.live with life := { ready.live.life with powerOn := 77 } } }
    (after .storeUpdateTimer s).store.lifetime.powerOn = 77 ∧ s.store.lifetime.powerOn = 0) := by decide +kernel

/-- R764: class 1, string 3. -/
theorem test_limitWriteClamp : ready.limit.ceilingLock = true ∧ limitOf (.strI 3) ready = 2000 ∧
    (after (.limitWriteClamp 1 3 2000) ready).limit.breachCount = 0 ∧ (after (.limitWriteClamp 1 3 2001) ready).limit.breachCount = 1 ∧
    (after (.limitWriteClamp 1 3 2001) ready).limit.lastBreach = 0x301#32 := by decide +kernel

/-- The board with ECC on. -/
def eccBoard : State := { ready with decl := some { alone with dram := { alone.dram with ecc := true } } }
theorem test_ecc : eccOn eccBoard = true ∧ eccBoard.line.dram.isSome = true ∧
    (after (.dramEccError 3 1 9 false) eccBoard).dram.fixed = 1 ∧ (after (.dramEccError 3 1 9 false) eccBoard).dram.lastFixed = (3, 1, 9) ∧
    (after (.dramEccError 3 1 9 true) (after (.dramEccError 3 1 9 false) eccBoard)).dram.fixed = 0 ∧
    (let s := { eccBoard with caps := [{ (default : Capture) with index := 9 }] }
     ((after (.dramEccError 2 0 9 true) s).caps.map fun c => c.gap) = [4]) ∧
    (let s := { eccBoard with dram := { eccBoard.dram with fixed := 4 } }
     (after .eccReportTimer s).dram.fixed = 0 ∧ (after .eccReportTimer s).dram.fixedAt = some 0) ∧
    (let s := { eccBoard with dram := { eccBoard.dram with fixed := 4, fixedAt := some 0 } }
     (after .eccReportTimer s).dram.fixed = 4) := by decide +kernel

/-! ### More hypotheses that hold somewhere -/

theorem test_alwaysOn : (after .perstNRise { up with pins := { up.pins with perstHigh := false, wakeAsserted := true } }).pins = up.pins ∧
    quiet { up with pins := { up.pins with perstHigh := false, wakeAsserted := true } } = true ∧
    (after .thermalShutdownRelease { up with rst := { up.rst with thermalHold := true } }).rst.thermalHold = false ∧
    (after .referenceReturn { up with clk := { up.clk with pllTries := 2 } }).clk.pllTries = 0 := by decide +kernel

/-- R772: budget 0 with one grant of 100 mW. -/
theorem test_powerGrants : covered ready 13 0 = true ∧ objKind (h16 0x3400) = 13 ∧
    lastReply (after (.powerGrants (rq 0x3400 0 [])) (granted 0 [ramp])) =
      some (0, 0, leBytes 4 0 ++ leBytes 4 100 ++ leBytes 2 1 ++ leBytes 2 0) ∧
    (lastReply (after (.powerGrants (rq 0 0 [])) (granted 0 [ramp]))).map (fun p => p.2.2.length) = some 12 := by decide +kernel

theorem test_loupeFirmwareResults : (let s := { ready with loupe := { ready.loupe with finalised := [{ (default : Stripe) with number := 7 }] } }
    fwRunning s = true ∧ (after .loupeFirmwareResults s).loupe.finalised = []) := by decide +kernel

/-- R603, R606: without ANA_CLK nothing; with it the hypotheses hold. -/
theorem test_supervisorCycle : rootClks (warm id) = true ∧ (warm id).limit.ceilingLock = true ∧
    rootClks { warm id with clk := { (warm id).clk with pllLocked := false } } = false ∧
    (after (.supervisorCycle 0 0 0 0) { warm id with clk := { (warm id).clk with pllLocked := false } }).hk.sup = ready.hk.sup := by
  decide +kernel

/-! ### Well-formed commands: each check passes at the end of its range and refuses what lies past it -/

theorem smoke_reqOk : wellFormed (.sysPing (rq 0 0 (List.replicate 4080 0#8))) = true ∧
    wellFormed (.sysPing (rq 0 0 (List.replicate 4081 0#8))) = false := by decide +kernel

theorem smoke_reqOk_urgent : wellFormed (.sysPing { rq 0 0 (List.replicate 240 0#8) with chan := .urgent }) = true ∧
    wellFormed (.sysPing { rq 0 0 (List.replicate 241 0#8) with chan := .urgent }) = false := by decide +kernel

theorem smoke_reqOk_relay : wellFormed (.sysPing { rq 0 0 [] with chan := .relay 65532 }) = true ∧
    wellFormed (.sysPing { rq 0 0 [] with chan := .relay 65533 }) = false := by decide +kernel

theorem smoke_urgLenOk : wellFormed (.haltMotion 1#16 0#16 0#16 240) = true ∧
    wellFormed (.haltMotion 1#16 0#16 0#16 241) = false := by decide +kernel

theorem smoke_packetOk : wellFormed (.commandTaken (List.replicate 16 0#8) [] true) = true ∧
    wellFormed (.commandTaken (List.replicate 15 0#8) [] true) = false := by decide +kernel

theorem smoke_descOk : wellFormed (.lineDelivery 3 (descOf 1)) = true ∧
    wellFormed (.lineDelivery 3 (descOf 0)) = false ∧
    wellFormed (.lineDelivery 3 { host := leBytes 8 0x8020 ++ leBytes 8 1 }) = false := by decide +kernel

theorem smoke_upDescOk : wellFormed (.hostImageReceived [{ host := leBytes 8 0x8004 ++ leBytes 8 1, data := [1#8], ok := true }]) = true ∧
    wellFormed (.hostImageReceived [{ host := leBytes 8 0x8004 ++ leBytes 8 0, data := [], ok := true }]) = false ∧
    wellFormed (.hostImageReceived [{ host := leBytes 8 0x8002 ++ leBytes 8 1, data := [1#8], ok := true }]) = false := by decide +kernel

theorem smoke_ringOk : wellFormed (.ringStatusClear 15 0#32) = true ∧
    wellFormed (.ringStatusClear 16 0#32) = false := by decide +kernel

theorem smoke_portOk : wellFormed (.digitizerRunSettle 23) = true ∧
    wellFormed (.digitizerRunSettle 24) = false := by decide +kernel

theorem smoke_laneOk : wellFormed (.prbsLock 23 ⟨3, []⟩) = true ∧
    wellFormed (.prbsLock 23 ⟨4, []⟩) = false := by decide +kernel

theorem smoke_lanesOk : wellFormed (.sopAligned ⟨23, [none, none, none, none]⟩) = true ∧
    wellFormed (.sopAligned ⟨23, [none, none, none]⟩) = false := by decide +kernel

theorem smoke_windowOk : wellFormed (.trainingWindow 0 0 { reg := 0, bits := List.replicate 10240 true }) = true ∧
    wellFormed (.trainingWindow 0 0 { reg := 0, bits := List.replicate 10239 true }) = false := by decide +kernel

theorem smoke_strOk : wellFormed (.overcurrentFault 15) = true ∧
    wellFormed (.overcurrentFault 16) = false := by decide +kernel

theorem smoke_lampsOk : wellFormed (.overvoltageFault 0 [23]) = true ∧
    wellFormed (.overvoltageFault 0 [24]) = false := by decide +kernel

theorem smoke_monOk : wellFormed (.idleMark [{ str := 0, lit := 24, periods := 2, codeSum := 8190, mv := 0 }]) = true ∧
    wellFormed (.idleMark [{ str := 0, lit := 24, periods := 2, codeSum := 8191, mv := 0 }]) = false := by decide +kernel

theorem smoke_encOk : wellFormed (.indexLatch 3) = true ∧
    wellFormed (.indexLatch 4) = false := by decide +kernel

theorem smoke_axisOk : wellFormed (.stall 3) = true ∧
    wellFormed (.stall 4) = false := by decide +kernel

theorem smoke_driveOk : wellFormed (.stepPulse 7) = true ∧
    wellFormed (.stepPulse 8) = false := by decide +kernel

theorem smoke_sensorOk : wellFormed (.sensorFault 7) = true ∧
    wellFormed (.sensorFault 8) = false := by decide +kernel

theorem smoke_codeOk : wellFormed (.supervisorCycle 0 0 0 4095) = true ∧
    wellFormed (.supervisorCycle 0 0 0 4096) = false := by decide +kernel

theorem smoke_rxOk : wellFormed (.frameTimeout 1) = true ∧
    wellFormed (.frameTimeout 2) = false := by decide +kernel

theorem smoke_csiOk : wellFormed (.frameStart 1 3 2) = true ∧
    wellFormed (.frameStart 1 4 2) = false := by decide +kernel

theorem smoke_prismOk : wellFormed (.nopTimer 2) = true ∧
    wellFormed (.nopTimer 3) = false := by decide +kernel

theorem smoke_msgOk : wellFormed (.time 2 { pos := false, groups := List.replicate 34 0#10 }) = true ∧
    wellFormed (.time 2 { pos := false, groups := List.replicate 33 0#10 }) = false := by decide +kernel

theorem smoke_spansOk : wellFormed (.tfeWindowAbandon [(5, 5)]) = true ∧
    wellFormed (.tfeWindowAbandon [(5, 4)]) = false := by decide +kernel

theorem smoke_offsetOk : wellFormed (.registerWrite ⟨.bar0, 0xFFFC⟩ 0#32) = true ∧
    wellFormed (.registerWrite ⟨.bar2, 0x1FFC⟩ 0#32) = true ∧
    wellFormed (.registerWrite ⟨.config, 0xFFC⟩ 0#32) = true ∧
    wellFormed (.registerWrite ⟨.bar0, 0x10000⟩ 0#32) = false ∧
    wellFormed (.registerWrite ⟨.bar2, 0x2000⟩ 0#32) = false ∧
    wellFormed (.registerWrite ⟨.config, 0x1000⟩ 0#32) = false := by decide +kernel

theorem smoke_operands_0 : wellFormed (.debugChallengeResponse 1#8 (List.replicate 64 0#8) (List.replicate 64 0#8)) = true ∧
    wellFormed (.linkTrained 4 8) = true ∧
    wellFormed (.dramTrainingEnd 3 65536) = true ∧
    wellFormed (.phaseTrackWindow 0 0 10240 0) = true ∧
    wellFormed (.laneLost 0 (List.replicate 4 default)) = true ∧
    wellFormed (.debugChallengeResponse 1#8 (List.replicate 64 0#8) (List.replicate 63 0#8)) = false ∧
    wellFormed (.linkTrained 4 16) = false ∧
    wellFormed (.dramTrainingEnd 4 0) = false ∧
    wellFormed (.phaseTrackWindow 0 0 10240 1) = false ∧
    wellFormed (.laneLost 0 [{ (default : LaneWatch) with groups := List.replicate 1025 0#10 }, default, default, default]) = false :=
        by decide +kernel

theorem smoke_operands_1 : wellFormed (.switchingPeriod 0 true 432) = true ∧
    wellFormed (.tfeWindowEnd ⟨8388607, []⟩) = true ∧
    wellFormed (.safetyOutputPeriod 1) = true ∧
    wellFormed (.cameraRow 0 0 63 0 [65535] true 0) = true ∧
    wellFormed (.nak 0 aNak) = true ∧
    wellFormed (.switchingPeriod 0 true 433) = false ∧
    wellFormed (.tfeWindowEnd ⟨8388608, []⟩) = false ∧
    wellFormed (.safetyOutputPeriod 2) = false ∧
    wellFormed (.cameraRow 0 0 64 0 [] true 0) = false ∧
    wellFormed (.nak 0 silence) = false := by decide +kernel

theorem smoke_operands_2 : wellFormed (.wakeInput 3 true 0) = true ∧
    wellFormed (.i2cAddressMatch 127) = true ∧
    wellFormed (.adaptiveLoopTick (List.replicate 16 0)) = true ∧
    wellFormed (.limitWriteClamp 10 15 0) = true ∧
    wellFormed (.dramEccError 7 0 4294967295 true) = true ∧
    wellFormed (.wakeInput 4 true 0) = false ∧
    wellFormed (.i2cAddressMatch 128) = false ∧
    wellFormed (.adaptiveLoopTick (List.replicate 15 0)) = false ∧
    wellFormed (.limitWriteClamp 11 0 0) = false ∧
    wellFormed (.dramEccError 8 0 0 true) = false := by decide +kernel

/-! ### Duplicates in the urgent slot, malformed urgent verbs, a ring's size of 0 -/

theorem test_urgentDuplicate : (let s := after (.urgDoorbell 9#32) (after (.firmwareUrgentCommand [] true) (after (.urgDoorbell 9#32) urging))
    fwRunning s = true ∧ s.urg.slot.isSome = true ∧ s.fw.urgBusy = none ∧
    (s.fw.histUrg.find? fun x => x.tag == 9#16).isSome = true ∧
    (let t := after (.firmwareUrgentCommand [] true) s
     t.urg.slot = none ∧ t.urg.fwCount = 2 ∧ t.fw.histUrg = s.fw.histUrg ∧
     t.urg.fwReply.take 17 = replyPacket 9#16 0x0101#16 0#16 1 0 0 false [4#8])) := by decide +kernel

theorem test_malformedUrgentVerbs : (after (.haltMotion 3#16 1#16 0#16 0) up).urg.hwReply.take 16 = replyPacket 3#16 0xF001#16 1#16 5 5 0 false [] ∧
    (after (.captureFreeze 3#16 0#16 0#16 1) up).line.frozen = false ∧
    (after (.controlReset 3#16 0#16 0#16 0) up).rst.inEffect = none ∧
        (after (.controlReset 3#16 0#16 0xD1E5#16 0) up).rst.inEffect = some .control := by
  decide +kernel

theorem test_ringSizeZero : (after (.ringSizeWrite true 0#32) { up with host :=
    { up.host with rep := { size := 8, tail := 3#16, head := 3#16 } } }).host.rep =
    { size := 0, tail := 3#16, head := 3#16 } := by decide +kernel

end Sys2Proof.Tests
end

section
namespace Sys2Proof.Proofs

open Sys2Proof Sys2Proof.Machine Sys2Proof.Safety Sys2Proof.Laws

/-! ### Vectors read after a write -/

@[simp] theorem vget_vset_same {α : Type} [Inhabited α] {n : Nat} (v : Vector α n) {i : Nat} (a : α) (h : i < n) :
    vget (vset v i a) i = a := by
  simp [vget, vset, h]

@[simp] theorem vget_vset_other {α : Type} [Inhabited α] {n : Nat} (v : Vector α n) {i j : Nat} (a : α) (h : j ≠ i) :
    vget (vset v i a) j = vget v j := by
  simp [vget, vset, Vector.getElem?_setIfInBounds_ne h.symm]

/-- `vmod` writes the mapped element, and no element where the index is out of bounds. -/
theorem vmod_eq_vset {α : Type} [Inhabited α] {n : Nat} (v : Vector α n) (i : Nat) (f : α → α) :
    vmod v i f = vset v i (f (vget v i)) := by
  unfold vmod vset vget
  split
  · next a h => rw [h, Option.getD_some]
  · next h => rw [Vector.setIfInBounds_eq_of_size_le (Vector.getElem?_eq_none_iff.mp h)]

@[simp] theorem vget_vmod_same {α : Type} [Inhabited α] {n : Nat} (v : Vector α n) {i : Nat} (f : α → α) (h : i < n) :
    vget (vmod v i f) i = f (vget v i) := by
  rw [vmod_eq_vset, vget_vset_same v _ h]

@[simp] theorem vget_vmod_other {α : Type} [Inhabited α] {n : Nat} (v : Vector α n) {i j : Nat} (f : α → α) (h : j ≠ i) :
    vget (vmod v i f) j = vget v j := by
  rw [vmod_eq_vset, vget_vset_other v _ h]

/-! ### What a settled command leaves of INT_STATUS and of the units an interrupt register does not touch -/

/-- Raising a source changes its own bit of INT_STATUS at most. -/
theorem setInt_status_other {src i : Nat} (h : i ≠ src) (s : State) :
    (setInt src s).int.status.getLsbD i = s.int.status.getLsbD i := by
  have hbit : (s.int.status ||| (1#32 <<< src)).getLsbD i = s.int.status.getLsbD i := by
    rw [← BitVec.twoPow_eq, BitVec.getLsbD_or, BitVec.getLsbD_twoPow]
    simp [h.symm]
  unfold setInt
  split
  · rfl
  · dsimp only
    split
    · exact hbit
    · obtain ⟨p, o, e⟩ := sendMsix_frame (vectorOf { s.int with status := s.int.status ||| (1#32 <<< src) } src)
        { s with int := { s.int with status := s.int.status ||| (1#32 <<< src) } }
      rw [e]
      exact hbit

/-- Driving FAULT_N raises source 6 at most. -/
theorem driveFault_status_other {i : Nat} (h : i ≠ 6) (s : State) :
    (driveFault s).int.status.getLsbD i = s.int.status.getLsbD i := by
  unfold driveFault
  dsimp only
  split
  · exact setInt_status_other h _
  · rfl

/-- What follows every command leaves every bit of INT_STATUS but FAULT's own (R151, R155). -/
theorem settled_status_other {u t : State} (e : settled u = .next t) {i : Nat} (h : i ≠ 6) :
    t.int.status.getLsbD i = u.int.status.getLsbD i := by
  obtain ⟨d, p, o, hdue⟩ := sendDue_frame u
  obtain ⟨p', o', hpend⟩ := sendPending_frame (driveFault (sendDue u))
  have et : sendPending (driveFault (sendDue u)) = t := by injection e
  rw [← et, hpend]
  exact (driveFault_status_other h _).trans (by rw [hdue])

/-- A command that writes interrupt registers alone changes FAULT_N, the interrupt unit and the output log only. -/
theorem same_int_frame {s t : State} {u : IntU} (h : Same { s with int := u } t) :
    t = { s with pins := t.pins, int := t.int, outbox := t.outbox } := by
  obtain ⟨h, -⟩ := h
  generalize t.int = j, t.outbox = o at h ⊢
  rw [h]

/-! ### REGISTER_WRITE -/

theorem registerWrite_unreached {a : HostAddr} {s : State} (v : Word) (hw : windowReach a.win s = false) :
    exec (.registerWrite a v) s = settled s := by
  simp [exec, execRegisterWrite, hw]

theorem registerWrite_misaligned {a : HostAddr} {s : State} (v : Word) (hw : windowReach a.win s = true)
    (ha : a.offset % 4 ≠ 0) : exec (.registerWrite a v) s = .fault (.unalignedAccess a.offset) := by
  simp [exec, execRegisterWrite, hw, ha]

theorem registerWrite_aligned {a : HostAddr} {s : State} (v : Word) (hw : windowReach a.win s = true)
    (ha : a.offset % 4 = 0) : exec (.registerWrite a v) s = settled (windowWrite a.win a.offset v s) := by
  simp [exec, execRegisterWrite, hw, ha]

/-- The one way a command can fail to end in `settled`. Every meaning but REGISTER_WRITE's is `settled` of its effect as
it stands, under `onHost`, `onRing`, `powerRequest` or `runVerb` at most. -/
theorem exec_settles_or_misaligned (c : Instr) (s : State) :
    (∃ u, exec c s = settled u) ∨
      ∃ a v, c = .registerWrite a v ∧ windowReach a.win s = true ∧ a.offset % 4 ≠ 0 := by
  cases c with
  | registerWrite a v =>
    by_cases hw : windowReach a.win s = true
    · by_cases ha : a.offset % 4 = 0
      · exact .inl ⟨_, registerWrite_aligned v hw ha⟩
      · exact .inr ⟨a, v, rfl, hw, ha⟩
    · exact .inl ⟨s, registerWrite_unreached v (Bool.eq_false_iff.mpr hw)⟩
  | _ => exact .inl ⟨_, rfl⟩

/-- Settles O6: every command but a misaligned REGISTER_WRITE ends in `settled`, which answers a next state. -/
theorem everyCommandRuns : Obligations.EveryCommandRuns := by
  intro c s haligned
  obtain ⟨u, hu⟩ | ⟨a, v, rfl, -, ha⟩ := exec_settles_or_misaligned c s
  · obtain ⟨t, ht, -⟩ := settled_same u
    exact ⟨t, hu.trans ht⟩
  · exact absurd (haligned a v rfl) ha

/-- Settles O7: the fault is the branch of REGISTER_WRITE that a reached, misaligned write takes. -/
theorem unalignedAccessFaults : Obligations.UnalignedAccessFaults :=
  fun _ v _ hw ha => registerWrite_misaligned v hw ha

/-- A BAR0 register's write, as its access code and its rules state (R11). -/
theorem registerWrite_bar0 {o : Nat} {s : State} (v : Word) (hr : hostReach s = true) (ho : o % 4 = 0) :
    exec (.registerWrite ⟨.bar0, o⟩ v) s = settled (regWriteAt o v s) :=
  registerWrite_aligned v hr ho

theorem registerWrite_bar2 {o : Nat} {s : State} (v : Word) (hr : hostReach s = true) (ho : o % 4 = 0) :
    exec (.registerWrite ⟨.bar2, o⟩ v) s = settled (bar2Write o v s) :=
  registerWrite_aligned v hr ho

theorem regWriteAt_msixMap {m : Nat} (hm : m < 8) (v : Word) (s : State) :
    regWriteAt (0x2008 + 4 * m) v s = msixMapWrite m v s := by
  unfold regWriteAt
  rw [if_neg (by omega), if_neg (by omega), if_pos (by omega), show (0x2008 + 4 * m - 0x2008) / 4 = m by omega]

theorem bar2Write_msixData {e : Nat} (he : e < 64) (v : Word) (s : State) :
    bar2Write (16 * e + 8) v s =
      { s with int := { s.int with table := vmod s.int.table e (fun x => { x with data := v }) } } := by
  unfold bar2Write
  rw [if_pos (by omega), show (16 * e + 8) / 16 = e by omega, show (16 * e + 8) % 16 = 8 by omega]
  rfl

/-- W1C on INT_STATUS (R151): the bits written 1 are clear afterwards, but for FAULT's, which a cause may raise again
at once; the others stand. -/
theorem intStatusWrite_clears (v : Word) (s : State) :
    ∃ t, settled (clearInt v s) = .next t ∧ t.int.mask = s.int.mask ∧ t.int.map = s.int.map ∧
      (∀ i, i < 32 → i ≠ 6 → v.getLsbD i = true → t.int.status.getLsbD i = false) ∧
      (∀ i, v.getLsbD i = false → s.int.status.getLsbD i = true → t.int.status.getLsbD i = true) ∧
      t = { s with pins := t.pins, int := t.int, outbox := t.outbox } := by
  obtain ⟨t, ht, hsame, hkeeps, -⟩ := settled_spec (clearInt v s)
  obtain ⟨hmask, hmap, -⟩ := hsame.2
  refine ⟨t, ht, hmask, hmap, fun i _ h6 hv => ?_, fun i hv hi => ?_, same_int_frame hsame⟩
  · rw [settled_status_other ht h6]
    simp [clearInt, hv]
  · refine hkeeps i ?_
    have hi32 : i < 32 := BitVec.lt_of_getLsbD hi
    rw [clearInt, BitVec.getLsbD_and, BitVec.getLsbD_not, hv, hi]
    simp [hi32]

/-- R153: a write of MSIX_MAPm keeps the four vectors of 6 bits it spells, and no other register of the map moves. -/
theorem msixMapWrite_effect {m : Nat} (hm : m < 8) (v : Word) (s : State) :
    ∃ t, settled (msixMapWrite m v s) = .next t ∧ vget t.int.map m = v &&& 0x3F3F3F3F#32 ∧
      (∀ j, j ≠ m → vget t.int.map j = vget s.int.map j) ∧
      t = { s with pins := t.pins, int := t.int, outbox := t.outbox } := by
  obtain ⟨t, ht, hsame⟩ := settled_same (msixMapWrite m v s)
  obtain ⟨-, hmap, -⟩ := hsame.2
  refine ⟨t, ht, ?_, fun j hj => ?_, same_int_frame hsame⟩
  · rw [hmap]
    exact vget_vset_same _ _ hm
  · rw [hmap]
    exact vget_vset_other _ _ hj

/-- R78: a write of a table entry's data word leaves its address and its mask, and every other entry. -/
theorem msixDataWrite_effect {e : Nat} (he : e < 64) (v : Word) (s : State) :
    ∃ t, settled (bar2Write (16 * e + 8) v s) = .next t ∧
      vget t.int.table e = { vget s.int.table e with data := v } ∧
      (∀ j, j ≠ e → vget t.int.table j = vget s.int.table j) ∧
      t = { s with pins := t.pins, int := t.int, outbox := t.outbox } := by
  rw [bar2Write_msixData he]
  obtain ⟨t, ht, hsame⟩ := settled_same
    { s with int := { s.int with table := vmod s.int.table e (fun x => { x with data := v }) } }
  obtain ⟨-, -, -, -, htable⟩ := hsame.2
  refine ⟨t, ht, ?_, fun j hj => ?_, same_int_frame hsame⟩
  · rw [htable]
    exact vget_vmod_same _ _ he
  · rw [htable]
    exact vget_vmod_other _ _ hj

/-- Settles O23, a register at a time. -/
theorem plainRegisterWrites : Obligations.PlainRegisterWrites := by
  intro v s hr
  refine ⟨?cmdTail, ?intStatus, fun m hm => ?msixMap, ?wakeCause, ?resetCause, fun e he => ?msixData⟩
  case cmdTail =>
    rw [registerWrite_bar0 v hr rfl]
    exact settled_same (cmdTailWrite v s)
  case intStatus =>
    rw [registerWrite_bar0 v hr rfl]
    exact intStatusWrite_clears v s
  case msixMap =>
    rw [registerWrite_bar0 v hr (by omega), regWriteAt_msixMap hm]
    exact msixMapWrite_effect hm v s
  case wakeCause =>
    rw [registerWrite_bar0 v hr rfl]
    exact settled_same (wakeCauseClear v s)
  case resetCause =>
    rw [registerWrite_bar0 v hr rfl]
    exact settled_same (resetCauseClear v s)
  case msixData =>
    rw [registerWrite_bar2 v hr (by omega)]
    exact msixDataWrite_effect he v s

end Sys2Proof.Proofs
end
